-- ==== Sys2Proof/Word.lean ====
section
/-! DEFINITION. The words of the ports: frames, images and check sequences are runs of bytes. -/

namespace Sys2Proof

/-- One byte of a frame, a record or a table image (12, R192). -/
abbrev Byte := BitVec 8

/-- A two-byte field as it stands on the wire, and the CRC register (R193). -/
abbrev Word16 := BitVec 16

end Sys2Proof
end

