-- ==== Sys2Proof/Syntax.lean ====
section
/-! DEFINITION. The commands of the part, one constructor per row of spec/opcode_table.json. A command is what reaches
the part from outside, or one of the part's own steps that the table lists (95: "each whole and indivisible"). -/

namespace Sys2Proof

/-- The header of an air frame (R194) after its check sequence and length have been found good: fleet number, address
mode (0 CAB, 1 GROUP, 2 ZONE, 3 FLEET) and address value. The kind is the command's own. -/
structure AirHeader where
  fleet : Byte
  mode : Byte
  addr : Word16
  deriving DecidableEq, Repr

/-- The levels sampled at a timer tick (R1): true is active, on or high. -/
structure TickLines where
  seat : Bool
  emerg0 : Bool
  emerg1 : Bool
  ign : Bool
  supplyOk : Bool
  deriving DecidableEq, Repr

/-- The order in which the owners that hold entries back offer again when a place appears. R141 leaves it open
("the offer taken first gets the place"). -/
inductive OfferOrder
  | offersStoreMessages
  | offersMessagesStore
  | storeOffersMessages
  | storeMessagesOffers
  | messagesOffersStore
  | messagesStoreOffers
  deriving DecidableEq, Repr

/-- The commands. A local request carries the tag and the payload bytes of its frame (R197); an air frame carries its
header and payload bytes (R194, R195). -/
inductive Instr
  /-- READ_STATUS. R174. The part's figures, gathered. -/
  | readStatus (tag : Byte) (payload : List Byte)
  /-- READ_NOTICES. R179. The event flags, the notice setup and a summary. -/
  | readNotices (tag : Byte) (payload : List Byte)
  /-- CLEAR_EVENTS. R178. Clears the named event flags. -/
  | clearEvents (tag : Byte) (payload : List Byte)
  /-- NOTICE_SETUP. R178. Replaces the whole notice setup. -/
  | noticeSetup (tag : Byte) (payload : List Byte)
  /-- READ_OFFERS. R80. The Offer Unit's summary, or one entry. -/
  | readOffers (tag : Byte) (payload : List Byte)
  /-- ACCEPT. R68. The driver bids for an offer. -/
  | accept (tag : Byte) (payload : List Byte)
  /-- DISMISS. R79. Removes a SHOWN or closed entry. -/
  | dismiss (tag : Byte) (payload : List Byte)
  /-- POSITION. R61. Sets the current zone. -/
  | position (tag : Byte) (payload : List Byte)
  /-- JOB_CANCEL. R7. The driver gives up the awarded job. -/
  | jobCancel (tag : Byte) (payload : List Byte)
  /-- READ_METER. R18. The meter state and the trip figures. -/
  | readMeter (tag : Byte) (payload : List Byte)
  /-- HIRE. R9. Starts a trip. -/
  | hire (tag : Byte) (payload : List Byte)
  /-- END. R15. Ends the trip and freezes the fare. -/
  | endTrip (tag : Byte) (payload : List Byte)
  /-- PAID. R16. Finalises the trip record. -/
  | paid (tag : Byte) (payload : List Byte)
  /-- HOLD_ON. R13. Sets the hold request. -/
  | holdOn (tag : Byte) (payload : List Byte)
  /-- HOLD_OFF. R13. Clears the hold request. -/
  | holdOff (tag : Byte) (payload : List Byte)
  /-- EXTRA. R17. Adds an extra to the trip. -/
  | extra (tag : Byte) (payload : List Byte)
  /-- SHIFT_OPEN. R4. Opens a shift. -/
  | shiftOpen (tag : Byte) (payload : List Byte)
  /-- SHIFT_CLOSE. R5. Closes the shift. -/
  | shiftClose (tag : Byte) (payload : List Byte)
  /-- READ_STORE. R57. A live shift report, or one stored record. -/
  | readStore (tag : Byte) (payload : List Byte)
  /-- READ_MESSAGE. R97. The Message Store's summary, or one message. -/
  | readMessage (tag : Byte) (payload : List Byte)
  /-- MSG_READ. R90. The driver has read a message. -/
  | msgRead (tag : Byte) (payload : List Byte)
  /-- MSG_ANSWER. R91. The driver answers a message. -/
  | msgAnswer (tag : Byte) (payload : List Byte)
  /-- DRIVER_MSG. R96. The driver's own message to dispatch. -/
  | driverMsg (tag : Byte) (payload : List Byte)
  /-- READ_PASS. R180. Removes and returns the oldest pass-through frame. -/
  | readPass (tag : Byte) (payload : List Byte)
  /-- PASS_UP. R181. Sends pass-through data to dispatch. -/
  | passUp (tag : Byte) (payload : List Byte)
  /-- READ_FAULT. R183. The fault capture record. -/
  | readFault (tag : Byte) (payload : List Byte)
  /-- RELEASE_FAULT. R183. Empties the fault capture record. -/
  | releaseFault (tag : Byte) (payload : List Byte)
  /-- LOCAL_TABLE_OPEN. R157. TABLE_OPEN from the terminal; `svc` is the level of SVC when it is sampled (R156). -/
  | localTableOpen (svc : Bool) (tag : Byte) (payload : List Byte)
  /-- LOCAL_TABLE_SEGMENT. R158. TABLE_SEGMENT from the terminal. -/
  | localTableSegment (tag : Byte) (payload : List Byte)
  /-- LOCAL_TABLE_COMMIT. R160. TABLE_COMMIT from the terminal; `svc` as above. -/
  | localTableCommit (svc : Bool) (tag : Byte) (payload : List Byte)
  /-- LOCAL_TABLE_ABORT. R159. TABLE_ABORT from the terminal. -/
  | localTableAbort (tag : Byte) (payload : List Byte)
  /-- SOFT_RESET. R175. A soft reset. -/
  | softReset (tag : Byte) (payload : List Byte)
  /-- LOCAL_FRAME_MALFORMED. R172. The bytes of a selection that fail the check sequence, length or kind check. -/
  | localFrameMalformed (bytes : List Byte)
  /-- START_MARKER. R119. A start marker on the air port. -/
  | startMarker
  /-- AIR_FRAME_REJECTED. R119 to R127. The bytes between the markers, at the end marker of a frame that fails a receive check. -/
  | airFrameRejected (bytes : List Byte)
  /-- OFFER. R63. An OFFER frame at its end marker. -/
  | offer (hdr : AirHeader) (payload : List Byte)
  /-- OFFER_WITHDRAW. R75. -/
  | offerWithdraw (hdr : AirHeader) (payload : List Byte)
  /-- AWARD. R72, R73. -/
  | award (hdr : AirHeader) (payload : List Byte)
  /-- REFUSE. R74. -/
  | refuse (hdr : AirHeader) (payload : List Byte)
  /-- MESSAGE. R86 to R89. -/
  | message (hdr : AirHeader) (payload : List Byte)
  /-- MESSAGE_RECALL. R92. -/
  | messageRecall (hdr : AirHeader) (payload : List Byte)
  /-- CYCLE. R130, R131. -/
  | cycle (hdr : AirHeader) (payload : List Byte)
  /-- STATUS_POLL. R143. -/
  | statusPoll (hdr : AirHeader) (payload : List Byte)
  /-- AIR_TABLE_OPEN. R157. TABLE_OPEN from dispatch. -/
  | airTableOpen (hdr : AirHeader) (payload : List Byte)
  /-- AIR_TABLE_SEGMENT. R158. -/
  | airTableSegment (hdr : AirHeader) (payload : List Byte)
  /-- AIR_TABLE_COMMIT. R160. -/
  | airTableCommit (hdr : AirHeader) (payload : List Byte)
  /-- AIR_TABLE_ABORT. R159. -/
  | airTableAbort (hdr : AirHeader) (payload : List Byte)
  /-- TOTAL_ACK. R48. -/
  | totalAck (hdr : AirHeader) (payload : List Byte)
  /-- EMERGENCY_ACK. R105. -/
  | emergencyAck (hdr : AirHeader) (payload : List Byte)
  /-- EMERGENCY_CLEAR. R106. -/
  | emergencyClear (hdr : AirHeader) (payload : List Byte)
  /-- PASS. R180. -/
  | pass (hdr : AirHeader) (payload : List Byte)
  /-- GRANT. R145, R146. The arbiter grants the modem. -/
  | grant
  /-- TX_DONE. R148, R151. The modem reports that the frame has gone out. -/
  | txDone
  /-- TX_FAIL. R149, R151. The modem reports failure; `withDone` when TX_DONE is raised together with it. -/
  | txFail (withDone : Bool)
  /-- RESPONSE_TIMER_EXPIRY. R150. No result within 30 ticks. -/
  | responseTimerExpiry
  /-- SETTLE_TIMER_EXPIRY. R150. The settle timer has reached 0. -/
  | settleTimerExpiry
  /-- PLACE_APPEARS. R141. Every owner that holds an entry back offers it again, in the given order. -/
  | placeAppears (order : OfferOrder)
  /-- ACK_TIMER_EXPIRY. R47. The TOTAL sender's ack timer has reached 0. -/
  | ackTimerExpiry
  /-- LINK_LOSS_TIMER_EXPIRY. R133. -/
  | linkLossTimerExpiry
  /-- OFFER_LIFETIME_EXPIRY. R67. The lifetime of the named SHOWN entry has reached 0. -/
  | offerLifetimeExpiry (offerId : Nat)
  /-- BID_LIFETIME_EXPIRY. R70. The lifetime of the entry in BID has reached 0. -/
  | bidLifetimeExpiry
  /-- AWARD_WAIT_EXPIRY. R71. -/
  | awardWaitExpiry
  /-- INACTIVITY_TIMER_EXPIRY. R159. -/
  | inactivityTimerExpiry
  /-- ACTIVATION. R103. The press timer has reached 0 in PRESSING. -/
  | activation
  /-- ESCALATION. R104. The press timer has reached 0 in ACKED. -/
  | escalation
  /-- INTERVAL_TIMER_EXPIRY. R108. -/
  | intervalTimerExpiry
  /-- SEAT_CHECK. R20. -/
  | seatCheck
  /-- IGN_DEBOUNCE_END. R186. -/
  | ignDebounceEnd
  /-- ROOF_BLINK_TOGGLE. R21. -/
  | roofBlinkToggle
  /-- TIMER_TICK. R1. The 100 ms event, with the levels it samples. -/
  | timerTick (lines : TickLines)
  /-- METER_SECOND. R36. The one-second event. -/
  | meterSecond
  /-- DIST_PULSE. R33. One DIST pulse. -/
  | distPulse
  /-- SHED_ENTRY. R188. SUPPLY_OK was found low with the supply UP. -/
  | shedEntry
  /-- SUPPLY_RETURN. R189. The supply confirm count has reached 5. -/
  | supplyReturn
  /-- POWER_UP. R191. The retained domain powers up with its check failed. -/
  | powerUp
  /-- MAIN_RESET. R190. The RESET pin changes to `level`: low holds the main domain reset, high releases it. -/
  | mainReset (level : Bool)
  deriving DecidableEq, Repr

end Sys2Proof
end

