-- ==== Sys2Proof/Decode.lean ====
section
/-! DEFINITION. Commands from table words. No row of spec/opcode_table.json gives bits: the commands have no encoding
as a word, so every word is refused. Machine/Ports.lean reads commands from the bytes of the part's two ports. -/

namespace Sys2Proof

/-- The command a table word spells: none, for the table gives no row any bits (log 29). -/
def decodeTableWord (_nbits _w : Nat) : Option Instr := none

end Sys2Proof
end

