-- ==== Sys2Proof/Config.lean ====
section
/-! DEFINITION. The fixed figures of the part: ranges, sizes and durations the spec states; no figure here is the
model's own. The one free value, `Config.retainedBytes`, the layout of the retained domain under its check (log 10),
stands in Machine/State.lean beside the state it lays out. -/

namespace Sys2Proof.Config

/-- Greatest trip amount (00, Money). -/
abbrev moneyMax : Nat := 999999
/-- Greatest shift sum (R51). -/
abbrev sumMax : Nat := 99999999
/-- Greatest two-byte count. -/
abbrev countMax : Nat := 65535
/-- Greatest one-byte count. -/
abbrev smallMax : Nat := 255
/-- Greatest pulse count and greatest distance in metres (R10, R39). -/
abbrev pulseMax : Nat := 4294967295
/-- The pulse clamp of one closing (R33). -/
abbrev clamp : Nat := 4095
/-- Records the Fare Store holds (R42). -/
abbrev storeSize : Nat := 16
/-- Entries the Offer Table holds (R58). -/
abbrev offerSize : Nat := 8
/-- Cancels the cancel list holds (R76). -/
abbrev cancelSize : Nat := 4
/-- Messages the Message Store holds, and its text pool (R83). -/
abbrev messageSize : Nat := 12
abbrev poolSize : Nat := 1536
/-- RECEIPT entries the Message Store may have queued or in flight (R93). -/
abbrev receiptLimit : Nat := 3
/-- Shared places of the uplink queue (R140). -/
abbrev sharedPlaces : Nat := 6
/-- Frames the pass-through queue holds (R180). -/
abbrev passSize : Nat := 4
/-- Greatest air payload and greatest air frame (R194). -/
abbrev airPayloadMax : Nat := 200
abbrev airFrameMax : Nat := 208
/-- Response and settle timers in ticks (R150). -/
abbrev responseTicks : Nat := 30
abbrev settleTicks : Nat := 2
/-- Load inactivity timer in seconds (R157). -/
abbrev inactivitySeconds : Nat := 30
/-- Ignition debounce, supply confirmation and roof half period in ticks (R186, R189, R21). -/
abbrev debounceTicks : Nat := 20
abbrev confirmTicks : Nat := 5
abbrev roofTicks : Nat := 5
/-- Greatest seat count (R20). -/
abbrev seatMax : Nat := 600

end Sys2Proof.Config
end

