-- ==== Sys2Proof/Machine/Bytes.lean ====
section
/-! DEFINITION. Field encodings (R192), the check sequence (R193) and the reading of fields from bytes. -/

namespace Sys2Proof.Machine

/-! ## Writing fields (R192) -/

/-- A one-byte count, code or number. -/
def u8 (n : Nat) : List Byte := [BitVec.ofNat 8 n]

/-- A two-byte number, most significant byte first. -/
def u16 (n : Nat) : List Byte := [BitVec.ofNat 8 (n / 256), BitVec.ofNat 8 n]

/-- A three-byte number (a second of the day, an event set). -/
def u24 (n : Nat) : List Byte := BitVec.ofNat 8 (n / 65536) :: u16 n

/-- A four-byte number (a distance, a count above 65,535). -/
def u32 (n : Nat) : List Byte := u16 (n / 65536) ++ u16 n

/-- Two packed decimal digits, the more significant in the upper half. -/
def bcdByte (n : Nat) : Byte := BitVec.ofNat 8 (n / 10 % 10 * 16 + n % 10)

/-- A trip amount: six packed decimal digits. -/
def amount (n : Nat) : List Byte := [bcdByte (n / 10000), bcdByte (n / 100), bcdByte n]

/-- A shift sum: eight packed decimal digits. -/
def shiftSum (n : Nat) : List Byte := bcdByte (n / 1000000) :: amount n

/-- A yes or no, set or clear, on or off field (R197). -/
def flag (b : Bool) : List Byte := [if b then 1 else 0]

/-- A text: a length byte and the bytes. -/
def text (t : List Byte) : List Byte := u8 t.length ++ t

/-- An optional id or zone: 0 means absent. -/
def optId (o : Option Nat) : List Byte := u16 (o.getD 0)

/-- A flags byte: bit n is the n-th of the list. -/
def flagByte (bs : List Bool) : List Byte :=
  [bs.foldr (fun b acc => (acc <<< 1) ||| (if b then 1#8 else 0#8)) 0#8]

/-- An optional field whose type has no absent value: a presence byte, then the field when present (R197, log 17). -/
def optional (o : Option (List Byte)) : List Byte :=
  match o with
  | none => [0]
  | some bs => 1 :: bs

/-- A list of varying length: a count byte, then the elements (R197). -/
def counted (elems : List (List Byte)) : List Byte := u8 elems.length ++ elems.flatten

/-! ## Reading fields -/

/-- Unsigned binary, most significant byte first. -/
def beNat (bs : List Byte) : Nat := bs.foldl (fun acc b => acc * 256 + b.toNat) 0

/-- Packed decimal; none when a half byte is above 9 (R192). -/
def bcdNat (bs : List Byte) : Option Nat :=
  bs.foldl (fun acc b =>
    acc.bind fun n =>
      let hi := b.toNat / 16
      let lo := b.toNat % 16
      if hi ≤ 9 && lo ≤ 9 then some (n * 100 + hi * 10 + lo) else none) (some 0)

/-- The byte at an offset, 0 beyond the end. -/
def byteAt (bs : List Byte) (i : Nat) : Nat := (bs.getD i 0).toNat

/-- The field of `n` bytes at offset `i`. -/
def slice (bs : List Byte) (i n : Nat) : List Byte := (bs.drop i).take n

/-! ## The check sequence (R193) -/

/-- One bit enters the register. -/
def crcBit (reg : Word16) (bit : Bool) : Word16 :=
  let shifted := reg <<< 1
  if reg.msb != bit then shifted ^^^ 0x1021#16 else shifted

/-- One byte enters, most significant bit first. -/
def crcByte (reg : Word16) (b : Byte) : Word16 :=
  [7, 6, 5, 4, 3, 2, 1, 0].foldl (fun r i => crcBit r (b.getLsbD i)) reg

/-- The register after a run of bytes, from `reg`. -/
def crcFrom (reg : Word16) (bs : List Byte) : Word16 := bs.foldl crcByte reg

/-- The value the register starts at. -/
def crcStart : Word16 := 0xFFFF#16

/-- The check sequence over a run of bytes. -/
def crc16 (bs : List Byte) : Word16 := crcFrom crcStart bs

/-- The sender appends the register, high byte first. -/
def withCrc (bs : List Byte) : List Byte := bs ++ u16 (crc16 bs).toNat

/-- A receiver's test: the register over every byte, the check bytes included, ends at 0000h. -/
def crcGood (bs : List Byte) : Bool := crc16 bs == 0#16

/-! ## Numbers -/

/-- An addition that stays at the maximum (00, Counts and Money). -/
def satAdd (max a b : Nat) : Nat := min max (a + b)

/-- The successor of a sequence number 1..max, which passes from max to 1 (00, Identifiers). -/
def seqNext (max n : Nat) : Nat := if n = max then 1 else n + 1

end Sys2Proof.Machine
end

