-- ==== Sys2Proof/Machine/Operands.lean ====
section
/-! DEFINITION. The operands of the commands: the fields of air payloads, checked field by field with the position of
the first failing field (R127, R195), and the fields of local request payloads (R197). -/

namespace Sys2Proof.Machine

/-! ## A cursor over a payload -/

/-- The bytes not yet read, and the position of the next field, counted from 1. -/
structure Cursor where
  rest : List Byte
  pos : Nat
  deriving DecidableEq, Repr

/-- The next field: `n` bytes that `decode` accepts; the field's position when they do not hold one. -/
def Cursor.field {α : Type} (n : Nat) (decode : List Byte → Option α) (c : Cursor) : Except Nat (α × Cursor) :=
  if c.rest.length < n then .error c.pos
  else
    match decode (c.rest.take n) with
    | none => .error c.pos
    | some v => .ok (v, { rest := c.rest.drop n, pos := c.pos + 1 })

/-- An unsigned field of `n` bytes in a range. -/
def Cursor.number (n lo hi : Nat) (c : Cursor) : Except Nat (Nat × Cursor) :=
  c.field n fun bs => let v := beNat bs; if lo ≤ v ∧ v ≤ hi then some v else none

/-- A text whose length lies in a range. -/
def Cursor.text (lo hi : Nat) (c : Cursor) : Except Nat (List Byte × Cursor) :=
  match c.rest with
  | [] => .error c.pos
  | b :: bs =>
    if lo ≤ b.toNat ∧ b.toNat ≤ hi ∧ b.toNat ≤ bs.length then
      .ok (bs.take b.toNat, { rest := bs.drop b.toNat, pos := c.pos + 1 })
    else .error c.pos

/-- All remaining bytes, at least one. -/
def Cursor.data (c : Cursor) : Except Nat (List Byte × Cursor) :=
  if c.rest.isEmpty then .error c.pos else .ok (c.rest, { rest := [], pos := c.pos + 1 })

/-- A list of `n` one-byte codes 1..255, each counted as a field of its own: R195 does not say whether the option codes of a
MESSAGE are one field of the numbering or one each (log 34, DESIGN CHOICE). -/
def Cursor.codes (n : Nat) (c : Cursor) : Except Nat (List Nat × Cursor) :=
  match n with
  | 0 => .ok ([], c)
  | k + 1 => do
    let (v, c) ← c.number 1 1 255
    let (vs, c) ← c.codes k
    return (v :: vs, c)

/-- Nothing may follow the last field: bytes beyond it fail at the number of fields plus 1. -/
def Cursor.done {α : Type} (v : α) (c : Cursor) : Except Nat α :=
  if c.rest.isEmpty then .ok v else .error c.pos

/-- The cursor at the start of a payload. -/
def Cursor.start (payload : List Byte) : Cursor := { rest := payload, pos := 1 }

/-! ## Downlink payloads (R195) -/

/-- The fields of an OFFER. -/
structure OfferFields where
  id : Nat
  lifetime : Nat
  account : Bool
  estimate : Option Nat
  text : List Byte
  deriving DecidableEq, Repr

/-- An OFFER's payload (R195). The fare estimate's three bytes are present whatever its flag holds (R192), so it counts
as the fourth field and the pickup text as the fifth; R195's "only the fields that are present" leaves that open where
the flag is clear (log 33, DESIGN CHOICE). -/
def parseOffer (payload : List Byte) : Except Nat OfferFields := do
  let (id, c) ← (Cursor.start payload).number 2 1 65535
  let (lifetime, c) ← c.number 1 5 255
  let (flags, c) ← c.number 1 0 3
  let (estimate, c) ← c.field 3 fun bs =>
    if flags / 2 % 2 = 1 then (bcdNat bs).map some else if beNat bs = 0 then some none else none
  let (pickup, c) ← c.text 0 120
  c.done { id, lifetime, account := flags % 2 = 1, estimate, text := pickup }

/-- A payload of one id, 1..65,535. -/
def parseId (payload : List Byte) : Except Nat Nat := do
  let (id, c) ← (Cursor.start payload).number 2 1 65535
  c.done id

/-- The fields of a MESSAGE. -/
structure MessageFields where
  id : Nat
  urgent : Bool
  wanted : Bool
  options : List Nat
  text : List Byte
  deriving DecidableEq, Repr

/-- A MESSAGE's payload (R195). Its text is the field after the option codes, position 4 + n after n of them (log 34). -/
def parseMessage (payload : List Byte) : Except Nat MessageFields := do
  let (id, c) ← (Cursor.start payload).number 2 1 65535
  let (flags, c) ← c.number 1 0 3
  let (count, c) ← c.number 1 0 4
  let (options, c) ← c.codes count
  let (body, c) ← c.text 1 180
  c.done { id, urgent := flags % 2 = 1, wanted := flags / 2 % 2 = 1, options, text := body }

/-- The fields of a CYCLE (7.5). -/
structure CycleFields where
  day : Nat
  second : Nat
  number : Nat
  allowance : Nat
  quiet : Bool
  deriving DecidableEq, Repr

def parseCycle (payload : List Byte) : Except Nat CycleFields := do
  let (day, c) ← (Cursor.start payload).number 1 0 6
  let (second, c) ← c.number 3 0 86399
  let (number, c) ← c.number 1 0 255
  let (allowance, c) ← c.number 1 0 7
  let (quiet, c) ← c.number 1 0 1
  c.done { day, second, number, allowance, quiet := quiet = 1 }

/-- A payload with no fields. -/
def parseNone (payload : List Byte) : Except Nat Unit := (Cursor.start payload).done ()

/-- A payload of data, at least one byte. -/
def parseData (payload : List Byte) : Except Nat (List Byte) := do
  let (data, c) ← (Cursor.start payload).data
  c.done data

/-- The tables that are loaded, by their ids 1 to 5. -/
inductive TableId
  | address | zone | tariff | settings | identity
  deriving DecidableEq, Repr

def TableId.code : TableId → Nat
  | .address => 1 | .zone => 2 | .tariff => 3 | .settings => 4 | .identity => 5

def TableId.ofCode (n : Nat) : Option TableId :=
  match n with
  | 1 => some .address
  | 2 => some .zone
  | 3 => some .tariff
  | 4 => some .settings
  | 5 => some .identity
  | _ => none

/-- The table id and generation number that open every table payload. -/
def Cursor.tableHead (c : Cursor) : Except Nat ((TableId × Nat) × Cursor) := do
  let (table, c) ← c.field 1 fun bs => TableId.ofCode (beNat bs)
  let (generation, c) ← c.number 2 1 65535
  return ((table, generation), c)

/-- The fields of a TABLE_OPEN. -/
structure OpenFields where
  table : TableId
  generation : Nat
  length : Nat
  deriving DecidableEq, Repr

def parseOpen (payload : List Byte) : Except Nat OpenFields := do
  let ((table, generation), c) ← (Cursor.start payload).tableHead
  let (length, c) ← c.number 2 1 4096
  c.done { table, generation, length }

/-- The fields of a TABLE_SEGMENT. -/
structure SegmentFields where
  table : TableId
  generation : Nat
  offset : Nat
  data : List Byte
  deriving DecidableEq, Repr

def parseSegment (payload : List Byte) : Except Nat SegmentFields := do
  let ((table, generation), c) ← (Cursor.start payload).tableHead
  let (offset, c) ← c.number 2 0 4095
  let (data, c) ← c.data
  c.done { table, generation, offset, data }

/-- The fields of a TABLE_COMMIT. -/
structure CommitFields where
  table : TableId
  generation : Nat
  check : Nat
  deriving DecidableEq, Repr

def parseCommit (payload : List Byte) : Except Nat CommitFields := do
  let ((table, generation), c) ← (Cursor.start payload).tableHead
  let (check, c) ← c.number 2 0 65535
  c.done { table, generation, check }

/-- The fields of a TABLE_ABORT. -/
structure AbortFields where
  table : TableId
  generation : Nat
  deriving DecidableEq, Repr

def parseAbort (payload : List Byte) : Except Nat AbortFields := do
  let ((table, generation), c) ← (Cursor.start payload).tableHead
  c.done { table, generation }

/-- The position of the first failing field, none for a good payload (R127). -/
def failingField {α : Type} (r : Except Nat α) : Option Nat :=
  match r with
  | .error pos => some pos
  | .ok _ => none

/-! ## Downlink kinds (R118, R194) -/

/-- The downlink kinds. -/
inductive DownKind
  | offer | offerWithdraw | award | refuse | message | messageRecall | cycle | statusPoll
  | tableOpen | tableSegment | tableCommit | tableAbort | totalAck | emergencyAck | emergencyClear | pass
  deriving DecidableEq, Repr

/-- The downlink classes, in the order of the class set's bits (R198). -/
inductive DownClass
  | offers | messages | control | management | pass
  deriving DecidableEq, Repr

def DownKind.code : DownKind → Nat
  | .offer => 0x01 | .offerWithdraw => 0x02 | .award => 0x03 | .refuse => 0x04
  | .message => 0x05 | .messageRecall => 0x06 | .cycle => 0x07 | .statusPoll => 0x08
  | .tableOpen => 0x09 | .tableSegment => 0x0A | .tableCommit => 0x0B | .tableAbort => 0x0C
  | .totalAck => 0x0D | .emergencyAck => 0x0E | .emergencyClear => 0x0F | .pass => 0x10

def DownKind.ofCode (n : Nat) : Option DownKind :=
  match n with
  | 0x01 => some .offer
  | 0x02 => some .offerWithdraw
  | 0x03 => some .award
  | 0x04 => some .refuse
  | 0x05 => some .message
  | 0x06 => some .messageRecall
  | 0x07 => some .cycle
  | 0x08 => some .statusPoll
  | 0x09 => some .tableOpen
  | 0x0A => some .tableSegment
  | 0x0B => some .tableCommit
  | 0x0C => some .tableAbort
  | 0x0D => some .totalAck
  | 0x0E => some .emergencyAck
  | 0x0F => some .emergencyClear
  | 0x10 => some .pass
  | _ => none

def DownKind.cls : DownKind → DownClass
  | .offer | .offerWithdraw | .award | .refuse => .offers
  | .message | .messageRecall => .messages
  | .cycle | .statusPoll => .control
  | .tableOpen | .tableSegment | .tableCommit | .tableAbort
  | .totalAck | .emergencyAck | .emergencyClear => .management
  | .pass => .pass

/-- The bit of a class in a class set (R198). -/
def DownClass.bit : DownClass → Nat
  | .offers => 0 | .messages => 1 | .control => 2 | .management => 3 | .pass => 4

/-- The uplink kind codes 40h to 49h (R194). -/
def isUplinkCode (n : Nat) : Bool := 0x40 ≤ n && n ≤ 0x49

/-- The sixth receive check on a payload of a downlink kind: the position of the first failing field (R127). -/
def payloadFault (k : DownKind) (payload : List Byte) : Option Nat :=
  match k with
  | .offer => failingField (parseOffer payload)
  | .offerWithdraw | .award | .refuse | .messageRecall | .totalAck => failingField (parseId payload)
  | .message => failingField (parseMessage payload)
  | .cycle => failingField (parseCycle payload)
  | .statusPoll | .emergencyAck | .emergencyClear => failingField (parseNone payload)
  | .tableOpen => failingField (parseOpen payload)
  | .tableSegment => failingField (parseSegment payload)
  | .tableCommit => failingField (parseCommit payload)
  | .tableAbort => failingField (parseAbort payload)
  | .pass => failingField (parseData payload)

/-! ## Local frames and request payloads (R172, R197) -/

/-- The first failing check of a local frame's bytes: 1 check sequence, 2 length, 3 kind; none for a request. -/
def localFault (bytes : List Byte) : Option Nat :=
  if bytes.length < 5 ∨ crcGood bytes = false then some 1
  else if bytes.length ≠ 5 + byteAt bytes 2 then some 2
  else if byteAt bytes 0 < 0x80 ∨ 0x9F < byteAt bytes 0 then some 3
  else none

/-- A payload of no bytes. -/
def argNone (payload : List Byte) : Option Unit := if payload.isEmpty then some () else none

/-- A payload of one byte. -/
def argByte (payload : List Byte) : Option Nat :=
  match payload with
  | [b] => some b.toNat
  | _ => none

/-- A payload of one two-byte field. -/
def argWord (payload : List Byte) : Option Nat :=
  match payload with
  | [a, b] => some (beNat [a, b])
  | _ => none

/-- CLEAR_EVENTS: an event set of three bytes in which only the eighteen kinds are named (R178). -/
def argEventSet (payload : List Byte) : Option (BitVec 18) :=
  match payload with
  | [a, b, c] => let v := beNat [a, b, c]; if v < 2 ^ 18 then some (BitVec.ofNat 18 v) else none
  | _ => none

/-- The bits of eighteen bytes: bit n of the answer is bit `i` of the n-th byte. -/
def columnBits (i : Nat) (bs : List Byte) : BitVec 18 :=
  bs.foldr (fun b acc => (acc <<< 1) ||| (if b.getLsbD i then 1#18 else 0#18)) 0#18

/-- NOTICE_SETUP: eighteen bytes, bit 0 the enable and bit 1 the line (R178, R197). -/
def argNotices (payload : List Byte) : Option (BitVec 18 × BitVec 18) :=
  if payload.length = 18 ∧ payload.all (fun b => b.toNat < 4) then
    some (columnBits 0 payload, columnBits 1 payload)
  else none

/-- MSG_ANSWER: a message id and a reply code 1..255 (R91). -/
def argAnswer (payload : List Byte) : Option (Nat × Nat) :=
  match payload with
  | [a, b, c] => if c.toNat = 0 then none else some (beNat [a, b], c.toNat)
  | _ => none

/-- What a driver message carries (R96). -/
inductive DriverText
  | code (n : Nat)
  | text (t : List Byte)
  deriving DecidableEq, Repr

/-- DRIVER_MSG: either a code 1..255 or a text of 1..64 bytes (R96). -/
def argDriver (payload : List Byte) : Option DriverText :=
  match payload with
  | c :: n :: body =>
    if n.toNat ≠ body.length then none
    else if c.toNat ≠ 0 then (if body.isEmpty then some (.code c.toNat) else none)
    else if 1 ≤ body.length ∧ body.length ≤ 64 then some (.text body)
    else none
  | _ => none

/-- PASS_UP: 1..199 data bytes (R181). -/
def argUp (payload : List Byte) : Option (List Byte) :=
  if 1 ≤ payload.length ∧ payload.length ≤ 199 then some payload else none

end Sys2Proof.Machine
end

