-- ==== Sys2Proof/Machine/State.lean ====
section
/-! DEFINITION. The state of the part as plain data, block by block, the state after reset, and the reasons a step can
stop. Each block's fields cite the rule that names them; INVENTORY.md lists them with their reset values. -/

namespace Sys2Proof.Machine

/-! ## Time Base (R1) -/

/-- The local clock: day of week 0..6 and second of the day 0..86,399 (R1). -/
structure Clock where
  day : Nat
  second : Nat
  deriving DecidableEq, Repr

/-- The local clock and the time-known flag (R1). -/
structure Time where
  clock : Clock
  known : Bool
  deriving DecidableEq, Repr

/-! ## Tariff table (R24 to R26) -/

/-- A band's window (R25): start and end second, and the day mask with bit n for day n. -/
structure Window where
  start : Nat
  stop : Nat
  days : Byte
  deriving DecidableEq, Repr

/-- A band of the tariff table (R25). -/
structure Band where
  number : Nat
  window : Option Window
  flagFall : Nat
  coverage : Nat
  value1 : Nat
  length1 : Nat
  value2 : Nat
  metres : Nat
  seconds : Nat
  gateClears : Bool
  selectable : Bool
  deriving DecidableEq, Repr

/-- An entry of the tariff's extras list (R26). -/
structure Extra where
  amount : Nat
  max : Nat
  deriving DecidableEq, Repr

/-- A loaded tariff table (R24). -/
structure Tariff where
  version : Nat
  bands : List Band
  extras : List Extra
  deriving DecidableEq, Repr

/-! ## Meter Unit (R2, R10) -/

/-- The five meter states (1.1), in the order of their codes (R196). -/
inductive MeterState
  | off | vacant | assigned | hired | total
  deriving DecidableEq, Repr

/-- The trip's copy of its band, with D derived at HIRE (R10). -/
structure BandCopy where
  flagFall : Nat
  coverage : Nat
  value1 : Nat
  length1 : Nat
  value2 : Nat
  metres : Nat
  seconds : Nat
  gateClears : Bool
  pulses : Nat
  deriving DecidableEq, Repr

/-- A copied extra with its used count (R10). -/
structure TripExtra where
  amount : Nat
  max : Nat
  used : Nat
  deriving DecidableEq, Repr

/-- The five trip flags (R10), in the order of the record's bits (R196). -/
structure TripFlags where
  fareCapped : Bool
  timeUnknown : Bool
  holdUsed : Bool
  emergencyDuring : Bool
  distOverrate : Bool
  deriving DecidableEq, Repr

/-- The trip context (R10). -/
structure Trip where
  number : Nat
  jobId : Option Nat
  band : Nat
  copy : BandCopy
  version : Nat
  extras : List TripExtra
  fare : Nat
  extrasTotal : Nat
  increments : Nat
  accumulator : Nat
  gateOpen : Bool
  pulses : Nat
  gatedPulses : Nat
  startClock : Clock
  endClock : Option Clock
  flags : TripFlags
  deriving DecidableEq, Repr

/-- The Meter Unit's state (R2). -/
structure Meter where
  state : MeterState
  jobId : Option Nat
  lastTrip : Nat
  hold : Bool
  trip : Option Trip
  deriving DecidableEq, Repr

/-- The seat check (R20). `due` is the model's own: the last tick met the threshold with the mark clear (log 16). -/
structure Seat where
  count : Nat
  reported : Bool
  due : Bool
  deriving DecidableEq, Repr

/-- The phase of ROOF (R21): following the meter; armed by a settings commit and turning on at the next tick, with the
level it holds until then (log 13); or blinking, with the ticks counted since it last changed. -/
inductive RoofPhase
  | steady
  | armed (level : Bool)
  | blinking (on : Bool) (ticks : Nat)
  deriving DecidableEq, Repr

/-! ## Fare Store (R42) -/

/-- A finished trip record (R16, R196). -/
structure TripRecord where
  trip : Nat
  shift : Nat
  jobId : Option Nat
  band : Nat
  version : Nat
  startClock : Clock
  endClock : Clock
  distance : Nat
  gatedDistance : Nat
  fare : Nat
  extrasTotal : Nat
  total : Nat
  flags : TripFlags
  deriving DecidableEq, Repr

/-- The shift totals (R51). -/
structure ShiftTotals where
  shift : Nat
  ended : Nat
  fareSum : Nat
  extrasSum : Nat
  hiredPulses : Nat
  totalPulses : Nat
  ackCount : Nat
  ackSum : Nat
  foldedCount : Nat
  foldedSum : Nat
  earlierCount : Nat
  earlierSum : Nat
  deriving DecidableEq, Repr

/-- A shift report (R54, R196). -/
structure ShiftReport where
  shift : Nat
  ended : Nat
  fareSum : Nat
  extrasSum : Nat
  hiredMetres : Nat
  totalMetres : Nat
  ackCount : Nat
  ackSum : Nat
  foldedCount : Nat
  foldedSum : Nat
  earlierCount : Nat
  earlierSum : Nat
  storedCount : Nat
  storedSum : Nat
  deriving DecidableEq, Repr

/-- The TOTAL sender (R42): idle; one entry queued or in flight for a trip; or sent, with the ack timer's seconds. -/
inductive Sender
  | idle
  | queued (trip : Nat)
  | sent (trip : Nat) (ackTimer : Nat)
  deriving DecidableEq, Repr

/-- The Fare Store (R42): records oldest first. -/
structure Store where
  records : List TripRecord
  totals : ShiftTotals
  sender : Sender
  pendingReport : Option ShiftReport
  deriving DecidableEq, Repr

/-! ## Emergency Unit (R99) -/

/-- The emergency states (R100), in the order of their codes (R196). -/
inductive EmergencyState
  | clear | pressing | active | acked
  deriving DecidableEq, Repr

/-- The activation clock with the time-known flag of that moment (R99). -/
structure Activation where
  clock : Clock
  known : Bool
  deriving DecidableEq, Repr

/-- The Emergency Unit's state (R99). A timer at `some 0` has reached 0 and its expiry is due (log 2). -/
structure Emergency where
  state : EmergencyState
  lastSample : Bool
  press : Option Nat
  activation : Option Activation
  elapsed : Nat
  reports : Nat
  interval : Option Nat
  owed : Bool
  deriving DecidableEq, Repr

/-! ## Settings and identity (R166, R168) -/

/-- The twelve settings in position order (R166). `visible` is VISIBLE; the PARKED behaviours are true for STOP. -/
structure Settings where
  reach : Nat
  awardWait : Nat
  linkLoss : Nat
  ackWait : Nat
  hold : Nat
  activeInterval : Nat
  ackedInterval : Nat
  visible : Bool
  roofPattern : Bool
  seatTime : Nat
  stopAir : Bool
  stopOffers : Bool
  deriving DecidableEq, Repr

/-- The identity record (R168): unset is 0, 0, 0. -/
structure Identity where
  cab : Nat
  fleet : Nat
  k : Nat
  deriving DecidableEq, Repr

/-! ## Condition Monitor (R185) -/

/-- The Condition Monitor's state but for the retained check (R185, R191), the level of the RESET pin (R190) and the
levels sampled at the last timer tick that other rules read (R109, R186, R188). `holding`: the retained domain has come
up since the last main reset, its check marked failed, and holds still (R191). `abortHeld`: TX_ABORT is held raised
while the main domain is unpowered (R188, log 12). -/
structure Monitor where
  ignition : Bool
  ignCount : Nat
  supplyUp : Bool
  confirm : Nat
  holding : Bool
  abortHeld : Bool
  resetLow : Bool
  seatLevel : Bool
  ignLevel : Bool
  supplyOk : Bool
  deriving DecidableEq, Repr

/-- The condition (R185). -/
inductive Condition
  | driving | parked | shed
  deriving DecidableEq, Repr

/-! ## Offer Unit (R58) -/

/-- A block's run state (R81, R129). -/
inductive RunState
  | running | stopping | stopped
  deriving DecidableEq, Repr

/-- How an offer was addressed (R59). -/
inductive Addressing
  | direct | zone
  deriving DecidableEq, Repr

/-- The nine states of an entry (R60). -/
inductive OfferState
  | shown | bid | awarded | lost | expired | withdrawn | lapsed | declined | done
  deriving DecidableEq, Repr

/-- An entry of the Offer Table (R59). `waiting` is the remaining award wait. -/
structure OfferEntry where
  id : Nat
  addressing : Addressing
  zone : Option Nat
  rank : Nat
  lifetime : Nat
  awardWait : Nat
  waiting : Option Nat
  text : List Byte
  estimate : Option Nat
  account : Bool
  arrival : Nat
  state : OfferState
  deriving DecidableEq, Repr

/-- The sending stages of a bid (4.5). -/
inductive BidStage
  | queued | inFlight | sent
  deriving DecidableEq, Repr

/-- The marks of a bid record (R69). -/
inductive BidMark
  | none | expiryPending | cancelOnDone
  deriving DecidableEq, Repr

/-- The bid record (R58). -/
structure BidRecord where
  offer : Nat
  stage : BidStage
  mark : BidMark
  deriving DecidableEq, Repr

/-- Why a BID_CANCEL is owed (4.7). -/
inductive CancelReason
  | driverCancel | busy | notBidding
  deriving DecidableEq, Repr

/-- The stages of an entry that is owed to dispatch (R76, R83, R85). -/
inductive OwedStage
  | owed | queued | inFlight
  deriving DecidableEq, Repr

/-- An owed cancel (R76). -/
structure Cancel where
  offer : Nat
  reason : CancelReason
  stage : OwedStage
  deriving DecidableEq, Repr

/-- The Offer Unit's state (R58): entries in placement order, cancels oldest first. -/
structure Offers where
  entries : List OfferEntry
  zone : Option Nat
  run : RunState
  bid : Option BidRecord
  cancels : List Cancel
  arrivals : Nat
  deriving DecidableEq, Repr

/-! ## Message Store (R83) -/

/-- The states of a message (R84). -/
inductive MessageState
  | unread | read | answered
  deriving DecidableEq, Repr

/-- The kinds of receipt a mark carries (R85). -/
inductive ReceiptKind
  | delivered
  | read
  | answer (code : Nat)
  deriving DecidableEq, Repr

/-- A receipt mark (R85). -/
structure ReceiptMark where
  kind : ReceiptKind
  stage : OwedStage
  next : Option ReceiptKind
  deriving DecidableEq, Repr

/-- A stored message (R84). -/
structure Message where
  id : Nat
  urgent : Bool
  wanted : Bool
  options : List Nat
  text : List Byte
  state : MessageState
  answer : Option Nat
  mark : Option ReceiptMark
  lastSent : Option ReceiptKind
  deriving DecidableEq, Repr

/-- An item of the owed order: a stored message, or the refusal-owed record (R83). -/
inductive OwedItem
  | message (id : Nat)
  | refusal
  deriving DecidableEq, Repr

/-- The refusal-owed record (R83, R88). -/
structure RefusalOwed where
  id : Nat
  stage : OwedStage
  replaced : Bool
  deriving DecidableEq, Repr

/-- The Message Store's state (R83). -/
structure Messages where
  list : List Message
  owed : List OwedItem
  refusal : Option RefusalOwed
  counter : Nat
  outstanding : Nat
  delivered : Nat
  removals : Nat
  deriving DecidableEq, Repr

/-! ## Air Link Unit (R117) -/

/-- The link states (R132), in the order of their codes (R196). -/
inductive LinkState
  | search | synced | lost
  deriving DecidableEq, Repr

/-- The current cycle (R117). -/
structure CycleNow where
  number : Nat
  loaded : Nat
  quiet : Bool
  deriving DecidableEq, Repr

/-- The receive record (R117, R119). -/
structure ReceiveRecord where
  bytes : List Byte
  count : Nat
  crc : Word16
  deriving DecidableEq, Repr

/-- The Air Link Unit's state (R117). -/
structure Link where
  state : LinkState
  cycle : Option CycleNow
  allowance : Nat
  lossTimer : Option Nat
  crcErrors : Nat
  record : Option ReceiveRecord
  run : RunState
  deriving DecidableEq, Repr

/-! ## Uplink Arbiter (R138) -/

/-- The results of a load (R161), in the order of their codes. -/
inductive ResultCode
  | ok | authority | busy | abortedByNew | gap | overlength | short | badCheck | rejected | aborted | timeout
  deriving DecidableEq, Repr

/-- The reasons of a rejection (R161). -/
inductive Reason
  | badAddress | badZone | badTariff | badSettings | badIdentity | meterBusy
  deriving DecidableEq, Repr

/-- One result of a load or of a refused open (R161). -/
structure LoadResult where
  table : TableId
  generation : Nat
  result : ResultCode
  reason : Option Reason
  detail : Nat
  deriving DecidableEq, Repr

/-- A routine entry with what it holds (R139). -/
inductive Entry
  | bid (offer : Nat)
  | bidCancel (offer : Nat) (reason : CancelReason)
  | total (trip : Nat)
  | receipt (message : Nat)
  | receiptRefusal
  | driverMsg (number : Nat) (body : DriverText)
  | status
  | tableResult (r : LoadResult)
  | shift (number : Nat)
  | passUp (number : Nat) (data : List Byte)
  deriving DecidableEq, Repr

/-- What the frame in flight was granted to (R138). -/
inductive Granted
  | entry (e : Entry)
  | slot
  | detached
  deriving DecidableEq, Repr

/-- The in-flight record (R138), with the bytes handed to the modem (log 22). -/
structure InFlight where
  granted : Granted
  kind : Nat
  cls : Option Nat
  cycle : Option Nat
  timer : Nat
  frame : List Byte
  deriving DecidableEq, Repr

/-- The Uplink Arbiter's state (R138): entries in arrival order; `slot` is FILLED. -/
structure Arbiter where
  queue : List Entry
  slot : Bool
  inFlight : Option InFlight
  settle : Option Nat
  deriving DecidableEq, Repr

/-! ## Table Loader (R155) -/

/-- The ports a load may come from. -/
inductive LoadPort
  | air | terminal
  deriving DecidableEq, Repr

/-- An open load (R155). Bytes received is the length of the buffer. -/
structure Load where
  port : LoadPort
  table : TableId
  generation : Nat
  length : Nat
  buffer : List Byte
  timer : Nat
  deriving DecidableEq, Repr

/-- The Table Loader's state (R155): no context is IDLE. -/
structure Loader where
  context : Option Load
  lastTerminal : Option LoadResult
  deriving DecidableEq, Repr

/-- A loaded Address Table entry (R162): GROUP or FLEET, its value and its class set. -/
structure AddressEntry where
  fleet : Bool
  value : Nat
  classes : Byte
  deriving DecidableEq, Repr

/-- A zone of the Zone Table (R164). -/
structure Zone where
  number : Nat
  neighbours : List Nat
  deriving DecidableEq, Repr

/-! ## Event Unit and Terminal Port (R171, R177, R182) -/

/-- The eighteen event kinds in the order of R176. -/
inductive EventKind
  | offerNew | offerClosed | jobAwarded | jobWithdrawn | msgNew | msgUrgent | msgRecalled | totalAcked | totalBacklog
  | storeFolded | linkState | tableResult | seatCheck | fault | passReady | passOverrun | condition | emergency
  deriving DecidableEq, Repr

/-- The sticky flags, the enables and the line selects (1 for ALERT), bit n for the n-th kind (R177, R197). -/
structure Events where
  flags : BitVec 18
  enables : BitVec 18
  lines : BitVec 18
  deriving DecidableEq, Repr

/-- The six fault kinds in priority order from the highest (R182). -/
inductive FaultKind
  | retainedLost | distOverrate | modemTimeout | modemProtocol | airMalformed | terminalMalformed
  deriving DecidableEq, Repr

/-- The port of a fault (R182). -/
inductive FaultPort
  | air | terminal | none
  deriving DecidableEq, Repr

/-- A held fault capture record (R182). -/
structure FaultRecord where
  kind : FaultKind
  port : FaultPort
  kindByte : Nat
  detail : Nat
  clock : Clock
  known : Bool
  further : Nat
  higher : Bool
  deriving DecidableEq, Repr

/-- The reply codes (R173), in the order of their codes (R197). -/
inductive ReplyCode
  | ok | refusedState | refusedRange | refusedFull | refusedBusy | refusedAuthority | notFound | unknownKind
  deriving DecidableEq, Repr

/-- A reply (R171): the request's kind and tag, the code and the fields as R197 lays them out. -/
structure Reply where
  kind : Byte
  tag : Byte
  code : ReplyCode
  payload : List Byte
  deriving DecidableEq, Repr

/-- A queued PASS frame: its address mode and its data (R180). -/
structure PassFrame where
  mode : Byte
  data : List Byte
  deriving DecidableEq, Repr

/-- The Terminal Port's state (R171). -/
structure Terminal where
  reply : Option Reply
  pass : List PassFrame
  overruns : Nat
  upCounter : Nat
  upOutstanding : Nat
  upDelivered : Nat
  upDisplaced : Nat
  deriving DecidableEq, Repr

/-- The output lines that follow the state (log 21). -/
structure Pins where
  txReq : Bool
  txAbort : Bool
  attn : Bool
  alert : Bool
  roof : Bool
  deriving DecidableEq, Repr

/-! ## The retained domain under its check (R191) -/

/-- What the retained check covers: the retained domain's state (R191), which is the retained state of each chapter and
what R185 names of the Condition Monitor. -/
structure Retained where
  time : Time
  pulses : Nat
  meter : Meter
  seat : Seat
  roof : RoofPhase
  tariff : Option Tariff
  store : Store
  emergency : Emergency
  settings : Settings
  identity : Identity
  ignition : Bool
  ignCount : Nat
  supplyUp : Bool
  confirm : Nat
  deriving DecidableEq, Repr

end Sys2Proof.Machine

/-- The bytes that the check runs over. R191 gives the CRC-16 and not the layout of the cells under it, so the layout
is a free value: nothing constrains it (log 10, DESIGN CHOICE). -/
opaque Sys2Proof.Config.retainedBytes : Sys2Proof.Machine.Retained → List Sys2Proof.Byte

namespace Sys2Proof.Machine

/-! ## The state -/

/-- The whole state. The retained domain stands first, with `check`, the stored retained check (R185, R191); then the
main domain, the output pins and the model's queue of waiting commands. -/
structure State where
  time : Time
  pulses : Nat
  meter : Meter
  seat : Seat
  roof : RoofPhase
  tariff : Option Tariff
  store : Store
  emergency : Emergency
  settings : Settings
  identity : Identity
  monitor : Monitor
  check : Word16
  offers : Offers
  messages : Messages
  link : Link
  arbiter : Arbiter
  loader : Loader
  addresses : List AddressEntry
  zones : List Zone
  events : Events
  fault : Option FaultRecord
  terminal : Terminal
  pins : Pins
  pending : List Instr
  deriving DecidableEq, Repr

/-- No command of the part stops the machine, so there is no fault to name. -/
inductive Fault
  deriving DecidableEq, Repr

/-- Why a command has no meaning. -/
inductive Refusal
  /-- Raised only by an arm of `exec` whose command has no meaning yet; safe. No arm raises it. -/
  | notModelled (mnemonic : String)
  deriving DecidableEq, Repr

/-! ## Updates, one per block -/

def State.withTime (s : State) (v : Time) : State := { s with time := v }
def State.withPulses (s : State) (v : Nat) : State := { s with pulses := v }
def State.withMeter (s : State) (v : Meter) : State := { s with meter := v }
def State.withSeat (s : State) (v : Seat) : State := { s with seat := v }
def State.withRoof (s : State) (v : RoofPhase) : State := { s with roof := v }
def State.withTariff (s : State) (v : Option Tariff) : State := { s with tariff := v }
def State.withStore (s : State) (v : Store) : State := { s with store := v }
def State.withEmergency (s : State) (v : Emergency) : State := { s with emergency := v }
def State.withSettings (s : State) (v : Settings) : State := { s with settings := v }
def State.withIdentity (s : State) (v : Identity) : State := { s with identity := v }
def State.withMonitor (s : State) (v : Monitor) : State := { s with monitor := v }
def State.withCheck (s : State) (v : Word16) : State := { s with check := v }
def State.withOffers (s : State) (v : Offers) : State := { s with offers := v }
def State.withMessages (s : State) (v : Messages) : State := { s with messages := v }
def State.withLink (s : State) (v : Link) : State := { s with link := v }
def State.withArbiter (s : State) (v : Arbiter) : State := { s with arbiter := v }
def State.withLoader (s : State) (v : Loader) : State := { s with loader := v }
def State.withAddresses (s : State) (v : List AddressEntry) : State := { s with addresses := v }
def State.withZones (s : State) (v : List Zone) : State := { s with zones := v }
def State.withEvents (s : State) (v : Events) : State := { s with events := v }
def State.withFault (s : State) (v : Option FaultRecord) : State := { s with fault := v }
def State.withTerminal (s : State) (v : Terminal) : State := { s with terminal := v }
def State.withPins (s : State) (v : Pins) : State := { s with pins := v }
def State.withPending (s : State) (v : List Instr) : State := { s with pending := v }

/-! ## Reset values -/

/-- The default settings (R166). -/
def Settings.default : Settings :=
  { reach := 1, awardWait := 15, linkLoss := 20, ackWait := 30, hold := 10, activeInterval := 5, ackedInterval := 30,
    visible := false, roofPattern := true, seatTime := 10, stopAir := false, stopOffers := true }

/-- The shift totals of a shift that has just been opened, all 0 but its number (R53; number 0: R42). -/
def ShiftTotals.fresh (shift : Nat) : ShiftTotals :=
  { shift, ended := 0, fareSum := 0, extrasSum := 0, hiredPulses := 0, totalPulses := 0, ackCount := 0, ackSum := 0,
    foldedCount := 0, foldedSum := 0, earlierCount := 0, earlierSum := 0 }

/-- The meter after a backup-loss reset (R23). -/
def Meter.fresh : Meter := { state := .off, jobId := none, lastTrip := 0, hold := false, trip := none }

/-- The Fare Store after a backup-loss reset (R42). -/
def Store.fresh : Store := { records := [], totals := .fresh 0, sender := .idle, pendingReport := none }

/-- The Emergency Unit after a backup-loss reset (R116). -/
def Emergency.fresh : Emergency :=
  { state := .clear, lastSample := true, press := none, activation := none, elapsed := 0, reports := 0,
    interval := none, owed := false }

/-- The retained domain after a backup-loss reset and the main reset it is part of (R191, R189). -/
def Retained.fresh : Retained :=
  { time := { clock := { day := 0, second := 0 }, known := false }, pulses := 0, meter := .fresh
    seat := { count := 0, reported := false, due := false }, roof := .steady, tariff := none, store := .fresh
    emergency := .fresh, settings := .default, identity := { cab := 0, fleet := 0, k := 0 }
    ignition := false, ignCount := 0, supplyUp := true, confirm := 0 }

/-- The Offer Unit after a main reset (R82). -/
def Offers.fresh (run : RunState) : Offers :=
  { entries := [], zone := none, run, bid := none, cancels := [], arrivals := 0 }

/-- The Message Store after a main reset (R98). -/
def Messages.fresh : Messages :=
  { list := [], owed := [], refusal := none, counter := 0, outstanding := 0, delivered := 0, removals := 0 }

/-- The Air Link Unit after a main or soft reset (R137). -/
def Link.fresh (run : RunState) : Link :=
  { state := .search, cycle := none, allowance := 0, lossTimer := none, crcErrors := 0, record := none, run }

/-- The Uplink Arbiter after a main or soft reset (R154). -/
def Arbiter.fresh : Arbiter := { queue := [], slot := false, inFlight := none, settle := some Config.settleTicks }

/-- The Terminal Port after a main reset (R184). -/
def Terminal.fresh : Terminal :=
  { reply := none, pass := [], overruns := 0, upCounter := 0, upOutstanding := 0, upDelivered := 0, upDisplaced := 0 }

/-- The reset notice setup with no flag set: ALERT for MSG_URGENT, FAULT and EMERGENCY (R178, R184). -/
def Events.fresh : Events := { flags := 0#18, enables := 0x3FFFF#18, lines := 0x22020#18 }

/-- The part right after the main reset that follows the first application of power: a backup-loss reset too, with
RETAINED_LOST captured, and FAULT and CONDITION raised (R183, R189, R191; log 8). The check is the one formed afresh
over the backup-loss values (R191, log 10). Levels of lines that no tick has sampled yet are the model's choice
(log 9). -/
def State.reset : State :=
  { time := { clock := { day := 0, second := 0 }, known := false }
    pulses := 0
    meter := .fresh
    seat := { count := 0, reported := false, due := false }
    roof := .steady
    tariff := none
    store := .fresh
    emergency := .fresh
    settings := .default
    identity := { cab := 0, fleet := 0, k := 0 }
    monitor := { ignition := false, ignCount := 0, supplyUp := true, confirm := 0, holding := false, abortHeld := false,
                 resetLow := false, seatLevel := false, ignLevel := false, supplyOk := true }
    check := crc16 (Config.retainedBytes .fresh)
    offers := .fresh .stopped
    messages := .fresh
    link := .fresh .running
    arbiter := .fresh
    loader := { context := none, lastTerminal := none }
    addresses := []
    zones := []
    events := { Events.fresh with flags := 0x12000#18 }
    fault := some { kind := .retainedLost, port := .none, kindByte := 0, detail := 0,
                    clock := { day := 0, second := 0 }, known := false, further := 0, higher := false }
    terminal := .fresh
    pins := { txReq := false, txAbort := true, attn := true, alert := true, roof := false }
    pending := [] }

end Sys2Proof.Machine
end

