-- ==== Sys2Proof/Machine/Flags.lean ====
section
/-! DEFINITION. The condition, the event flags with the two notice lines, fault capture, and the output pins: every
flag the part computes. -/

namespace Sys2Proof.Machine

/-! ## Condition and supply (R185, R190) -/

/-- The condition: SHED while the supply is DOWN, else by the debounced ignition (R185). -/
def State.condition (s : State) : Condition :=
  if !s.monitor.supplyUp then .shed else if s.monitor.ignition then .driving else .parked

/-- The main domain works: it is powered (R185) and RESET does not hold it (R190). -/
def State.mainRuns (s : State) : Bool := s.monitor.supplyUp && !s.monitor.resetLow

/-- The run state a block takes at a main or soft reset (R82, R137): STOPPED in PARKED with behaviour STOP. -/
def State.runAtReset (s : State) (stop : Bool) : RunState :=
  if s.condition = .parked ∧ stop then .stopped else .running

/-! ## The retained check (R191) -/

/-- The retained domain's state, which the check covers. -/
def State.retained (s : State) : Retained :=
  { time := s.time, pulses := s.pulses, meter := s.meter, seat := s.seat, roof := s.roof, tariff := s.tariff
    store := s.store, emergency := s.emergency, settings := s.settings, identity := s.identity
    ignition := s.monitor.ignition, ignCount := s.monitor.ignCount, supplyUp := s.monitor.supplyUp
    confirm := s.monitor.confirm }

/-- The check that the stored state gives: a CRC-16 over the retained domain's state (R191). -/
def State.givenCheck (s : State) : Word16 := crc16 (Config.retainedBytes s.retained)

/-- The test of the check fails: the retained domain has come up since the last main reset, or the stored state no
longer gives the stored check (R191). -/
def State.checkFails (s : State) : Bool := s.monitor.holding || s.check != s.givenCheck

/-- The change of the retained state from `s` updates the check in the same step (R191): it enters by its difference,
so a check that fits still fits, and one that the contents no longer give still fails (log 10). -/
def State.updateCheck (s t : State) : State := t.withCheck (t.check ^^^ s.givenCheck ^^^ t.givenCheck)

/-! ## Events (R176, R177) -/

/-- The number of an event kind, counted from 0 in the order of R176. -/
def EventKind.index : EventKind → Nat
  | .offerNew => 0 | .offerClosed => 1 | .jobAwarded => 2 | .jobWithdrawn => 3 | .msgNew => 4 | .msgUrgent => 5
  | .msgRecalled => 6 | .totalAcked => 7 | .totalBacklog => 8 | .storeFolded => 9 | .linkState => 10
  | .tableResult => 11 | .seatCheck => 12 | .fault => 13 | .passReady => 14 | .passOverrun => 15
  | .condition => 16 | .emergency => 17

/-- The flag bit of an event kind. -/
def EventKind.mask (e : EventKind) : BitVec 18 := 1#18 <<< e.index

/-- The flag of a kind set, whatever its enable holds (R177). -/
def Events.set (e : EventKind) (ev : Events) : Events := { ev with flags := ev.flags ||| e.mask }

/-- The flag of a kind cleared. -/
def Events.clear (e : EventKind) (ev : Events) : Events := { ev with flags := ev.flags &&& ~~~ e.mask }

/-- ATTN: a set flag whose enable is on and whose line is ATTN (R177). -/
def Events.attn (ev : Events) : Bool := ev.flags &&& ev.enables &&& ~~~ ev.lines != 0#18

/-- ALERT: a set flag whose enable is on and whose line is ALERT (R177). -/
def Events.alert (ev : Events) : Bool := ev.flags &&& ev.enables &&& ev.lines != 0#18

/-- A block raises an event. None is raised while the Event Unit is unpowered (R177) or RESET is low (R190). -/
def State.raise (e : EventKind) (s : State) : State :=
  if s.mainRuns then s.withEvents (s.events.set e) else s

/-! ## Fault capture (R182) -/

/-- The priority of a fault kind, 1 the highest. -/
def FaultKind.priority : FaultKind → Nat
  | .retainedLost => 1 | .distOverrate => 2 | .modemTimeout => 3 | .modemProtocol => 4 | .airMalformed => 5
  | .terminalMalformed => 6

/-- A fault captured afresh, with the clock as it stands (R182). -/
def State.captured (s : State) (kind : FaultKind) (port : FaultPort) (kindByte detail : Nat) : FaultRecord :=
  { kind, port, kindByte, detail, clock := s.time.clock, known := s.time.known, further := 0, higher := false }

/-- A fault is offered: captured into an EMPTY record with FAULT, or counted in a HELD one, with higher-pending when it
outranks the captured kind (R182). None is offered while fault capture is unpowered (R34) or held in reset (R190). -/
def State.offerFault (kind : FaultKind) (port : FaultPort) (kindByte detail : Nat) (s : State) : State :=
  if s.mainRuns then
    match s.fault with
    | none => (s.withFault (some (s.captured kind port kindByte detail))).raise .fault
    | some r =>
      s.withFault (some { r with
        further := satAdd Config.smallMax r.further 1
        higher := r.higher || decide (kind.priority < r.kind.priority) })
  else s

/-! ## Output pins -/

/-- ROOF (R21): steady on in VACANT only, or as the pattern has it; off while the retained domain holds still (R191). -/
def State.roofLevel (s : State) : Bool :=
  if s.monitor.holding then false
  else
    match s.roof with
    | .steady => decide (s.meter.state = .vacant)
    | .armed level => level
    | .blinking on _ => on

/-- The levels the output lines take from the state. TX_REQ stands while a frame is in flight (R146, R148); TX_ABORT
while the settle timer runs (R150, R154), and while the main domain is unpowered as the Condition Monitor holds it
(R188, log 12); ATTN and ALERT as R177 has them, inactive in SHED. -/
def State.levels (s : State) : Pins :=
  { txReq := s.arbiter.inFlight.isSome
    txAbort := if s.monitor.supplyUp then s.arbiter.settle.isSome else s.monitor.abortHeld
    attn := s.monitor.supplyUp && s.events.attn
    alert := s.monitor.supplyUp && s.events.alert
    roof := s.roofLevel }

/-- The lines follow each change at once (R21, R177). -/
def State.drive (s : State) : State := s.withPins s.levels

end Sys2Proof.Machine
end

