-- ==== Sys2Proof/Machine/Fare.lean ====
section
/-! DEFINITION. Fare arithmetic (chapter 2): band choice, pulses per increment, pulse closing, fare progress, the gate
and the conversion to metres. -/

namespace Sys2Proof.Machine

/-- The clock one second later (R1). -/
def Clock.next (c : Clock) : Clock :=
  if c.second < 86399 then { c with second := c.second + 1 }
  else { day := if c.day < 6 then c.day + 1 else 0, second := 0 }

/-! ## Band choice (R29 to R31) -/

/-- A window contains a clock value: the day mask names the day, and the second lies inside (R29). -/
def Window.contains (w : Window) (c : Clock) : Bool :=
  w.days.getLsbD c.day &&
    (if w.start < w.stop then decide (w.start ≤ c.second ∧ c.second < w.stop)
     else if w.stop < w.start then decide (w.start ≤ c.second ∨ c.second < w.stop)
     else true)

/-- The band of a number. -/
def Tariff.band (t : Tariff) (n : Nat) : Option Band := t.bands.find? (fun b => b.number = n)

/-- AUTO: with time known, the first of bands 2 to 8 whose window contains the clock; else band 1 (R30). -/
def Tariff.auto (t : Tariff) (time : Time) : Option Band :=
  let windowed := [2, 3, 4, 5, 6, 7, 8].findSome? fun n =>
    t.bands.find? fun b => b.number = n && (b.window.any fun w => w.contains time.clock)
  if time.known then windowed.or (t.band 1) else t.band 1

/-- A named band: 1..8, held by the table and driver-selectable (R31). -/
def Tariff.named (t : Tariff) (n : Nat) : Option Band :=
  if 1 ≤ n ∧ n ≤ 8 then t.bands.find? (fun b => b.number = n && b.selectable) else none

/-- The band HIRE chooses: 0 is AUTO (R9, R197). None refuses the request. -/
def chooseBand (t : Option Tariff) (time : Time) (n : Nat) : Option Band :=
  t.bind fun t => if n = 0 then t.auto time else t.named n

/-- D, pulses per increment (R32). -/
def perIncrement (metres k : Nat) : Nat := min 65535 (max 1 ((metres * k + 500) / 1000))

/-- The trip's copy of a band (R10). -/
def Band.copy (b : Band) (k : Nat) : BandCopy :=
  { flagFall := b.flagFall, coverage := b.coverage, value1 := b.value1, length1 := b.length1, value2 := b.value2,
    metres := b.metres, seconds := b.seconds, gateClears := b.gateClears, pulses := perIncrement b.metres k }

/-- P, the progress period (R32). -/
def BandCopy.period (c : BandCopy) : Nat := c.pulses * c.seconds

/-! ## Distance (R39) -/

/-- Metres of a pulse count, to the nearest; 0 while k is 0 (R39, R168). -/
def metres (pulses k : Nat) : Nat :=
  if k = 0 then 0 else min Config.pulseMax ((pulses * 1000 + k / 2) / k)

/-! ## The trip -/

/-- A change of the running trip. -/
def State.mapTrip (f : Trip → Trip) (s : State) : State :=
  s.withMeter { s.meter with trip := s.meter.trip.map f }

/-- The meter is HIRED or TOTAL. -/
def Meter.onTrip (m : Meter) : Bool := m.state = .hired || m.state = .total

/-- The trip total, limited (R16). -/
def Trip.total (t : Trip) : Nat := min Config.moneyMax (t.fare + t.extrasTotal)

/-- FARE_CAPPED when an addition was clipped or the sum exceeds the limit (R10). -/
def Trip.cap (clipped : Bool) (t : Trip) : Trip :=
  if clipped || decide (Config.moneyMax < t.fare + t.extrasTotal) then
    { t with flags := { t.flags with fareCapped := true } }
  else t

/-- A change of the gate: it passes from open to closed with the accumulator cleared when the band says so (R12). -/
def Trip.closeGate (t : Trip) : Trip :=
  if t.gateOpen then
    { t with gateOpen := false, accumulator := if t.copy.gateClears then 0 else t.accumulator }
  else t

/-- The gate passes to open; the accumulator keeps its value (R12). -/
def Trip.openGate (t : Trip) : Trip := { t with gateOpen := true }

/-! ## Closing the pulse count (R33 to R35) -/

/-- Admitted pulses enter a trip: distance, and gated distance when the gate is closed (R11, R33). -/
def Trip.take (d : Nat) (excess : Bool) (t : Trip) : Trip :=
  { t with
    pulses := satAdd Config.pulseMax t.pulses d
    gatedPulses := if t.gateOpen then t.gatedPulses else satAdd Config.pulseMax t.gatedPulses d
    flags := { t.flags with distOverrate := t.flags.distOverrate || excess } }

/-- Admitted pulses enter the shift totals (R52). -/
def ShiftTotals.take (d : Nat) (onTrip : Bool) (t : ShiftTotals) : ShiftTotals :=
  { t with
    totalPulses := satAdd Config.pulseMax t.totalPulses d
    hiredPulses := if onTrip then satAdd Config.pulseMax t.hiredPulses d else t.hiredPulses }

/-- The admitted count of the interval (R33). -/
def State.admitted (s : State) : Nat := min s.pulses Config.clamp

/-- The pulse count is closed: the admitted pulses go to the shift totals and, in HIRED and TOTAL, to the trip; an
overrate marks the trip and offers a fault; the count restarts at 0 (R33, R34). -/
def State.closePulses (s : State) : State :=
  let excess := decide (Config.clamp < s.pulses)
  let d := s.admitted
  let s1 := s.withStore { s.store with totals := s.store.totals.take d s.meter.onTrip }
  let s2 := if s.meter.onTrip then s1.mapTrip (Trip.take d excess) else s1
  let s3 := if excess then s2.offerFault .distOverrate .none 0 s.pulses else s2
  s3.withPulses 0

/-! ## Fare progress (R36 to R38) -/

/-- Money is added to the live fare, saturating (R38). -/
def Trip.addFare (v : Nat) (t : Trip) : Trip :=
  { t with fare := satAdd Config.moneyMax t.fare v }.cap (decide (Config.moneyMax < t.fare + v))

/-- What the increment numbered `i` adds: nothing under coverage, V1 in stage 1, V2 in stage 2 (R37). -/
def BandCopy.value (c : BandCopy) (i : Nat) : Nat :=
  if i ≤ c.coverage then 0
  else if c.length1 = 0 ∨ i ≤ c.coverage + c.length1 then c.value1
  else c.value2

/-- One increment (R37): i rises, and the increment is classed on the resulting i. -/
def Trip.increment (t : Trip) : Trip :=
  let i := satAdd Config.moneyMax t.increments 1
  { t with increments := i }.addFare (t.copy.value i)

/-- `n` increments, one after another. -/
def Trip.advance : Nat → Trip → Trip
  | 0, t => t
  | n + 1, t => Trip.advance n t.increment

/-- Fare progress of one second with `d` admitted pulses (R36). -/
def Trip.progress (d : Nat) (t : Trip) : Trip :=
  let a := t.accumulator + max (d * t.copy.seconds) t.copy.pulses
  let p := t.copy.period
  Trip.advance (a / p) { t with accumulator := a % p }

/-- The second's progress on a HIRED trip whose gate is open (R36). -/
def State.fareSecond (d : Nat) (s : State) : State :=
  if s.meter.state = .hired then s.mapTrip (fun t => if t.gateOpen then t.progress d else t) else s

end Sys2Proof.Machine
end

