-- ==== Sys2Proof/Machine/Queue.lean ====
section
/-! DEFINITION. The routine queue of the Uplink Arbiter: classes, places, offers, withdrawal and detachment, and the
filling of the emergency slot (8.2, 8.4, 8.7). The owners' chapters build on these. -/

namespace Sys2Proof.Machine

/-- The class of an entry's kind (R139). -/
def Entry.cls : Entry → Nat
  | .bid _ | .bidCancel _ _ => 1
  | .total _ => 2
  | .receipt _ | .receiptRefusal => 3
  | .driverMsg _ _ => 4
  | .status | .tableResult _ | .shift _ | .passUp _ _ => 5

/-- The kind code of an entry's frame (R194). -/
def Entry.code : Entry → Nat
  | .bid _ => 0x40 | .bidCancel _ _ => 0x41 | .total _ => 0x42
  | .receipt _ | .receiptRefusal => 0x43
  | .driverMsg _ _ => 0x44 | .status => 0x45 | .tableResult _ => 0x46 | .shift _ => 0x47 | .passUp _ _ => 0x48

/-- The kind code of the emergency report (R194). -/
def emergencyCode : Nat := 0x49

def Entry.isBid : Entry → Bool
  | .bid _ => true
  | _ => false

def Entry.isReceipt : Entry → Bool
  | .receipt _ | .receiptRefusal => true
  | _ => false

def Entry.isTableResult : Entry → Bool
  | .tableResult _ => true
  | _ => false

def Entry.isShift : Entry → Bool
  | .shift _ => true
  | _ => false

/-- The number of entries in a class. -/
def classCount (q : List Entry) (c : Nat) : Nat := (q.filter (fun e => e.cls = c)).length

/-- The shared count: classes 3, 4 and 5, and 1 more when class 1 holds two entries (R140). -/
def sharedCount (q : List Entry) : Nat :=
  classCount q 3 + classCount q 4 + classCount q 5 + (if classCount q 1 = 2 then 1 else 0)

/-- A shared place is free (R140). -/
def sharedFree (q : List Entry) : Bool := sharedCount q < Config.sharedPlaces

/-- The arbiter has a place for a new entry (R140). -/
def hasPlace (q : List Entry) (e : Entry) : Bool :=
  match e with
  | .bid _ => !q.any Entry.isBid && (classCount q 1 == 0 || (classCount q 1 == 1 && sharedFree q))
  | .bidCancel _ _ => classCount q 1 == 0 || (classCount q 1 == 1 && sharedFree q)
  | .total _ => classCount q 2 == 0
  | .status => !q.contains .status && sharedFree q
  | _ => sharedFree q

/-- The head of the highest non-empty class (R145). -/
def queueHead (q : List Entry) : Option Entry :=
  [1, 2, 3, 4, 5].findSome? fun c => q.find? (fun e => e.cls = c)

def State.withQueue (s : State) (q : List Entry) : State := s.withArbiter { s.arbiter with queue := q }

/-- An entry joins its class at the newest end. The caller has found a place for it (R141). -/
def State.enqueue (e : Entry) (s : State) : State := s.withQueue (s.arbiter.queue ++ [e])

/-- An entry leaves the queue. -/
def State.dequeue (e : Entry) (s : State) : State := s.withQueue (s.arbiter.queue.erase e)

/-- The entry is the one in flight. -/
def State.entryInFlight (s : State) (e : Entry) : Bool :=
  match s.arbiter.inFlight with
  | some f => f.granted = .entry e
  | none => false

/-- An owner withdraws its entry (R152): it leaves the queue, and when it is in flight the in-flight record keeps the
frame as detached. -/
def State.withdraw (e : Entry) (s : State) : State :=
  s.withArbiter { s.arbiter with
    queue := s.arbiter.queue.erase e
    inFlight := s.arbiter.inFlight.map fun f => if f.granted = .entry e then { f with granted := .detached } else f }

/-- The Emergency Unit withdraws the slot and detaches a report in flight (R106, R152). -/
def State.withdrawSlot (s : State) : State :=
  s.withArbiter { s.arbiter with
    slot := false
    inFlight := s.arbiter.inFlight.map fun f => if f.granted = .slot then { f with granted := .detached } else f }

/-- The emergency slot is filled when a report is owed, the main domain runs and the identity has a cab number (R108).
Filling a FILLED slot changes nothing (R144). -/
def State.fillSlot (s : State) : State :=
  if s.emergency.owed && s.mainRuns && s.identity.cab != 0 then s.withArbiter { s.arbiter with slot := true } else s

/-- The emergency report is in flight for the slot. -/
def State.slotInFlight (s : State) : Bool :=
  match s.arbiter.inFlight with
  | some f => f.granted = .slot
  | none => false

end Sys2Proof.Machine
end

