-- ==== Sys2Proof/Machine/Records.lean ====
section
/-! DEFINITION. The codes of the enumerations and the byte layouts of the records (R195 to R197). -/

namespace Sys2Proof.Machine

/-! ## Enumerations -/

def MeterState.code : MeterState → Nat
  | .off => 0 | .vacant => 1 | .assigned => 2 | .hired => 3 | .total => 4

def LinkState.code : LinkState → Nat
  | .search => 0 | .synced => 1 | .lost => 2

/-- R196 gives DRIVING and PARKED; SHED is never sent. -/
def Condition.code : Condition → Nat
  | .driving => 0 | .parked => 1 | .shed => 2

def EmergencyState.code : EmergencyState → Nat
  | .clear => 0 | .pressing => 1 | .active => 2 | .acked => 3

def CancelReason.code : CancelReason → Nat
  | .driverCancel => 1 | .busy => 2 | .notBidding => 3

/-- The kind and the answer code of a receipt (R195). -/
def ReceiptKind.code : ReceiptKind → Nat
  | .delivered => 1 | .read => 2 | .answer _ => 3

def ReceiptKind.answerCode : ReceiptKind → Nat
  | .answer c => c
  | _ => 0

def ResultCode.code : ResultCode → Nat
  | .ok => 0 | .authority => 1 | .busy => 2 | .abortedByNew => 3 | .gap => 4 | .overlength => 5 | .short => 6
  | .badCheck => 7 | .rejected => 8 | .aborted => 9 | .timeout => 10

def Reason.code : Reason → Nat
  | .badAddress => 1 | .badZone => 2 | .badTariff => 3 | .badSettings => 4 | .badIdentity => 5 | .meterBusy => 6

/-- A list without codes in R195 or R196 counts from 0 in the order of its rule (R197). -/
def RunState.code : RunState → Nat
  | .running => 0 | .stopping => 1 | .stopped => 2

def Addressing.code : Addressing → Nat
  | .direct => 0 | .zone => 1

def OfferState.code : OfferState → Nat
  | .shown => 0 | .bid => 1 | .awarded => 2 | .lost => 3 | .expired => 4 | .withdrawn => 5 | .lapsed => 6
  | .declined => 7 | .done => 8

def BidStage.code : BidStage → Nat
  | .queued => 0 | .inFlight => 1 | .sent => 2

def OwedStage.code : OwedStage → Nat
  | .owed => 0 | .queued => 1 | .inFlight => 2

def MessageState.code : MessageState → Nat
  | .unread => 0 | .read => 1 | .answered => 2

def Sender.code : Sender → Nat
  | .idle => 0 | .queued _ => 1 | .sent _ _ => 2

def LoadPort.code : LoadPort → Nat
  | .air => 0 | .terminal => 1

def FaultKind.code : FaultKind → Nat
  | .retainedLost => 0 | .distOverrate => 1 | .modemTimeout => 2 | .modemProtocol => 3 | .airMalformed => 4
  | .terminalMalformed => 5

def FaultPort.code : FaultPort → Nat
  | .air => 0 | .terminal => 1 | .none => 2

def ReplyCode.code : ReplyCode → Nat
  | .ok => 0 | .refusedState => 1 | .refusedRange => 2 | .refusedFull => 3 | .refusedBusy => 4
  | .refusedAuthority => 5 | .notFound => 6 | .unknownKind => 7

/-! ## Records -/

/-- A clock: the day, then the second of day (R192). -/
def Clock.bytes (c : Clock) : List Byte := u8 c.day ++ u24 c.second

/-- The five trip flags as the record has them (R196). -/
def TripFlags.bytes (f : TripFlags) : List Byte :=
  flagByte [f.fareCapped, f.timeUnknown, f.holdUsed, f.emergencyDuring, f.distOverrate]

/-- The flags as the terminal is shown them: EMERGENCY_DURING is clear under SILENT (R113). -/
def TripFlags.shown (visible : Bool) (f : TripFlags) : TripFlags :=
  { f with emergencyDuring := f.emergencyDuring && visible }

/-- The trip record, 35 bytes (R196). -/
def TripRecord.bytes (r : TripRecord) : List Byte :=
  u16 r.trip ++ u16 r.shift ++ optId r.jobId ++ u8 r.band ++ u16 r.version ++ r.startClock.bytes ++ r.endClock.bytes
    ++ u32 r.distance ++ u32 r.gatedDistance ++ amount r.fare ++ amount r.extrasTotal ++ amount r.total ++ r.flags.bytes

/-- The shift report (R196). -/
def ShiftReport.bytes (r : ShiftReport) : List Byte :=
  u16 r.shift ++ u16 r.ended ++ shiftSum r.fareSum ++ shiftSum r.extrasSum ++ u32 r.hiredMetres ++ u32 r.totalMetres
    ++ u16 r.ackCount ++ shiftSum r.ackSum ++ u16 r.foldedCount ++ shiftSum r.foldedSum
    ++ u16 r.earlierCount ++ shiftSum r.earlierSum ++ u16 r.storedCount ++ shiftSum r.storedSum

/-- The fields of a load's result (R161), laid out as the TABLE_RESULT payload (R195). -/
def LoadResult.bytes (r : LoadResult) : List Byte :=
  u8 r.table.code ++ u16 r.generation ++ u8 r.result.code ++ u8 (r.reason.elim 0 Reason.code) ++ u16 r.detail

/-! ## Frames (R194, R197) -/

/-- An air frame: header, payload and check sequence (R194). -/
def airFrame (fleet kind mode addr : Nat) (payload : List Byte) : List Byte :=
  withCrc (u8 fleet ++ u8 kind ++ u8 mode ++ u16 addr ++ u8 payload.length ++ payload)

/-- An uplink frame: the identity's fleet number, address mode CAB and the cab number (R194). -/
def uplinkFrame (i : Identity) (kind : Nat) (payload : List Byte) : List Byte :=
  airFrame i.fleet kind 0 i.cab payload

/-- The reply frame a selection shifts out (R171, R197): the buffered reply, or the empty indication. -/
def replyFrame (r : Option Reply) : List Byte :=
  match r with
  | none => withCrc (u8 0 ++ u8 0 ++ u8 0 ++ u16 0)
  | some r => withCrc ([r.kind, r.tag] ++ u8 r.code.code ++ u16 r.payload.length ++ r.payload)

end Sys2Proof.Machine
end

