-- ==== Sys2Proof/Machine/FareStore.lean ====
section
/-! DEFINITION. The Fare Store (chapter 3): records, shift totals, the TOTAL sender and the shift report. -/

namespace Sys2Proof.Machine

def State.withSender (s : State) (x : Sender) : State := s.withStore { s.store with sender := x }

/-! ## The TOTAL sender -/

/-- The trip number of the served record (R42). -/
def Sender.served : Sender → Option Nat
  | .idle => none
  | .queued n => some n
  | .sent n _ => some n


/-- The sender in IDLE with records stored places a TOTAL entry for the oldest (R45). -/
def State.placeTotal (s : State) : State :=
  match s.store.sender, s.store.records with
  | .idle, r :: _ =>
    if s.mainRuns && hasPlace s.arbiter.queue (.total r.trip) then
      (s.enqueue (.total r.trip)).withSender (.queued r.trip)
    else s
  | _, _ => s

/-- The served record has left the store: its entry is withdrawn or detached or its ack timer stops, and the sender
picks the next oldest (R49). -/
def State.releaseServed (trip : Nat) (s : State) : State :=
  match s.store.sender with
  | .queued n => if n = trip then ((s.withdraw (.total n)).withSender .idle).placeTotal else s
  | .sent n _ => if n = trip then (s.withSender .idle).placeTotal else s
  | .idle => s

/-! ## Records and totals -/

/-- A folded record enters the aggregates of its shift or of earlier shifts (R44). -/
def ShiftTotals.fold (r : TripRecord) (t : ShiftTotals) : ShiftTotals :=
  if r.shift = t.shift then
    { t with foldedCount := satAdd Config.countMax t.foldedCount 1
             foldedSum := satAdd Config.sumMax t.foldedSum r.total }
  else
    { t with earlierCount := satAdd Config.countMax t.earlierCount 1
             earlierSum := satAdd Config.sumMax t.earlierSum r.total }

/-- A finished trip enters the totals (R43). -/
def ShiftTotals.enter (r : TripRecord) (t : ShiftTotals) : ShiftTotals :=
  { t with ended := satAdd Config.countMax t.ended 1
           fareSum := satAdd Config.sumMax t.fareSum r.fare
           extrasSum := satAdd Config.sumMax t.extrasSum r.extrasTotal }

/-- An acknowledged record of the current shift is counted (R48). -/
def ShiftTotals.acknowledge (r : TripRecord) (t : ShiftTotals) : ShiftTotals :=
  if r.shift = t.shift then
    { t with ackCount := satAdd Config.countMax t.ackCount 1
             ackSum := satAdd Config.sumMax t.ackSum r.total }
  else t

/-- A full store folds its oldest record (R44). -/
def State.foldOldest (s : State) : State :=
  match s.store.records with
  | [] => s
  | r :: rest =>
    ((s.withStore { s.store with records := rest, totals := s.store.totals.fold r }).raise .storeFolded).releaseServed
      r.trip

/-- A finalised record enters the store (R43). -/
def State.enterRecord (r : TripRecord) (s : State) : State :=
  let s1 := if s.store.records.length < Config.storeSize then s else s.foldOldest
  let s2 := if s1.store.records.isEmpty then s1 else s1.raise .totalBacklog
  (s2.withStore { s2.store with records := s2.store.records ++ [r], totals := s2.store.totals.enter r }).placeTotal

/-- An acknowledgement of a trip (R48). -/
def State.acknowledge (trip : Nat) (s : State) : State :=
  match s.store.records.find? (fun r => r.trip = trip) with
  | none => s
  | some r =>
    ((s.withStore { s.store with
        records := s.store.records.eraseP (fun x => x.trip = trip)
        totals := s.store.totals.acknowledge r }).releaseServed trip).raise .totalAcked

/-! ## The shift report -/

/-- The report formed from the totals as they stand (R54). -/
def State.shiftReport (s : State) : ShiftReport :=
  let t := s.store.totals
  let stored := s.store.records.filter (fun r => r.shift = t.shift)
  { shift := t.shift, ended := t.ended, fareSum := t.fareSum, extrasSum := t.extrasSum
    hiredMetres := metres t.hiredPulses s.identity.k, totalMetres := metres t.totalPulses s.identity.k
    ackCount := t.ackCount, ackSum := t.ackSum, foldedCount := t.foldedCount, foldedSum := t.foldedSum
    earlierCount := t.earlierCount, earlierSum := t.earlierSum
    storedCount := stored.length
    storedSum := stored.foldl (fun acc r => satAdd Config.sumMax acc r.total) 0 }

/-- A pending report without an entry is placed when the shared places have room (R55). -/
def State.placeShift (s : State) : State :=
  match s.store.pendingReport with
  | none => s
  | some r =>
    if s.mainRuns && !s.arbiter.queue.any Entry.isShift && sharedFree s.arbiter.queue then s.enqueue (.shift r.shift)
    else s

/-- A queued SHIFT entry that is not in flight is rewritten for the pending report (R55). -/
def State.rewriteShift (number : Nat) (s : State) : State :=
  s.withQueue (s.arbiter.queue.map fun e =>
    if e.isShift && !s.entryInFlight e then .shift number else e)

/-- SHIFT_CLOSE makes its report the pending one (R55). -/
def State.pendReport (r : ShiftReport) (s : State) : State :=
  ((s.withStore { s.store with pendingReport := some r }).rewriteShift r.shift).placeShift

/-! ## Modem results -/

/-- TX_DONE of the TOTAL entry: SENT, with the ack timer at the ack wait (R46). -/
def State.totalSent (trip : Nat) (s : State) : State :=
  match s.store.sender with
  | .queued n => if n = trip then s.withSender (.sent n s.settings.ackWait) else s
  | _ => s

/-- TX_DONE of a SHIFT entry: the pending report is cleared when the frame carried it; a newer one is placed (R55). -/
def State.shiftSent (number : Nat) (s : State) : State :=
  match s.store.pendingReport with
  | none => s
  | some r => if r.shift = number then s.withStore { s.store with pendingReport := none } else s.placeShift

/-- TX_FAIL of a SHIFT entry: it is rewritten for the report that is pending now (R55). -/
def State.shiftFailed (s : State) : State :=
  match s.store.pendingReport with
  | none => s
  | some r => s.rewriteShift r.shift

/-- The sender's IDLE value at a reset or at the entry to SHED (R50). -/
def State.idleSender (s : State) : State := s.withSender .idle

end Sys2Proof.Machine
end

