-- ==== Sys2Proof/Machine/MessageStore.lean ====
section
/-! DEFINITION. The Message Store (chapter 5): messages and the pool, receipts, the refusal-owed record and driver
messages. -/

namespace Sys2Proof.Machine

def State.withList (s : State) (ms : List Message) : State := s.withMessages { s.messages with list := ms }

def State.withRefusal (s : State) (r : Option RefusalOwed) : State := s.withMessages { s.messages with refusal := r }

def State.withOwed (s : State) (o : List OwedItem) : State := s.withMessages { s.messages with owed := o }

/-- The stored message of an id. -/
def State.storedMessage (s : State) (id : Nat) : Option Message := s.messages.list.find? (fun m => m.id = id)

/-- A change of the stored message of an id. -/
def State.mapMessage (id : Nat) (f : Message → Message) (s : State) : State :=
  s.withList (s.messages.list.map fun m => if m.id = id then f m else m)

/-- The pool bytes in use (R83). -/
def poolUsed (ms : List Message) : Nat := (ms.map fun m => m.text.length).sum

/-! ## Placing receipts (R93) -/

/-- The stage of an item of the owed order. -/
def State.owedStage (s : State) (i : OwedItem) : Option OwedStage :=
  match i with
  | .message id => ((s.storedMessage id).bind Message.mark).map ReceiptMark.stage
  | .refusal => s.messages.refusal.map RefusalOwed.stage

/-- The entry an item is placed as (R139). -/
def OwedItem.entry : OwedItem → Entry
  | .message id => .receipt id
  | .refusal => .receiptRefusal

/-- An item's stage is changed. -/
def State.setOwedStage (i : OwedItem) (stage : OwedStage) (s : State) : State :=
  match i with
  | .message id => s.mapMessage id fun m => { m with mark := m.mark.map fun k => { k with stage } }
  | .refusal => s.withRefusal (s.messages.refusal.map fun r => { r with stage })

/-- The oldest receipt in stage OWED is placed, with a shared place free and fewer than 3 entries (R93). -/
def State.placeReceipt (s : State) : State :=
  match s.messages.owed.find? (fun i => s.owedStage i = some .owed) with
  | none => s
  | some i =>
    if s.mainRuns && sharedFree s.arbiter.queue
        && decide ((s.arbiter.queue.filter Entry.isReceipt).length < Config.receiptLimit) then
      (s.enqueue i.entry).setOwedStage i .queued
    else s

/-- Placement is repeated until no place or no receipt remains; at most three can be placed at once (R93). -/
def State.placeReceipts (s : State) : State := s.placeReceipt.placeReceipt.placeReceipt

/-! ## Owing a receipt (R85) -/

/-- The mark after a receipt of some kind becomes owed (R85). -/
def ReceiptMark.owe (kind : ReceiptKind) (mark : Option ReceiptMark) : ReceiptMark :=
  match mark with
  | none => { kind, stage := .owed, next := none }
  | some k =>
    match k.stage with
    | .inFlight => { k with next := some kind }
    | _ => { k with kind }

/-- A receipt becomes owed for a stored message, and is placed where there is room (R85, R93). -/
def State.oweReceipt (id : Nat) (kind : ReceiptKind) (s : State) : State :=
  let s1 := if ((s.storedMessage id).bind Message.mark).isNone then s.withOwed (s.messages.owed ++ [.message id]) else s
  (s1.mapMessage id fun m => { m with mark := some (ReceiptMark.owe kind m.mark) }).placeReceipts

/-! ## Removing messages and ending the refusal (R87, R89, R92) -/

/-- A message leaves the store; its receipt entry is withdrawn or detached (R92). -/
def State.removeMessage (id : Nat) (s : State) : State :=
  let s1 := if s.owedStage (.message id) = none ∨ s.owedStage (.message id) = some .owed then s
            else s.withdraw (.receipt id)
  s1.withMessages { s1.messages with
    list := s1.messages.list.filter fun m => m.id ≠ id
    owed := s1.messages.owed.filter fun i => i ≠ .message id }

/-- The refusal-owed record is ended; its entry is withdrawn or detached (R89). -/
def State.endRefusal (s : State) : State :=
  let s1 := if s.owedStage .refusal = none ∨ s.owedStage .refusal = some .owed then s else s.withdraw .receiptRefusal
  s1.withMessages { s1.messages with refusal := none, owed := s1.messages.owed.filter fun i => i ≠ .refusal }

/-! ## A message arrives (R86 to R89) -/

/-- There is room for a text of `n` bytes (R87). -/
def hasRoom (ms : List Message) (n : Nat) : Bool :=
  decide (ms.length < Config.messageSize) && decide (poolUsed ms + n ≤ Config.poolSize)

/-- The messages that may be removed for an arrival, in order (R87). -/
def removable (urgent : Bool) (ms : List Message) : List Nat :=
  (ms.filter fun m => m.state ≠ .unread).map Message.id
    ++ (if urgent then (ms.filter fun m => m.state = .unread && !m.urgent).map Message.id else [])

/-- The shortest run of removals that makes room, none when no run does (R87). -/
def roomFor (n : Nat) (ms : List Message) : List Nat → Option (List Nat)
  | [] => if hasRoom ms n then some [] else none
  | id :: rest =>
    if hasRoom ms n then some []
    else (roomFor n (ms.filter fun m => m.id ≠ id) rest).map (id :: ·)

/-- One removal for room, counted (R87). -/
def State.removeForRoom (id : Nat) (s : State) : State :=
  let s1 := s.removeMessage id
  s1.withMessages { s1.messages with removals := satAdd Config.smallMax s1.messages.removals 1 }

/-- A message is stored (R89). -/
def State.storeMessage (f : MessageFields) (s : State) : State :=
  let m : Message :=
    { id := f.id, urgent := f.urgent, wanted := f.wanted, options := f.options, text := f.text, state := .unread
      answer := none, mark := none, lastSent := none }
  let s1 := (s.withList (s.messages.list ++ [m])).raise (if f.urgent then .msgUrgent else .msgNew)
  let s2 := if s1.messages.refusal.any (fun r => r.id = f.id) then s1.endRefusal else s1
  if f.wanted then s2.oweReceipt f.id .delivered else s2.placeReceipts

/-- An arrival is refused for want of room (R88). -/
def State.refuseMessage (f : MessageFields) (s : State) : State :=
  if !f.wanted then s
  else
    (match s.messages.refusal with
     | none =>
       (s.withRefusal (some { id := f.id, stage := .owed, replaced := false })).withOwed (s.messages.owed ++ [OwedItem.refusal])
     | some r =>
       s.withRefusal (some { r with id := f.id, replaced := r.replaced || decide (r.stage = OwedStage.inFlight) })).placeReceipts

/-- A duplicate owes the last sent receipt again (R86). -/
def State.duplicateMessage (m : Message) (s : State) : State :=
  match m.wanted, m.mark, m.lastSent with
  | true, none, some kind => s.oweReceipt m.id kind
  | _, _, _ => s

/-- A MESSAGE frame reaches the Message Store (R86, R87). -/
def State.messageArrives (f : MessageFields) (s : State) : State :=
  match s.storedMessage f.id with
  | some m => s.duplicateMessage m
  | none =>
    match roomFor f.text.length s.messages.list (removable f.urgent s.messages.list) with
    | some ids => (ids.foldl (fun t id => t.removeForRoom id) s).storeMessage f
    | none => s.refuseMessage f

/-- A MESSAGE_RECALL frame (R92). -/
def State.recallMessage (id : Nat) (s : State) : State :=
  match s.storedMessage id with
  | some m =>
    let s1 := s.removeMessage id
    (if m.state = .unread then s1.raise .msgRecalled else s1).placeReceipts
  | none => if s.messages.refusal.any (fun r => r.id = id) then s.endRefusal.placeReceipts else s

/-! ## Grants and modem results (R94 to R96) -/

/-- The grant of a RECEIPT entry (R94, R95). -/
def State.receiptGranted (i : OwedItem) (s : State) : State :=
  let s1 := s.setOwedStage i .inFlight
  match i with
  | .message _ => s1
  | .refusal => s1.withRefusal (s1.messages.refusal.map fun r => { r with replaced := false })

/-- TX_DONE of a message's RECEIPT (R94). -/
def State.receiptDone (id : Nat) (s : State) : State :=
  match (s.storedMessage id).bind Message.mark with
  | none => s
  | some k =>
    match k.next with
    | some kind =>
      (s.mapMessage id fun m => { m with lastSent := some k.kind
                                         mark := some { kind, stage := .owed, next := none } }).placeReceipts
    | none =>
      ((s.mapMessage id fun m => { m with lastSent := some k.kind, mark := none }).withOwed
        (s.messages.owed.filter fun i => i ≠ .message id)).placeReceipts

/-- A mark goes back to a stage, a next kind becoming the kind (R94, R98). -/
def ReceiptMark.back (stage : OwedStage) (k : ReceiptMark) : ReceiptMark :=
  { kind := k.next.getD k.kind, stage, next := none }

/-- TX_FAIL of a message's RECEIPT (R94). -/
def State.receiptFailed (id : Nat) (s : State) : State :=
  s.mapMessage id fun m => { m with mark := m.mark.map (ReceiptMark.back .queued) }

/-- TX_DONE of the refusal's RECEIPT (R95). -/
def State.refusalDone (s : State) : State :=
  match s.messages.refusal with
  | none => s
  | some r =>
    (if r.replaced then s.withRefusal (some { r with stage := .owed, replaced := false })
     else (s.withRefusal none).withOwed (s.messages.owed.filter fun i => i ≠ .refusal)).placeReceipts

/-- TX_FAIL of the refusal's RECEIPT (R95). -/
def State.refusalFailed (s : State) : State :=
  s.withRefusal (s.messages.refusal.map fun r => { r with stage := .queued, replaced := false })

/-- TX_DONE of a DRIVER_MSG (R96). -/
def State.driverDone (number : Nat) (s : State) : State :=
  s.withMessages { s.messages with outstanding := s.messages.outstanding - 1, delivered := number }

/-! ## Resets (R98) -/

/-- The Message Store's soft-reset values (R98). -/
def Messages.softReset (m : Messages) : Messages :=
  { m with
    list := m.list.map fun x => { x with mark := x.mark.map (ReceiptMark.back .owed) }
    refusal := m.refusal.map fun r => { r with stage := .owed, replaced := false }
    outstanding := 0 }

end Sys2Proof.Machine
end

