-- ==== Sys2Proof/Machine/OfferUnit.lean ====
section
/-! DEFINITION. The Offer Unit (chapter 4): the Offer Table, ranks, the bid, owed cancels and the PARKED stop. -/

namespace Sys2Proof.Machine

/-- A closed state (R60). -/
def OfferState.closed : OfferState → Bool
  | .shown | .bid | .awarded => false
  | _ => true

def State.withEntries (s : State) (es : List OfferEntry) : State := s.withOffers { s.offers with entries := es }

def State.withBid (s : State) (b : Option BidRecord) : State := s.withOffers { s.offers with bid := b }

def State.withCancels (s : State) (cs : List Cancel) : State := s.withOffers { s.offers with cancels := cs }

/-- The entry of an offer id. -/
def State.entry (s : State) (id : Nat) : Option OfferEntry := s.offers.entries.find? (fun e => e.id = id)

/-- Some entry is in a state. -/
def State.anyEntry (s : State) (st : OfferState) : Bool := s.offers.entries.any (fun e => e.state = st)

/-! ## Zones and rank (R61, R62) -/

/-- The Zone Table holds a zone of that number. -/
def State.zoneHeld (s : State) (z : Nat) : Bool := s.zones.any (fun x => x.number = z)

/-- The current zone, when it is known (R61). -/
def State.knownZone (s : State) : Option Nat := s.offers.zone.filter s.zoneHeld

/-- The neighbour list of the current zone. -/
def State.neighbours (s : State) : List Nat :=
  ((s.offers.zone.bind fun z => s.zones.find? (fun x => x.number = z)).map Zone.neighbours).getD []

/-- The rank of an arriving offer; no zone is DIRECT (R62). -/
def State.rank (s : State) (zone : Option Nat) : Nat :=
  match zone with
  | none => 0
  | some z => if s.offers.zone = some z then 0 else if s.neighbours.contains z then 1 else 2

/-! ## Closing entries -/

/-- An entry takes a new state; it keeps its award wait only while in BID (R59, R71). -/
def OfferEntry.become (st : OfferState) (e : OfferEntry) : OfferEntry :=
  { e with state := st, waiting := if st = .bid then e.waiting else none }

/-- The entry of an id takes a new state. -/
def State.setEntry (id : Nat) (st : OfferState) (s : State) : State :=
  s.withEntries (s.offers.entries.map fun e => if e.id = id then e.become st else e)

/-- The entry of an id moves into a closed state with OFFER_CLOSED (R60). -/
def State.closeEntry (id : Nat) (st : OfferState) (s : State) : State := (s.setEntry id st).raise .offerClosed

/-- Every SHOWN entry becomes LAPSED, each with OFFER_CLOSED (R72, R77, R81). -/
def State.lapseShown (s : State) : State :=
  if s.anyEntry .shown then
    (s.withEntries (s.offers.entries.map fun e => if e.state = .shown then e.become .lapsed else e)).raise .offerClosed
  else s

/-- The STOPPING boundary: STOPPED once no entry is in BID, lapsing the SHOWN entries (R81). -/
def State.offerBoundary (s : State) : State :=
  if s.offers.run = .stopping ∧ s.anyEntry .bid = false then
    (s.withOffers { s.offers with run := .stopped }).lapseShown
  else s

/-- The Offer Unit is told to stop (R81). -/
def State.stopOffers (s : State) : State :=
  if s.offers.run = .running then (s.withOffers { s.offers with run := .stopping }).offerBoundary else s

/-- The Offer Unit runs again (R81). -/
def State.runOffers (s : State) : State := s.withOffers { s.offers with run := .running }

/-! ## Owed cancellations (R76) -/

def Cancel.isOwed (c : Cancel) : Bool := c.stage = .owed

/-- A cancel's stage is changed. -/
def State.setCancel (id : Nat) (stage : OwedStage) (s : State) : State :=
  s.withCancels (s.offers.cancels.map fun c => if c.offer = id then { c with stage } else c)

/-- The oldest OWED cancel is placed when class 1 has a place for it (R76). -/
def State.placeCancel (s : State) : State :=
  match s.offers.cancels.find? Cancel.isOwed with
  | none => s
  | some c =>
    if s.mainRuns && hasPlace s.arbiter.queue (.bidCancel c.offer c.reason) then
      (s.enqueue (.bidCancel c.offer c.reason)).setCancel c.offer .queued
    else s

/-- Cancels are placed in list order while class 1, which holds at most two entries, has a place (R76). -/
def State.placeCancels (s : State) : State := s.placeCancel.placeCancel

/-- The cancel list after a cancel becomes owed: merged, appended, replacing the oldest that may be removed, or dropped
(R76). -/
def oweInto (cs : List Cancel) (new : Cancel) : List Cancel :=
  let removable := fun c : Cancel => c.isOwed && decide (c.reason ≠ .driverCancel)
  if cs.any (fun c => c.offer = new.offer) then cs
  else if cs.length < Config.cancelSize then cs ++ [new]
  else if cs.any removable then cs.eraseP removable ++ [new]
  else cs

/-- A BID_CANCEL becomes owed (R76). -/
def State.oweCancel (id : Nat) (reason : CancelReason) (s : State) : State :=
  (s.withCancels (oweInto s.offers.cancels { offer := id, reason, stage := .owed })).placeCancels

/-! ## The bid -/

/-- The bid record is removed; its frame is withdrawn when queued and detached when in flight (R70, R74, R75). -/
def State.dropBid (s : State) : State :=
  match s.offers.bid with
  | none => s
  | some b => (if b.stage = .sent then s else s.withdraw (.bid b.offer)).withBid none

/-- The bid record's stage, for an entry's id. -/
def State.bidStage (s : State) (id : Nat) : Option BidStage :=
  (s.offers.bid.filter (fun b => b.offer = id)).map BidRecord.stage

/-- The grant of the BID entry (R69). -/
def State.bidGranted (s : State) : State :=
  s.withBid (s.offers.bid.map fun b => { b with stage := .inFlight })

/-- TX_DONE of the BID frame: the award wait starts, or the marked cancel becomes owed (R69, R70, R77). -/
def State.bidDone (id : Nat) (s : State) : State :=
  match s.offers.bid with
  | none => s
  | some b =>
    if b.offer ≠ id then s
    else if b.mark = .cancelOnDone then (s.withBid none).oweCancel id .busy
    else
      ((s.withBid (some { b with stage := .sent, mark := .none })).withEntries
        (s.offers.entries.map fun e =>
          if e.id = id ∧ e.state = .bid then { e with waiting := some e.awardWait } else e)).placeCancels

/-- TX_FAIL of the BID frame: back to QUEUED, or given up under a mark (R69, R70, R77). -/
def State.bidFailed (id : Nat) (s : State) : State :=
  match s.offers.bid with
  | none => s
  | some b =>
    if b.offer ≠ id then s
    else
      match b.mark with
      | .none => s.withBid (some { b with stage := .queued })
      | .expiryPending => (((s.withdraw (.bid id)).withBid none).closeEntry id .expired).offerBoundary.placeCancels
      | .cancelOnDone => ((s.withdraw (.bid id)).withBid none).placeCancels

/-- Results of a BID_CANCEL frame (R76). -/
def State.cancelDone (id : Nat) (s : State) : State :=
  (s.withCancels (s.offers.cancels.filter fun c => c.offer ≠ id)).placeCancels

/-! ## An offer arrives (R63 to R66) -/

/-- The offer meets acceptance (R63). No zone is DIRECT. -/
def State.acceptsOffer (s : State) (zone : Option Nat) : Bool :=
  s.meter.state = .vacant && s.offers.run ≠ .stopped &&
    (match zone with
     | none => true
     | some z => s.knownZone.isSome && s.zoneHeld z && decide (s.rank (some z) ≤ s.settings.reach))

/-- The entry of a newly placed offer (R65). -/
def State.newEntry (s : State) (zone : Option Nat) (f : OfferFields) : OfferEntry :=
  { id := f.id, addressing := if zone.isSome then .zone else .direct, zone, rank := s.rank zone
    lifetime := f.lifetime, awardWait := s.settings.awardWait, waiting := none, text := f.text
    estimate := f.estimate, account := f.account, arrival := s.offers.arrivals, state := .shown }

/-- The offer joins the table as the newest entry (R65). -/
def State.placeOffer (zone : Option Nat) (f : OfferFields) (s : State) : State :=
  (s.withOffers { s.offers with
    entries := s.offers.entries ++ [s.newEntry zone f]
    arrivals := (s.offers.arrivals + 1) % 65536 }).raise .offerNew

/-- The displacement candidate: the worst-ranked SHOWN entry, the oldest among equals (R66). -/
def State.displacementCandidate (s : State) : Option OfferEntry :=
  [2, 1, 0].findSome? fun r => s.offers.entries.find? fun e => e.state = .shown && e.rank = r

/-- Placement of an accepted offer that is no duplicate (R65, R66). -/
def State.placeOrDisplace (zone : Option Nat) (f : OfferFields) (s : State) : State :=
  if s.offers.entries.length < Config.offerSize then s.placeOffer zone f
  else if s.offers.entries.any (fun e => e.state.closed) then
    (s.withEntries (s.offers.entries.eraseP fun e => e.state.closed)).placeOffer zone f
  else
    match s.displacementCandidate with
    | none => s
    | some c =>
      if s.rank zone < c.rank then
        ((s.withEntries (s.offers.entries.filter fun e => e.id ≠ c.id)).raise .offerClosed).placeOffer zone f
      else s

/-- A duplicate refreshes a SHOWN entry whose lifetime has not run out, and is otherwise ignored (R64, R67, log 2). -/
def State.refreshOffer (f : OfferFields) (s : State) : State :=
  s.withEntries (s.offers.entries.map fun e =>
    if e.id = f.id ∧ e.state = .shown ∧ e.lifetime ≠ 0 then { e with lifetime := f.lifetime, text := f.text } else e)

/-- An OFFER frame reaches the Offer Unit (R63). -/
def State.offerArrives (zone : Option Nat) (f : OfferFields) (s : State) : State :=
  if s.acceptsOffer zone then
    if (s.entry f.id).isSome then s.refreshOffer f else s.placeOrDisplace zone f
  else s

/-! ## Dispatch answers (R72 to R75) -/

/-- The award is taken: meter, entry, bid record and SHOWN entries move in one step (R6, R72). -/
def State.takeAward (id : Nat) (s : State) : State :=
  ((((s.withMeter { s.meter with state := .assigned, jobId := some id }).setEntry id .awarded).withBid
    none).lapseShown.raise .jobAwarded).offerBoundary

/-- A repeat of an award already taken (R73). -/
def State.awardRepeated (s : State) (id : Nat) : Bool :=
  s.offers.entries.any (fun e => e.id = id && (e.state = .awarded || e.state = .done))
    || (s.meter.state = .assigned && s.meter.jobId = some id)
    || (s.meter.onTrip && s.meter.trip.any (fun t => t.jobId = some id))

/-- An AWARD frame (R72, R73). -/
def State.awardArrives (id : Nat) (s : State) : State :=
  if s.offers.entries.any (fun e => e.id = id && e.state = .bid) && s.bidStage id = some .sent
      && s.meter.state = .vacant then s.takeAward id
  else if s.awardRepeated id then s
  else s.oweCancel id (if s.meter.state = .vacant then .notBidding else .busy)

/-- A REFUSE frame (R74). -/
def State.refuseArrives (id : Nat) (s : State) : State :=
  match s.entry id with
  | some e => if e.state = .bid then (s.dropBid.closeEntry id .lost).offerBoundary else s
  | none => s

/-- A withdrawal handed to the Meter Unit (R8). -/
def State.withdrawJob (id : Nat) (s : State) : State :=
  if s.meter.state = .assigned ∧ s.meter.jobId = some id then
    (s.withMeter { s.meter with state := .vacant, jobId := none }).raise .jobWithdrawn
  else s

/-- An OFFER_WITHDRAW frame (R75). -/
def State.withdrawArrives (id : Nat) (s : State) : State :=
  match s.entry id with
  | none => s.withdrawJob id
  | some e =>
    match e.state with
    | .shown => s.closeEntry id .withdrawn
    | .bid => (s.dropBid.closeEntry id .withdrawn).offerBoundary
    | .awarded => (s.closeEntry id .withdrawn).withdrawJob id
    | _ => s

/-! ## The meter and the offers (R77, R78) -/

/-- The bid of an entry that lapses is dealt with by its stage (R77). -/
def State.lapseBid (id : Nat) (s : State) : State :=
  match s.bidStage id with
  | some .queued => s.dropBid
  | some .inFlight => s.withBid (s.offers.bid.map fun b => { b with mark := .cancelOnDone })
  | some .sent => (s.withBid none).oweCancel id .busy
  | none => s

/-- The meter leaves VACANT for HIRED or OFF (R77). -/
def State.lapseOffers (s : State) : State :=
  match s.offers.entries.find? (fun e => e.state = .bid) with
  | none => s.lapseShown
  | some e => ((s.lapseShown.closeEntry e.id .lapsed).lapseBid e.id).offerBoundary

/-- The AWARDED entry of a job id follows the meter out of ASSIGNED (R78). -/
def State.closeAwarded (id : Option Nat) (st : OfferState) (s : State) : State :=
  if s.offers.entries.any (fun e => some e.id = id && e.state = .awarded) then
    (s.withEntries (s.offers.entries.map fun e =>
      if some e.id = id ∧ e.state = .awarded then e.become st else e)).raise .offerClosed
  else s

/-! ## Timers (R67, R70, R71) -/

/-- One meter second for an entry: lifetime in SHOWN and in BID until sent, award wait once sent. -/
def OfferEntry.second (sent : Bool) (e : OfferEntry) : OfferEntry :=
  match e.state with
  | .shown => { e with lifetime := e.lifetime - 1 }
  | .bid => if sent then { e with waiting := e.waiting.map (· - 1) } else { e with lifetime := e.lifetime - 1 }
  | _ => e

/-- One meter second for the Offer Unit. -/
def State.offersSecond (s : State) : State :=
  s.withEntries (s.offers.entries.map (OfferEntry.second (s.offers.bid.any fun b => b.stage = .sent)))

/-- A SHOWN entry whose lifetime has reached 0 expires (R67). -/
def State.expireShown (id : Nat) (s : State) : State :=
  if s.offers.entries.any (fun e => e.id = id && e.state = .shown && e.lifetime = 0) then s.closeEntry id .expired
  else s

/-- The lifetime of the entry in BID has reached 0 (R70). -/
def State.expireBid (s : State) : State :=
  match s.offers.entries.find? (fun e => e.state = .bid && e.lifetime = 0) with
  | none => s
  | some e =>
    match s.bidStage e.id with
    | some .queued => (s.dropBid.closeEntry e.id .expired).offerBoundary
    | some .inFlight => s.withBid (s.offers.bid.map fun b => { b with mark := .expiryPending })
    | _ => s

/-- The award wait has reached 0 (R71). -/
def State.expireAward (s : State) : State :=
  match s.offers.entries.find? (fun e => e.state = .bid && e.waiting = some 0) with
  | none => s
  | some e => (((s.withBid none).closeEntry e.id .lost)).offerBoundary

/-! ## Resets (R82) -/

/-- The Offer Unit's soft-reset values (R82). -/
def Offers.softReset (run : RunState) (o : Offers) : Offers :=
  { o with entries := [], bid := none, run, cancels := o.cancels.map fun c => { c with stage := .owed } }

end Sys2Proof.Machine
end

