-- ==== Sys2Proof/Machine/AirLink.lean ====
section
/-! DEFINITION. The Air Link Unit (chapter 7): the receive record and the six receive checks, the PARKED stop, the
channel cycle and the link state. -/

namespace Sys2Proof.Machine

/-! ## The receive record (R119) -/

/-- The record a start marker forms. -/
def ReceiveRecord.fresh : ReceiveRecord := { bytes := [], count := 0, crc := crcStart }

/-- One byte delivered in reception: counted, checked, and stored up to the largest frame. -/
def ReceiveRecord.push (r : ReceiveRecord) (b : Byte) : ReceiveRecord :=
  { bytes := if r.bytes.length < Config.airFrameMax then r.bytes ++ [b] else r.bytes
    count := satAdd Config.countMax r.count 1
    crc := crcByte r.crc b }

/-- A run of delivered bytes. -/
def ReceiveRecord.pushAll (r : ReceiveRecord) (bs : List Byte) : ReceiveRecord := bs.foldl ReceiveRecord.push r

/-- The CRC error count rises (R120). -/
def State.countCrcError (s : State) : State :=
  s.withLink { s.link with crcErrors := satAdd Config.countMax s.link.crcErrors 1 }

def State.withRecord (s : State) (r : Option ReceiveRecord) : State := s.withLink { s.link with record := r }

/-! ## The receive checks (R120 to R127) -/

/-- What the checks make of a frame. -/
inductive Verdict
  /-- Check 1 fails: discarded, and the CRC error count rises. -/
  | badCheck
  /-- Check 2 or 6 fails: discarded with an AIR_MALFORMED fault. -/
  | malformed (kindByte detail : Nat)
  /-- Check 3, 4 or 5 fails: discarded with nothing. -/
  | foreign
  /-- Every check is passed. -/
  | accepted (kind : DownKind) (hdr : AirHeader) (payload : List Byte)
  deriving DecidableEq, Repr

/-- The third check: the fleet (R122). While the identity is unset every fleet number 1..255 passes. -/
def fleetPasses (i : Identity) (fleet : Nat) : Bool :=
  if i.cab = 0 then fleet != 0 else fleet == i.fleet

/-- The Address Table holds an entry of the mode and value whose class set includes the class (R124, R125). -/
def addressHolds (table : List AddressEntry) (fleet : Bool) (value : Nat) (c : DownClass) : Bool :=
  table.any fun e => e.fleet == fleet && e.value == value && e.classes.getLsbD c.bit

/-- The fifth check for a downlink kind (R124 to R126). -/
def addressPasses (i : Identity) (table : List AddressEntry) (k : DownKind) (hdr : AirHeader) : Bool :=
  let value := hdr.addr.toNat
  if i.cab = 0 then hdr.mode = 3 && k.cls = .control
  else
    match hdr.mode.toNat with
    | 0 => value = i.cab
    | 1 => k.cls ≠ .management && addressHolds table false value k.cls
    | 2 => k = .offer && decide (1 ≤ value ∧ value ≤ 999)
    | 3 => k.cls = .control || (k.cls ≠ .management && addressHolds table true value k.cls)
    | _ => false

/-- The fifth check for an unassigned kind code: CAB mode to this cab only (R124, R126). -/
def unassignedPasses (i : Identity) (hdr : AirHeader) : Bool :=
  i.cab != 0 && hdr.mode = 0 && hdr.addr.toNat = i.cab

/-- Checks 3 to 6 on a frame whose check sequence and length are good (R122 to R127). -/
def State.screenFrame (s : State) (code : Nat) (hdr : AirHeader) (payload : List Byte) : Verdict :=
  if !fleetPasses s.identity hdr.fleet.toNat then .foreign
  else if isUplinkCode code then .foreign
  else
    match DownKind.ofCode code with
    | none => if unassignedPasses s.identity hdr then .malformed code 0 else .foreign
    | some k =>
      if !addressPasses s.identity s.addresses k hdr then .foreign
      else
        match payloadFault k payload with
        | some pos => .malformed code pos
        | none => .accepted k hdr payload

/-- The header of a frame's bytes (R194). -/
def headerOf (bs : List Byte) : AirHeader :=
  { fleet := bs.getD 0 0, mode := bs.getD 2 0, addr := BitVec.ofNat 16 (beNat (slice bs 3 2)) }

/-- All six checks on a closed receive record (R120 to R127). -/
def State.verdict (s : State) (r : ReceiveRecord) : Verdict :=
  if r.count < 8 ∨ r.crc ≠ 0#16 then .badCheck
  else
    let declared := byteAt r.bytes 5
    if Config.airPayloadMax < declared ∨ r.count ≠ 8 + declared then .malformed (byteAt r.bytes 1) r.count
    else s.screenFrame (byteAt r.bytes 1) (headerOf r.bytes) (slice r.bytes 6 declared)

/-! ## The PARKED air link stop (R129) -/

/-- A stop in progress takes effect once no frame is in reception. -/
def State.receiveBoundary (s : State) : State :=
  if s.link.run = .stopping ∧ s.link.record = none then s.withLink { s.link with run := .stopped } else s

/-- The receive path is told to stop. -/
def State.stopAir (s : State) : State :=
  if s.link.run = .running then (s.withLink { s.link with run := .stopping }).receiveBoundary else s

/-- The receive path runs again. -/
def State.runAir (s : State) : State := s.withLink { s.link with run := .running }

/-! ## Markers and routing -/

/-- A start marker (R119): a frame still in reception is abandoned and counted, which ends a STOPPING (R129). -/
def State.startMarker (s : State) : State :=
  if s.mainRuns then
    let s1 := if s.link.record.isSome then ((s.countCrcError).withRecord none).receiveBoundary else s
    s1.withRecord (some .fresh)
  else s

/-- The end marker of a frame of a downlink kind whose check sequence and length are good: checks 3 to 6, and routing
to `owner`. It needs a frame in reception (R119). In STOPPED only a CYCLE is routed (R129). -/
def State.receive (k : DownKind) (hdr : AirHeader) (payload : List Byte) (owner : State → State) (s : State) : State :=
  if s.mainRuns && s.link.record.isSome then
    let s1 := s.withRecord none
    (match s.screenFrame k.code hdr payload with
     | .accepted _ _ _ => if s.link.run = RunState.stopped ∧ k ≠ DownKind.cycle then s1 else owner s1
     | .malformed kindByte detail => s1.offerFault .airMalformed .air kindByte detail
     | _ => s1).receiveBoundary
  else s

/-- The end marker of a frame that fails a check (R119 to R127). A frame that passes every check is no rejected frame,
and this command is not its end marker (log 5). -/
def State.rejectFrame (bytes : List Byte) (s : State) : State :=
  if !s.mainRuns then s
  else
    match s.link.record with
    | none => s
    | some r =>
      let r := r.pushAll bytes
      let s1 := s.withRecord none
      match s.verdict r with
      | .accepted _ _ _ => s
      | .badCheck => s1.countCrcError.receiveBoundary
      | .malformed kindByte detail => (s1.offerFault .airMalformed .air kindByte detail).receiveBoundary
      | .foreign => s1.receiveBoundary

/-! ## The channel cycle (R130 to R135) -/

/-- Each accepted CYCLE sets the clock and the time-known flag (R135). -/
def State.setClock (f : CycleFields) (s : State) : State :=
  s.withTime { clock := { day := f.day, second := f.second }, known := true }

/-- A CYCLE that opens a new cycle (R130). -/
def State.openCycle (f : CycleFields) (s : State) : State :=
  let loaded := if f.quiet then 0 else f.allowance
  let s1 := (s.setClock f).withLink { s.link with
    state := .synced
    cycle := some { number := f.number, loaded, quiet := f.quiet }
    allowance := loaded
    lossTimer := some s.settings.linkLoss }
  if s.link.state = .synced then s1 else s1.raise .linkState

/-- A repeat of the current cycle (R131). -/
def State.repeatCycle (f : CycleFields) (now : CycleNow) (s : State) : State :=
  (s.setClock f).withLink { s.link with
    state := .synced
    cycle := some (if f.quiet then { now with loaded := 0, quiet := true } else now)
    allowance := if f.quiet then 0 else s.link.allowance
    lossTimer := some s.settings.linkLoss }

/-- An accepted CYCLE (R130, R131). -/
def State.takeCycle (f : CycleFields) (s : State) : State :=
  match s.link.cycle with
  | some now => if now.number = f.number then s.repeatCycle f now else s.openCycle f
  | none => s.openCycle f

/-- The link-loss timer has expired (R133). -/
def State.loseLink (s : State) : State :=
  if s.link.state = .synced ∧ s.link.lossTimer = some 0 then
    (s.withLink { s.link with state := .lost, cycle := none, allowance := 0, lossTimer := none }).raise .linkState
  else s

/-- One meter second for the link-loss timer (R133). -/
def Link.second (l : Link) : Link := { l with lossTimer := l.lossTimer.map (· - 1) }

/-! ## The allowance (R134) -/

/-- A routine grant takes 1 from the remaining allowance. -/
def State.charge (s : State) : State := s.withLink { s.link with allowance := s.link.allowance - 1 }

/-- A failed routine frame gives its charge back, when its cycle is current and the loaded allowance is not reached. -/
def State.giveBack (cycle : Option Nat) (s : State) : State :=
  match s.link.cycle, cycle with
  | some now, some n =>
    if now.number = n ∧ s.link.allowance < now.loaded then
      s.withLink { s.link with allowance := s.link.allowance + 1 }
    else s
  | _, _ => s

end Sys2Proof.Machine
end

