-- ==== Sys2Proof/Machine/EmergencyUnit.lean ====
section
/-! DEFINITION. The Emergency Unit (chapter 6), and the phase of the roof pattern that it starts and stops (R21,
R114). -/

namespace Sys2Proof.Machine

/-- An emergency is raised (R100). -/
def EmergencyState.raised : EmergencyState → Bool
  | .active | .acked => true
  | _ => false

/-- The interval of the current state (R108). -/
def State.reportInterval (s : State) : Nat :=
  if s.emergency.state = .acked then s.settings.ackedInterval else s.settings.activeInterval

/-- EMERGENCY is raised in VISIBLE mode (R113). -/
def State.raiseEmergency (s : State) : State := if s.settings.visible then s.raise .emergency else s

/-- A report falls due (R108). -/
def State.reportDue (s : State) : State := (s.withEmergency { s.emergency with owed := true }).fillSlot

/-- EMERGENCY_DURING is set on a trip in HIRED (R103, R104). -/
def State.markTrip (s : State) : State :=
  if s.meter.state = .hired then s.mapTrip fun t => { t with flags := { t.flags with emergencyDuring := true } } else s

/-- The roof pattern starts or goes on showing at a tick (R21, R114). -/
def State.startRoof (s : State) : State :=
  if s.settings.roofPattern then s.withRoof (.blinking true 0) else s

/-- An activation (R103). -/
def State.activate (s : State) : State :=
  ((((s.withEmergency { s.emergency with
      state := .active, press := none
      activation := some { clock := s.time.clock, known := s.time.known }
      elapsed := 0, reports := 0, interval := some s.settings.activeInterval }).markTrip).reportDue).startRoof).raiseEmergency

/-- An escalation (R104). -/
def State.escalate (s : State) : State :=
  (((s.withEmergency { s.emergency with
      state := .active, press := none, interval := some s.settings.activeInterval }).markTrip).reportDue).raiseEmergency

/-- An EMERGENCY_ACK that the Emergency Unit takes (R105). -/
def State.acknowledgeEmergency (s : State) : State :=
  if s.emergency.state = .active then
    ((s.withEmergency { s.emergency with
        state := .acked, interval := some s.settings.ackedInterval }).reportDue).raiseEmergency
  else s

/-- An EMERGENCY_CLEAR that the Emergency Unit takes (R106). -/
def State.clearEmergency (s : State) : State :=
  if s.emergency.state.raised then
    (((s.withEmergency { s.emergency with
        state := .clear, press := none, interval := none, owed := false }).withdrawSlot).withRoof .steady).raiseEmergency
  else s

/-- The interval timer has expired (R108). -/
def State.expireInterval (s : State) : State :=
  if s.emergency.state.raised ∧ s.emergency.interval = some 0 then
    (s.withEmergency { s.emergency with interval := some s.reportInterval }).reportDue
  else s

/-- The switch at a timer tick (R101, R102, R104). A press timer that reaches 0 waits there for ACTIVATION or
ESCALATION (log 2). -/
def State.sampleSwitch (active : Bool) (s : State) : State :=
  let e := s.emergency
  let edge := active && !e.lastSample
  let stored := { e with lastSample := active }
  match e.state with
  | .clear =>
    if edge then (s.withEmergency { stored with state := .pressing, press := some s.settings.hold }).raiseEmergency
    else s.withEmergency stored
  | .pressing =>
    if active then s.withEmergency { stored with press := e.press.map (· - 1) }
    else (s.withEmergency { stored with state := .clear, press := none }).raiseEmergency
  | .active => s.withEmergency stored
  | .acked =>
    if edge then s.withEmergency { stored with press := some s.settings.hold }
    else if active then s.withEmergency { stored with press := e.press.map (· - 1) }
    else s.withEmergency { stored with press := none }

/-- One meter second (R103, R108): the elapsed count and the interval timer run in ACTIVE and ACKED. -/
def Emergency.second (e : Emergency) : Emergency :=
  if e.state.raised then
    { e with elapsed := satAdd Config.countMax e.elapsed 1, interval := e.interval.map (· - 1) }
  else e

/-! ## Reports (R109, R110) -/

/-- TX_DONE of a report (R110). -/
def State.reportDone (s : State) : State :=
  s.withEmergency { s.emergency with
    reports := satAdd Config.smallMax s.emergency.reports 1
    owed := s.emergency.owed && s.arbiter.slot }

/-- TX_FAIL of a report: the mark stays set and the slot is filled again (R110). -/
def State.reportFailed (s : State) : State := s.fillSlot

/-- The job id that a report carries (R109). -/
def State.reportJob (s : State) : Option Nat :=
  match s.meter.state with
  | .assigned => s.meter.jobId
  | .hired | .total => s.meter.trip.bind Trip.jobId
  | _ => none

/-- The emergency report, built from the state as it stands (R109, R196). -/
def State.reportPayload (s : State) : List Byte :=
  let e := s.emergency
  let trip := if s.meter.onTrip then s.meter.trip else none
  u8 e.reports ++ u16 e.elapsed
    ++ (e.activation.map (fun a => a.clock.bytes)).getD (u32 0)
    ++ u8 e.state.code ++ u8 s.meter.state.code ++ optId s.reportJob
    ++ amount ((trip.map Trip.fare).getD 0)
    ++ u32 ((trip.map fun t => metres t.pulses s.identity.k).getD 0)
    ++ optId s.knownZone
    ++ flagByte [s.monitor.seatLevel, s.monitor.ignLevel, e.activation.any Activation.known, trip.isSome]
    ++ u8 s.condition.code ++ u8 s.link.state.code

/-! ## The roof pattern (R21) -/

/-- One timer tick: an armed pattern turns ROOF on, a blinking one counts towards its toggle. -/
def RoofPhase.tick : RoofPhase → RoofPhase
  | .steady => .steady
  | .armed _ => .blinking true 0
  | .blinking on n => .blinking on (min Config.roofTicks (n + 1))

/-- ROOF toggles after each 5 timer ticks. -/
def RoofPhase.toggle : RoofPhase → RoofPhase
  | .blinking on n => if n = Config.roofTicks then .blinking (!on) 0 else .blinking on n
  | p => p

/-- A settings commit starts or stops the pattern in ACTIVE and ACKED (R114). -/
def State.commitRoof (s : State) : State :=
  if !s.settings.roofPattern then s.withRoof .steady
  else if s.emergency.state.raised ∧ s.roof = .steady then s.withRoof (.armed s.roofLevel)
  else s

end Sys2Proof.Machine
end

