-- ==== Sys2Proof/Machine/Images.lean ====
section
/-! DEFINITION. Table images and their validation (R27, R163, R164, R166, R168, R198). A validation answers the table
an image holds, or the detail of its first failing step. -/

namespace Sys2Proof.Machine

/-! ## Address Table (R163) -/

/-- One entry record of four bytes. -/
def addressRecord (b : List Byte) : Option AddressEntry :=
  let mode := byteAt b 0
  let value := beNat (slice b 1 2)
  let classes := byteAt b 3
  if (mode = 1 ∧ 1 ≤ value ∧ value ≤ 65534 ∨ mode = 2) ∧ 1 ≤ classes ∧ classes < 32 then
    some { fleet := decide (mode = 2), value, classes := BitVec.ofNat 8 classes }
  else none

/-- The records in image order, from position `pos`, each different from those before it. -/
def addressRecords : Nat → Nat → List Byte → List AddressEntry → Except Nat (List AddressEntry)
  | 0, _, _, acc => .ok acc
  | n + 1, pos, bs, acc =>
    match addressRecord (bs.take 4) with
    | none => .error pos
    | some e =>
      if acc.any fun x => x.fleet == e.fleet && x.value == e.value then .error pos
      else addressRecords n (pos + 1) (bs.drop 4) (acc ++ [e])

/-- An Address Table image (R163). -/
def addressImage (img : List Byte) : Except Nat (List AddressEntry) :=
  let count := byteAt img 0
  if 15 < count ∨ img.length ≠ 1 + 4 * count then .error 0 else addressRecords count 1 (img.drop 1) []

/-! ## Zone Table (R164) -/

/-- `n` two-byte numbers. -/
def words : Nat → List Byte → List Nat
  | 0, _ => []
  | n + 1, bs => beNat (bs.take 2) :: words n (bs.drop 2)

/-- The zone records as they stand, none when a neighbour count is out of range or the length is wrong (step 1). -/
def zoneRecords : Nat → List Byte → Option (List Zone)
  | 0, bs => if bs.isEmpty then some [] else none
  | n + 1, bs =>
    let m := byteAt bs 2
    if bs.length < 3 ∨ 6 < m ∨ bs.length < 3 + 2 * m then none
    else (zoneRecords n (bs.drop (3 + 2 * m))).map
      ({ number := beNat (bs.take 2), neighbours := words m (bs.drop 3) } :: ·)

/-- A zone number in its range. -/
def zoneNumber (n : Nat) : Bool := 1 ≤ n && n ≤ 999

/-- Step 2 for a record after those of `before`. -/
def zoneRecordGood (before : List Zone) (z : Zone) : Bool :=
  zoneNumber z.number && before.all (fun x => x.number != z.number)
    && z.neighbours.all (fun n => zoneNumber n && n != z.number) && decide z.neighbours.Nodup

/-- The first record that fails step 2. -/
def zoneFault2 : List Zone → List Zone → Option Nat
  | _, [] => none
  | before, z :: rest => if zoneRecordGood before z then zoneFault2 (before ++ [z]) rest else some z.number

/-- The first record that names a missing neighbour (step 3). -/
def zoneFault3 (zs : List Zone) : Option Nat :=
  (zs.find? fun z => z.neighbours.any fun n => zs.all fun x => x.number != n).map Zone.number

/-- A Zone Table image (R164). -/
def zoneImage (img : List Byte) : Except Nat (List Zone) :=
  if img.isEmpty ∨ 32 < byteAt img 0 then .error 0
  else
    match zoneRecords (byteAt img 0) (img.drop 1) with
    | none => .error 0
    | some zs =>
      match zoneFault2 [] zs with
      | some d => .error d
      | none =>
        match zoneFault3 zs with
        | some d => .error d
        | none => .ok zs

/-! ## Tariff (R27) -/

/-- A packed decimal field of three bytes in a range. -/
def amountIn (bs : List Byte) (lo hi : Nat) : Option Nat := (bcdNat bs).filter fun v => decide (lo ≤ v ∧ v ≤ hi)

/-- The window of a band record: present, its bytes in range; or absent, its bytes 0 (R27, R198). -/
def bandWindow (b : List Byte) : Option (Option Window) :=
  let start := beNat (slice b 2 3)
  let stop := beNat (slice b 5 3)
  let days := byteAt b 8
  match byteAt b 1 with
  | 0 => if start = 0 ∧ stop = 0 ∧ days = 0 then some none else none
  | 1 =>
    if start ≤ 86399 ∧ stop ≤ 86399 ∧ 1 ≤ days ∧ days < 128 ∧ byteAt b 0 ≠ 1 then
      some (some { start, stop, days := BitVec.ofNat 8 days })
    else none
  | _ => none

/-- A band record of 26 bytes, in range (R25, R27, R198). -/
def bandRecord (b : List Byte) : Option Band := do
  let number := byteAt b 0
  let window ← bandWindow b
  let flagFall ← amountIn (slice b 9 3) 0 99999
  let value1 ← amountIn (slice b 13 3) 1 9999
  let length1 := beNat (slice b 16 2)
  let value2 ← if length1 = 0 then bcdNat (slice b 18 3) else amountIn (slice b 18 3) 1 9999
  let coverage := byteAt b 12
  let metres := beNat (slice b 21 2)
  let seconds := beNat (slice b 23 2)
  let attributes := byteAt b 25
  if 1 ≤ number ∧ number ≤ 8 ∧ coverage ≤ 15 ∧ 10 ≤ metres ∧ metres ≤ 10000 ∧ 1 ≤ seconds ∧ seconds ≤ 3600
      ∧ attributes < 4 then
    some { number, window, flagFall, coverage, value1, length1, value2, metres, seconds
           gateClears := attributes % 2 = 1, selectable := attributes / 2 = 1 }
  else none

/-- The band records in image order, each with a number of its own; the failing record's number (step 2). -/
def bandRecords : Nat → List Byte → List Band → Except Nat (List Band)
  | 0, _, acc => .ok acc
  | n + 1, bs, acc =>
    match bandRecord (bs.take 26) with
    | none => .error (byteAt bs 0)
    | some b =>
      if acc.any fun x => x.number == b.number then .error b.number
      else bandRecords n (bs.drop 26) (acc ++ [b])

/-- The extras in image order (step 4). -/
def extraRecords : Nat → List Byte → Option (List Extra)
  | 0, _ => some []
  | n + 1, bs => do
    let price ← amountIn (bs.take 3) 1 99999
    let max := byteAt bs 3
    if 1 ≤ max ∧ max ≤ 9 then (extraRecords n (bs.drop 4)).map ({ amount := price, max } :: ·) else none

/-- A tariff image (R27). -/
def tariffImage (img : List Byte) : Except Nat Tariff :=
  let version := beNat (slice img 0 2)
  let bands := byteAt img 2
  let extras := byteAt img 3
  if version = 0 ∨ bands = 0 ∨ 8 < bands ∨ 8 < extras ∨ img.length ≠ 4 + 26 * bands + 4 * extras then .error 0
  else
    match bandRecords bands (img.drop 4) [] with
    | .error d => .error d
    | .ok bs =>
      if bs.all fun b => b.number != 1 then .error 1
      else
        match extraRecords extras (img.drop (4 + 26 * bands)) with
        | none => .error 0
        | some xs => .ok { version, bands := bs, extras := xs }

/-! ## Settings (R166) -/

/-- The ranges of the twelve settings in position order. -/
def settingRanges : List (Nat × Nat) :=
  [(0, 2), (5, 60), (5, 60), (10, 120), (5, 30), (2, 30), (10, 120), (0, 1), (0, 1), (5, 60), (0, 1), (0, 1)]

/-- The position of the first setting out of its range, counted from `pos`. -/
def settingFault : Nat → List (Nat × Nat) → List Byte → Option Nat
  | pos, (lo, hi) :: ranges, b :: bs =>
    if lo ≤ b.toNat ∧ b.toNat ≤ hi then settingFault (pos + 1) ranges bs else some pos
  | _, _, _ => none

/-- The settings of twelve bytes. -/
def settingsOf (img : List Byte) : Settings :=
  { reach := byteAt img 0, awardWait := byteAt img 1, linkLoss := byteAt img 2, ackWait := byteAt img 3
    hold := byteAt img 4, activeInterval := byteAt img 5, ackedInterval := byteAt img 6
    visible := byteAt img 7 = 1, roofPattern := byteAt img 8 = 1, seatTime := byteAt img 9
    stopAir := byteAt img 10 = 1, stopOffers := byteAt img 11 = 1 }

/-- A settings image (R166). -/
def settingsImage (img : List Byte) : Except Nat Settings :=
  if img.length ≠ 12 then .error 0
  else
    match settingFault 1 settingRanges img with
    | some pos => .error pos
    | none => .ok (settingsOf img)

/-! ## Identity (R168) -/

/-- An identity image. -/
def identityImage (img : List Byte) : Except Nat Identity :=
  let cab := beNat (slice img 0 2)
  let fleet := byteAt img 2
  let k := beNat (slice img 3 2)
  if img.length ≠ 5 then .error 0
  else if cab = 0 ∨ 65534 < cab then .error 1
  else if fleet = 0 then .error 2
  else if k < 100 ∨ 60000 < k then .error 3
  else .ok { cab, fleet, k }

end Sys2Proof.Machine
end

