-- ==== Sys2Proof/Machine/TableLoader.lean ====
section
/-! DEFINITION. The Table Loader (chapter 9): loads, their results, and the application of tables. -/

namespace Sys2Proof.Machine

/-! ## TABLE_RESULT entries (R142) -/

/-- The owner of a displaced entry deals with the loss: a PASS_UP is counted, a SHIFT report stays pending, a STATUS is
lost (R142, R181). -/
def State.displaced (e : Entry) (s : State) : State :=
  match e with
  | .passUp _ _ =>
    s.withTerminal { s.terminal with
      upOutstanding := s.terminal.upOutstanding - 1
      upDisplaced := satAdd Config.smallMax s.terminal.upDisplaced 1 }
  | _ => s

/-- The newest class-5 entry that is not a TABLE_RESULT and not in flight (R142). -/
def State.displaceable (s : State) : Option Entry :=
  s.arbiter.queue.reverse.find? fun e => e.cls = 5 && !e.isTableResult && !s.entryInFlight e

/-- A TABLE_RESULT is offered: placed, displacing another entry, or dropped (R142). -/
def State.offerResult (r : LoadResult) (s : State) : State :=
  if sharedFree s.arbiter.queue then s.enqueue (.tableResult r)
  else
    match s.displaceable with
    | some e => ((s.dequeue e).displaced e).enqueue (.tableResult r)
    | none => s

/-! ## The load context (R155, R161) -/

def State.withContext (s : State) (c : Option Load) : State := s.withLoader { s.loader with context := c }

/-- A load ends with one result, delivered to its source port (R161). -/
def State.endLoad (port : LoadPort) (r : LoadResult) (s : State) : State :=
  let s1 := s.withContext none
  match port with
  | .air => s1.offerResult r
  | .terminal => (s1.withLoader { s1.loader with lastTerminal := some r }).raise .tableResult

/-- A result of an open load. -/
def Load.resultOf (c : Load) (result : ResultCode) (reason : Option Reason) (detail : Nat) : LoadResult :=
  { table := c.table, generation := c.generation, result, reason, detail }

/-- The context becomes OPEN for a new load (R157). -/
def State.openLoad (port : LoadPort) (f : OpenFields) (s : State) : State :=
  s.withContext (some { port, table := f.table, generation := f.generation, length := f.length, buffer := []
                        timer := Config.inactivitySeconds })

/-- The open load's timer restarts. -/
def State.restartLoad (c : Load) (s : State) : State :=
  s.withContext (some { c with timer := Config.inactivitySeconds })

/-- The port may load the table (R156). -/
def permitted (port : LoadPort) (svc : Bool) : TableId → Bool
  | .zone => true
  | .identity => port = .terminal && svc
  | _ => port = .air

/-- The open load that a frame belongs to (R158). -/
def State.belongs (s : State) (port : LoadPort) (table : TableId) (generation : Nat) : Option Load :=
  s.loader.context.filter fun c => c.port = port && c.table = table && c.generation = generation

/-- The open load is repeated by an open of the same three fields (R157). -/
def Load.repeats (c : Load) (f : OpenFields) : Bool :=
  c.table = f.table && c.generation = f.generation && c.length = f.length

/-- An open from the port that holds the context: a repeat, or a replacement with the replaced load's result (R157). -/
def State.reopen (c : Load) (f : OpenFields) (s : State) : State × Option LoadResult :=
  if c.repeats f then (s.restartLoad c, none)
  else
    let r := c.resultOf .abortedByNew none f.generation
    ((s.endLoad c.port r).openLoad c.port f, some r)

/-- A TABLE_OPEN from the air port (R156, R157). -/
def State.airOpen (f : OpenFields) (s : State) : State :=
  let refusal := fun result : ResultCode =>
    s.offerResult { table := f.table, generation := f.generation, result, reason := none, detail := 0 }
  if !permitted .air false f.table then refusal .authority
  else
    match s.loader.context with
    | none => s.openLoad .air f
    | some c => if c.port = .air then (s.reopen c f).1 else refusal .busy

/-! ## Segments, abort and inactivity (R158, R159) -/

/-- A segment of the open load, with what a local reply carries (R158). -/
def State.takeSegment (c : Load) (f : SegmentFields) (s : State) : State × List Byte :=
  let received := c.buffer.length
  if received < f.offset then
    let r := c.resultOf .gap none received
    (s.endLoad c.port r, r.bytes)
  else if f.offset < received then (s.restartLoad c, u16 received)
  else if c.length < f.offset + f.data.length then
    let r := c.resultOf .overlength none received
    (s.endLoad c.port r, r.bytes)
  else
    (s.restartLoad { c with buffer := c.buffer ++ f.data }, u16 (received + f.data.length))

/-- A TABLE_ABORT of the open load (R159). -/
def State.abortLoad (c : Load) (s : State) : State × List Byte :=
  let r := c.resultOf .aborted none 0
  (s.endLoad c.port r, r.bytes)

/-- The inactivity timer has expired (R159). -/
def State.expireLoad (s : State) : State :=
  match s.loader.context with
  | some c => if c.timer = 0 then s.endLoad c.port (c.resultOf .timeout none c.buffer.length) else s
  | none => s

/-- One meter second for the inactivity timer (R159). -/
def Loader.second (l : Loader) : Loader :=
  { l with context := l.context.map fun c => { c with timer := c.timer - 1 } }

/-! ## Application (R28, R163, R165, R167, R168) -/

/-- A change of visibility to SILENT clears the EMERGENCY flag (R179). -/
def State.commitVisibility (was : Bool) (s : State) : State :=
  if was && !s.settings.visible then s.withEvents (s.events.clear .emergency) else s

/-- A settings commit starts or ends the stops while PARKED (R81, R129, R187). -/
def State.commitStops (s : State) : State :=
  if s.condition = .parked then
    let s1 := if s.settings.stopAir then s.stopAir else s.runAir
    if s1.settings.stopOffers then s1.stopOffers else s1.runOffers
  else s

/-- All twelve settings are replaced in one change (R167). -/
def State.applySettings (new : Settings) (s : State) : State :=
  (((s.withSettings new).commitVisibility s.settings.visible).commitRoof).commitStops

/-- The identity is replaced; a report that is owed then fills the slot (R108, R168). -/
def State.applyIdentity (new : Identity) (s : State) : State :=
  let s1 := s.withIdentity new
  if s1.slotInFlight then s1 else s1.fillSlot

/-- An image is validated by its table's rule and applied whole, or rejected with a reason and a detail (R160). -/
def State.applyImage (table : TableId) (img : List Byte) (s : State) : Except (Reason × Nat) State :=
  match table with
  | .address =>
    match addressImage img with
    | .ok t => .ok (s.withAddresses t)
    | .error d => .error (.badAddress, d)
  | .zone =>
    match zoneImage img with
    | .ok t => .ok (s.withZones t)
    | .error d => .error (.badZone, d)
  | .tariff =>
    match tariffImage img with
    | .ok t => .ok (s.withTariff (some t))
    | .error d => .error (.badTariff, d)
  | .settings =>
    match settingsImage img with
    | .ok t => .ok (s.applySettings t)
    | .error d => .error (.badSettings, d)
  | .identity =>
    match identityImage img with
    | .error d => .error (.badIdentity, d)
    | .ok t => if s.meter.state = .off then .ok (s.applyIdentity t) else .error (.meterBusy, 0)

/-! ## The commit (R160) -/

/-- A commit of the open load, taken through its steps; `svc` is the level of SVC. -/
def State.commitLoad (c : Load) (check : Nat) (svc : Bool) (s : State) : State × List Byte :=
  let finish := fun (t : State) (result : ResultCode) (reason : Option Reason) (detail : Nat) =>
    let r := c.resultOf result reason detail
    (t.endLoad c.port r, r.bytes)
  let computed := (crc16 c.buffer).toNat
  if c.buffer.length < c.length then finish s .short none c.buffer.length
  else if computed ≠ check then finish s .badCheck none computed
  else if c.table = .identity ∧ svc = false then finish s .authority none 0
  else
    match s.applyImage c.table c.buffer with
    | .error (reason, detail) => finish s .rejected (some reason) detail
    | .ok t => finish t .ok none 0

end Sys2Proof.Machine
end

