-- ==== Sys2Proof/Machine/UplinkArbiter.lean ====
section
/-! DEFINITION. The Uplink Arbiter (chapter 8): status polls, the grant and the frame it builds, the modem's results,
timeouts, and owners offering again when a place appears. -/

namespace Sys2Proof.Machine

/-! ## Frame contents at the grant (R146) -/

/-- The receipt of a stored message as its mark stands (R94). -/
def State.receiptPayload (s : State) (id : Nat) : List Byte :=
  let kind := (((s.storedMessage id).bind Message.mark).map ReceiptMark.kind).getD .delivered
  u16 id ++ u8 kind.code ++ u8 kind.answerCode

/-- The status record (R143, R196), built with the STATUS frame itself in flight. -/
def State.statusPayload (s : State) : List Byte :=
  let q := s.arbiter.queue
  u8 s.link.state.code ++ u8 ((s.link.cycle.map CycleNow.number).getD 0) ++ u8 s.link.allowance ++ u16 s.link.crcErrors
    ++ ([1, 2, 3, 4, 5].map fun c => u8 (classCount q c)).flatten
    ++ flagByte [s.arbiter.slot, s.link.cycle.any CycleNow.quiet, s.fault.isSome]
    ++ u8 s.meter.state.code ++ u8 s.condition.code ++ u16 ((s.tariff.map Tariff.version).getD 0)
    ++ u8 ((s.arbiter.inFlight.map InFlight.kind).getD 0)
    ++ u8 ((s.arbiter.inFlight.bind InFlight.cls).getD 0)

/-- The payload of an entry's frame as its owner builds it (R195). -/
def State.entryPayload (s : State) : Entry → List Byte
  | .bid offer => u16 offer ++ optId s.knownZone
  | .bidCancel offer reason => u16 offer ++ u8 reason.code
  | .total trip => ((s.store.records.find? fun r => r.trip = trip).map TripRecord.bytes).getD []
  | .receipt id => s.receiptPayload id
  | .receiptRefusal => u16 ((s.messages.refusal.map RefusalOwed.id).getD 0) ++ u8 4 ++ u8 0
  | .driverMsg number (.code c) => u8 number ++ u8 c ++ text []
  | .driverMsg number (.text t) => u8 number ++ u8 0 ++ text t
  | .status => s.statusPayload
  | .tableResult r => r.bytes
  | .shift _ => (s.store.pendingReport.map ShiftReport.bytes).getD []
  | .passUp number data => u8 number ++ data

/-! ## Status polls (R143) -/

/-- A STATUS_POLL is absorbed, placed or dropped; it is not handed on while the cab number is 0 (R126). -/
def State.pollArrives (s : State) : State :=
  if s.identity.cab ≠ 0 ∧ hasPlace s.arbiter.queue .status then s.enqueue .status else s

/-! ## The grant (R145, R146) -/

/-- The modem is idle (R138). -/
def State.modemIdle (s : State) : Bool := s.arbiter.inFlight.isNone && s.arbiter.settle.isNone

/-- Routine grants are stopped in PARKED with air link behaviour STOP (R153). -/
def State.routineStopped (s : State) : Bool := s.condition = .parked && s.settings.stopAir

/-- What the arbiter grants now, if anything (R145). -/
def State.choice (s : State) : Option Granted :=
  if !s.mainRuns || !s.modemIdle || s.identity.cab = 0 then none
  else if s.arbiter.slot then some .slot
  else if s.link.state = .synced ∧ 0 < s.link.allowance ∧ s.routineStopped = false then
    (queueHead s.arbiter.queue).map .entry
  else none

def State.withInFlight (s : State) (f : Option InFlight) : State := s.withArbiter { s.arbiter with inFlight := f }

/-- The frame in flight takes its bytes. -/
def State.handOver (s : State) (frame : List Byte) : State :=
  s.withInFlight (s.arbiter.inFlight.map fun f => { f with frame })

/-- The owner is told of the grant (R147). -/
def State.tellGrant (e : Entry) (s : State) : State :=
  match e with
  | .bid _ => s.bidGranted
  | .bidCancel offer _ => s.setCancel offer .inFlight
  | .receipt id => s.receiptGranted (.message id)
  | .receiptRefusal => s.receiptGranted .refusal
  | _ => s

/-- A routine grant: charge, build, mark in flight, hand over (R146). -/
def State.grantEntry (e : Entry) (s : State) : State :=
  let s1 := s.charge.withInFlight (some
    { granted := .entry e, kind := e.code, cls := some e.cls, cycle := s.link.cycle.map CycleNow.number
      timer := Config.responseTicks, frame := [] })
  (s1.handOver (uplinkFrame s1.identity e.code (s1.entryPayload e))).tellGrant e

/-- A grant of the emergency slot (R109, R146). -/
def State.grantSlot (s : State) : State :=
  s.withArbiter { s.arbiter with
    slot := false
    inFlight := some
      { granted := .slot, kind := emergencyCode, cls := none, cycle := none, timer := Config.responseTicks
        frame := uplinkFrame s.identity emergencyCode s.reportPayload } }

/-- The arbiter's grant, when one can be made (R145). -/
def State.makeGrant (s : State) : State :=
  match s.choice with
  | some .slot => s.grantSlot
  | some (.entry e) => s.grantEntry e
  | _ => s

/-! ## Results (R147 to R151) -/

/-- The owner is told of TX_DONE (R147). -/
def State.tellDone (g : Granted) (s : State) : State :=
  match g with
  | .slot => s.reportDone
  | .detached => s
  | .entry e =>
    match e with
    | .bid offer => s.bidDone offer
    | .bidCancel offer _ => s.cancelDone offer
    | .total trip => s.totalSent trip
    | .receipt id => s.receiptDone id
    | .receiptRefusal => s.refusalDone
    | .driverMsg number _ => s.driverDone number
    | .shift number => s.shiftSent number
    | .passUp number _ =>
      s.withTerminal { s.terminal with upOutstanding := s.terminal.upOutstanding - 1, upDelivered := number }
    | .status | .tableResult _ => s

/-- The owner is told of TX_FAIL (R147); a SHIFT entry is rewritten for a newer report (R55, log 20). -/
def State.tellFail (g : Granted) (s : State) : State :=
  match g with
  | .slot => s.reportFailed
  | .detached => s
  | .entry e =>
    match e with
    | .bid offer => s.bidFailed offer
    | .bidCancel offer _ => s.setCancel offer .queued
    | .receipt id => s.receiptFailed id
    | .receiptRefusal => s.refusalFailed
    | .shift _ => s.shiftFailed
    | _ => s

/-- A granted entry leaves the queue on TX_DONE (R148). -/
def State.leaveQueue (g : Granted) (s : State) : State :=
  match g with
  | .entry e => s.dequeue e
  | _ => s

/-- TX_DONE ends the frame in flight (R148). -/
def State.frameDone (f : InFlight) (s : State) : State :=
  ((s.withInFlight none).leaveQueue f.granted).tellDone f.granted

/-- The frame in flight ends unsent (R149): give-back for a charged frame, the entry kept, the owner told. -/
def State.frameFailed (f : InFlight) (s : State) : State :=
  ((s.withInFlight none).giveBack f.cycle).tellFail f.granted

/-- A result with no frame in flight (R151). -/
def State.strayResult (detail : Nat) (s : State) : State :=
  if s.arbiter.settle.isSome then s else s.offerFault .modemProtocol .air 0 detail

/-- TX_DONE alone (R148, R151). -/
def State.takeDone (s : State) : State :=
  if !s.mainRuns then s
  else
    match s.arbiter.inFlight with
    | some f => s.frameDone f
    | none => s.strayResult 1

/-- TX_FAIL, alone or raised together with TX_DONE (R149, R151). -/
def State.takeFail (withDone : Bool) (s : State) : State :=
  if !s.mainRuns then s
  else
    match s.arbiter.inFlight with
    | some f => (if withDone then s.offerFault .modemProtocol .air f.kind 3 else s).frameFailed f
    | none => s.strayResult (if withDone then 3 else 2)

/-- The response timer has expired (R150). -/
def State.expireResponse (s : State) : State :=
  if !s.mainRuns then s
  else
    match s.arbiter.inFlight with
    | some f =>
      if f.timer = 0 then
        let s1 := s.offerFault .modemTimeout .air f.kind (f.cls.getD 0)
        (s1.withArbiter { s1.arbiter with settle := some Config.settleTicks }).frameFailed f
      else s
    | none => s

/-- The settle timer has reached 0 (R150). -/
def State.expireSettle (s : State) : State :=
  if s.mainRuns ∧ s.arbiter.settle = some 0 then s.withArbiter { s.arbiter with settle := none } else s

/-- One timer tick for the response and settle timers (R150). -/
def Arbiter.tick (a : Arbiter) : Arbiter :=
  { a with inFlight := a.inFlight.map fun f => { f with timer := f.timer - 1 }, settle := a.settle.map (· - 1) }

/-! ## A place appears (R141) -/

/-- The Fare Store offers what it holds back (R45, R55). -/
def State.storeOffers (s : State) : State := s.placeTotal.placeShift

/-- Every owner that holds an entry back offers again, in an order (R141, log 4). -/
def State.offerAgain (order : OfferOrder) (s : State) : State :=
  match order with
  | .offersStoreMessages => s.placeCancels.storeOffers.placeReceipts
  | .offersMessagesStore => s.placeCancels.placeReceipts.storeOffers
  | .storeOffersMessages => s.storeOffers.placeCancels.placeReceipts
  | .storeMessagesOffers => s.storeOffers.placeReceipts.placeCancels
  | .messagesOffersStore => s.placeReceipts.placeCancels.storeOffers
  | .messagesStoreOffers => s.placeReceipts.storeOffers.placeCancels

/-- After a reset the owners offer what they still owe; all find places or wait, in either order (R154). -/
def State.offerAfterReset (s : State) : State := (s.offerAgain .offersStoreMessages).fillSlot

end Sys2Proof.Machine
end

