-- ==== Sys2Proof/Machine/Ops.lean ====
section
/-! DEFINITION. The operations every command shares: how a command ends, how a local request is answered, and the steps
of the time base, the supply and the resets (00 R1, chapter 11). -/

namespace Sys2Proof.Machine

/-- Every command that takes `s` to `t` ends with the retained check updated (R191) and the output lines following the
state (log 21). -/
def done (s t : State) : Host.Outcome State Fault Refusal := .next (s.updateCheck t).drive

/-- A step of the main domain, which takes place only while that domain works (R185, R190). -/
def State.whenMain (f : State → State) (s : State) : State := if s.mainRuns then f s else s

/-- A step of the retained domain, which holds still after powering up (R191). -/
def State.whenRetained (f : State → State) (s : State) : State := if s.monitor.holding then s else f s

/-- The fields of an accepted frame reach their owner. The receive checks have passed them (R127). -/
def handed {α : Type} (fields : Except Nat α) (owner : α → State → State) (s : State) : State :=
  match fields with
  | .ok v => owner v s
  | .error _ => s

/-! ## Local requests (R171 to R173) -/

/-- What an owner answers: a reply code and the reply's fields (R173, R197). -/
structure Answer where
  code : ReplyCode
  payload : List Byte
  deriving DecidableEq, Repr

/-- OK with fields. -/
def Answer.ok (payload : List Byte) : Answer := { code := .ok, payload }

/-- A refusal, which carries no field unless its rule names one. -/
def Answer.refuse (code : ReplyCode) : Answer := { code, payload := [] }

/-- The reply replaces the contents of the reply buffer (R172). -/
def State.putReply (kind tag : Byte) (a : Answer) (s : State) : State :=
  s.withTerminal { s.terminal with reply := some { kind, tag, code := a.code, payload := a.payload } }

/-- A request goes to its owner, and the owner's reply to the buffer. A payload that does not hold the fields of its
kind is answered REFUSED_RANGE (R172). No request is taken while the main domain does not work (R177, R190). -/
def serve {α : Type} (kind tag : Byte) (args : Option α) (owner : α → State → State × Answer) (s : State) :
    Host.Outcome State Fault Refusal :=
  if s.mainRuns then
    match args with
    | none => done s (s.putReply kind tag (.refuse .refusedRange))
    | some a =>
      let r := owner a s
      done s (r.1.putReply kind tag r.2)
  else done s s

/-- A refused request changes nothing in its owner (R173). -/
def State.refused (code : ReplyCode) (s : State) : State × Answer := (s, .refuse code)

/-- OK with the state the request leads to. -/
def State.answered (payload : List Byte) (s : State) : State × Answer := (s, .ok payload)

/-- A request that changes no state is answered from the state. -/
def reading {α : Type} (answer : α → State → Answer) (a : α) (s : State) : State × Answer := (s, answer a s)

/-! ## Timer tick (R1, R20, R101, R186, R188, R189) -/

/-- SUPPLY_OK at a tick: sampled, and confirmed while the supply is DOWN (R188, R189). -/
def Monitor.supplyTick (ok : Bool) (m : Monitor) : Monitor :=
  { m with
    supplyOk := ok
    confirm := if m.supplyUp then m.confirm else if ok then min Config.confirmTicks (m.confirm + 1) else 0 }

/-- SEAT and IGN at a tick: the levels are kept, and the ignition stable count follows (R186). -/
def Monitor.lineTick (l : TickLines) (m : Monitor) : Monitor :=
  { m with
    seatLevel := l.seat
    ignLevel := l.ign
    ignCount := if l.ign = m.ignition then 0 else min Config.debounceTicks (m.ignCount + 1) }

/-- The seat check at a tick (R20). `idle`: the meter is OFF or VACANT and the condition DRIVING. -/
def Seat.tick (seat idle : Bool) (threshold : Nat) (x : Seat) : Seat :=
  let count := if seat && idle then min Config.seatMax (x.count + 1) else 0
  let reported := x.reported && seat
  { count, reported, due := decide (threshold ≤ count) && !reported }

/-- The meter is OFF or VACANT, in DRIVING (R20). -/
def State.seatIdle (s : State) : Bool :=
  (s.meter.state = .off || s.meter.state = .vacant) && s.condition = .driving

/-- A timer tick. While the retained domain holds still only SUPPLY_OK is sampled (R191). The seat check sees the
condition as it stood before the tick: a debounce that ends at this tick, or a supply found low at it, changes the
condition by a command of its own afterwards (log 32, DESIGN CHOICE). -/
def State.tick (l : TickLines) (s : State) : State :=
  if s.monitor.holding then s.withMonitor (s.monitor.supplyTick l.supplyOk)
  else
    let s1 := s.withSeat (s.seat.tick l.seat s.seatIdle (10 * s.settings.seatTime))
    let s2 := s1.withRoof s1.roof.tick
    let s3 := s2.sampleSwitch (l.emerg0 || l.emerg1)
    let s4 := if s3.mainRuns then s3.withArbiter s3.arbiter.tick else s3
    s4.withMonitor ((s4.monitor.lineTick l).supplyTick l.supplyOk)

/-! ## Meter second (R36, R47, R67, R70, R71, R103, R108, R133, R159) -/

/-- The ack timer counts in SENT (R47). -/
def Sender.second : Sender → Sender
  | .sent n t => .sent n (t - 1)
  | x => x

/-- A meter second: the pulse count is closed, the clock advances, fare progress is applied, and the second-based
timers count down to 0, where their expiries wait (log 2, 15). -/
def State.second (s : State) : State :=
  if s.monitor.holding then s
  else
    let d := s.admitted
    let s1 := s.closePulses
    let s2 := s1.withTime { s1.time with clock := s1.time.clock.next }
    let s3 := s2.fareSecond d
    let s4 := s3.withEmergency s3.emergency.second
    let s5 := s4.withSender s4.store.sender.second
    if s5.mainRuns then
      let s6 := s5.offersSecond
      (s6.withLink s6.link.second).withLoader s6.loader.second
    else s5

/-! ## Resets (R190, R191) -/

/-- Every main-domain block takes its main-reset values (R82, R98, R137, R154, R155, R162, R164, R184). -/
def State.mainValues (s : State) : State :=
  (((((((((s.withOffers (.fresh (s.runAtReset s.settings.stopOffers))).withMessages .fresh).withLink
    (.fresh (s.runAtReset s.settings.stopAir))).withArbiter .fresh).withLoader
    { context := none, lastTerminal := none }).withAddresses []).withZones []).withEvents .fresh).withFault
    none).withTerminal .fresh

/-- The retained domain takes its backup-loss values, and the check is formed afresh: from here on it fits the state
(R191), and the end of the command carries it over to the new values. -/
def State.backupLoss (s : State) : State :=
  (((((((((((s.withCheck s.givenCheck).withTime { clock := { day := 0, second := 0 }, known := false }).withPulses
    0).withMeter .fresh).withSeat { count := 0, reported := false, due := false }).withRoof .steady).withTariff
    none).withStore .fresh).withEmergency .fresh).withSettings .default).withIdentity
    { cab := 0, fleet := 0, k := 0 }).withMonitor
    { s.monitor with ignition := false, ignCount := 0, confirm := 0, seatLevel := false, ignLevel := false
                     supplyOk := true }

/-- The exit from SHED: the gate of a HIRED trip opens unless held (R14), and a report falls due in ACTIVE and ACKED
(R112). -/
def State.exitShed (s : State) : State :=
  let s1 :=
    if s.meter.state = .hired ∧ s.meter.hold = false then s.mapTrip Trip.openGate else s
  if s1.emergency.state.raised then s1.withEmergency { s1.emergency with owed := true } else s1

/-- An event set at a main reset, after the flags have been cleared (R184). -/
def State.setFlag (e : EventKind) (s : State) : State := s.withEvents (s.events.set e)

/-- A main reset (R190): the retained check is tested, a failed one makes it a backup-loss reset (R191), every
main-domain block takes its values, and the reset's own events are set. `endsShed`: it follows the supply's return
(R189). The owners offer again unless RESET still holds the main domain. -/
def State.mainReset (endsShed : Bool) (s : State) : State :=
  let lost := s.checkFails
  let s1 := if lost then s.backupLoss else s
  let s2 := s1.withMonitor { s1.monitor with supplyUp := true, confirm := 0, holding := false, abortHeld := false }
  let s3 := if endsShed then s2.exitShed else s2
  let s4 := s3.mainValues.idleSender
  let s5 := if lost then (s4.withFault (some (s4.captured .retainedLost .none 0 0))).setFlag .fault else s4
  let s6 := if s5.settings.visible ∧ s5.emergency.state ≠ .clear then s5.setFlag .emergency else s5
  let s7 := if endsShed then s6.setFlag .condition else s6
  if s7.mainRuns then s7.offerAfterReset else s7

/-- RESET rises: the main domain begins to work from its main-reset values, the run states as the condition now has
them (R190). -/
def State.releaseReset (s : State) : State :=
  ((s.withOffers { s.offers with run := s.runAtReset s.settings.stopOffers }).withLink
    { s.link with run := s.runAtReset s.settings.stopAir }).offerAfterReset

/-- The RESET pin takes a level (R190). With the supply DOWN it has no effect. -/
def State.resetPin (level : Bool) (s : State) : State :=
  let s1 := s.withMonitor { s.monitor with resetLow := !level }
  if !s.monitor.supplyUp || s.monitor.resetLow == !level then s1
  else if level then s1.releaseReset
  else s1.mainReset false

/-- A soft reset (R175): the main-domain blocks take their soft-reset values and the sender is idle; LINK_STATE is
raised when the link leaves SYNCED or LOST (R137); the owners offer again what they still owe (R154). -/
def State.softReset (s : State) : State :=
  let s1 :=
    (((((s.withOffers (s.offers.softReset (s.runAtReset s.settings.stopOffers))).withMessages
      s.messages.softReset).withLink (.fresh (s.runAtReset s.settings.stopAir))).withArbiter .fresh).withLoader
      { s.loader with context := none }).withTerminal { s.terminal with pass := [], upOutstanding := 0 }
  let s2 := s1.idleSender
  (if s.link.state = .search then s2 else s2.raise .linkState).offerAfterReset

/-! ## Supply (R186, R188, R189, R191) -/

/-- The condition has become PARKED or DRIVING with the supply UP: CONDITION is raised, and the blocks that stop in
PARKED are told (R186, R187). -/
def State.conditionChanged (s : State) : State :=
  if s.mainRuns then
    let s1 := s.raise .condition
    if s1.condition = .parked then
      let s2 := if s1.settings.stopAir then s1.stopAir else s1
      if s2.settings.stopOffers then s2.stopOffers else s2
    else s1.runAir.runOffers
  else s

/-- The end of the ignition debounce (R186). -/
def State.endDebounce (s : State) : State :=
  if s.monitor.holding = false ∧ s.monitor.ignCount = Config.debounceTicks then
    (s.withMonitor { s.monitor with ignition := s.monitor.ignLevel, ignCount := 0 }).conditionChanged
  else s

/-- TX_ABORT at the entry to SHED: raised for a frame in flight (R153, R188), and held as it stands while the settle
timer of an earlier abort runs (log 12). -/
def State.aborting (s : State) : Bool := s.arbiter.inFlight.isSome || s.arbiter.settle.isSome

/-- The entry to SHED (R188): the sender is idle, the gate of a HIRED trip closes, the supply is DOWN, the Condition
Monitor holds TX_ABORT, and all main-domain state is lost (log 11). -/
def State.enterShed (s : State) : State :=
  if s.monitor.supplyUp && !s.monitor.supplyOk then
    let s1 := if s.meter.state = .hired then s.idleSender.mapTrip Trip.closeGate else s.idleSender
    (s1.withMonitor { s1.monitor with supplyUp := false, confirm := 0, abortHeld := s.aborting }).mainValues
  else s

/-- The supply's return: the supply is UP, and the main reset that ends SHED follows (R189). -/
def State.returnSupply (s : State) : State :=
  if !s.monitor.supplyUp && s.monitor.confirm == Config.confirmTicks then s.mainReset true else s

/-- The retained domain powers up with its check marked failed and holds still with the supply DOWN (R191, log 11). No
frame is in flight to abort (log 12). -/
def State.powerUp (s : State) : State :=
  (s.withMonitor { s.monitor with supplyUp := false, confirm := 0, holding := true, abortHeld := false }).mainValues

end Sys2Proof.Machine
end

