-- ==== Sys2Proof/Machine/ArbiterCommands.lean ====
section
/-! DEFINITION. The Uplink Arbiter's own steps and the modem's results (chapter 8). -/

namespace Sys2Proof.Machine

def execGrant (s : State) : Host.Outcome State Fault Refusal := done s s.makeGrant

def execTxDone (s : State) : Host.Outcome State Fault Refusal := done s s.takeDone

def execTxFail (withDone : Bool) (s : State) : Host.Outcome State Fault Refusal := done s (s.takeFail withDone)

def execResponseTimerExpiry (s : State) : Host.Outcome State Fault Refusal := done s s.expireResponse

def execSettleTimerExpiry (s : State) : Host.Outcome State Fault Refusal := done s s.expireSettle

def execPlaceAppears (order : OfferOrder) (s : State) : Host.Outcome State Fault Refusal :=
  done s (s.whenMain (State.offerAgain order))

end Sys2Proof.Machine
end

