-- ==== Sys2Proof/Machine/ConditionCommands.lean ====
section
/-! DEFINITION. The time base, the seat check, the roof sign, the condition, the supply and the resets (00 R1,
R20, R21, R33, chapter 11). -/

namespace Sys2Proof.Machine

/-- A timer tick (R1). -/
def execTimerTick (lines : TickLines) (s : State) : Host.Outcome State Fault Refusal := done s (s.tick lines)

/-- A meter second (R36). -/
def execMeterSecond (s : State) : Host.Outcome State Fault Refusal := done s s.second

/-- A DIST pulse enters the raw count (R33). -/
def State.countPulse (s : State) : State := s.withPulses (satAdd Config.countMax s.pulses 1)

def execDistPulse (s : State) : Host.Outcome State Fault Refusal := done s (s.whenRetained State.countPulse)

/-- The seat check reports (R20). -/
def State.reportSeat (s : State) : State :=
  if s.seat.due then (s.withSeat { s.seat with reported := true, due := false }).raise .seatCheck else s

def execSeatCheck (s : State) : Host.Outcome State Fault Refusal := done s (s.whenRetained State.reportSeat)

def execIgnDebounceEnd (s : State) : Host.Outcome State Fault Refusal := done s s.endDebounce

/-- ROOF toggles while the pattern shows (R21). -/
def State.toggleRoof (s : State) : State := s.withRoof s.roof.toggle

def execRoofBlinkToggle (s : State) : Host.Outcome State Fault Refusal := done s (s.whenRetained State.toggleRoof)

def execShedEntry (s : State) : Host.Outcome State Fault Refusal := done s s.enterShed

def execSupplyReturn (s : State) : Host.Outcome State Fault Refusal := done s s.returnSupply

def execPowerUp (s : State) : Host.Outcome State Fault Refusal := done s s.powerUp

def execMainReset (level : Bool) (s : State) : Host.Outcome State Fault Refusal := done s (s.resetPin level)

end Sys2Proof.Machine
end

