-- ==== Sys2Proof/Machine/EmergencyCommands.lean ====
section
/-! DEFINITION. The Emergency Unit's commands (chapter 6). -/

namespace Sys2Proof.Machine

/-- EMERGENCY_ACK (R105). -/
def execEmergencyAck (hdr : AirHeader) (payload : List Byte) (s : State) : Host.Outcome State Fault Refusal :=
  done s (s.receive .emergencyAck hdr payload State.acknowledgeEmergency)

/-- EMERGENCY_CLEAR (R106). -/
def execEmergencyClear (hdr : AirHeader) (payload : List Byte) (s : State) : Host.Outcome State Fault Refusal :=
  done s (s.receive .emergencyClear hdr payload State.clearEmergency)

/-- The press timer has reached 0 in PRESSING (R103). -/
def State.takeActivation (s : State) : State :=
  if s.emergency.state = .pressing ∧ s.emergency.press = some 0 then s.activate else s

/-- The press timer has reached 0 in ACKED (R104). -/
def State.takeEscalation (s : State) : State :=
  if s.emergency.state = .acked ∧ s.emergency.press = some 0 then s.escalate else s

def execActivation (s : State) : Host.Outcome State Fault Refusal := done s (s.whenRetained State.takeActivation)

def execEscalation (s : State) : Host.Outcome State Fault Refusal := done s (s.whenRetained State.takeEscalation)

def execIntervalTimerExpiry (s : State) : Host.Outcome State Fault Refusal :=
  done s (s.whenRetained State.expireInterval)

end Sys2Proof.Machine
end

