-- ==== Sys2Proof/Machine/LinkCommands.lean ====
section
/-! DEFINITION. The Air Link Unit's commands (chapter 7), and the frames it routes to the arbiter and the Terminal
Port. -/

namespace Sys2Proof.Machine

def execStartMarker (s : State) : Host.Outcome State Fault Refusal := done s s.startMarker

def execAirFrameRejected (bytes : List Byte) (s : State) : Host.Outcome State Fault Refusal :=
  done s (s.rejectFrame bytes)

def execCycle (hdr : AirHeader) (payload : List Byte) (s : State) : Host.Outcome State Fault Refusal :=
  done s (s.receive .cycle hdr payload (handed (parseCycle payload) State.takeCycle))

def execStatusPoll (hdr : AirHeader) (payload : List Byte) (s : State) : Host.Outcome State Fault Refusal :=
  done s (s.receive .statusPoll hdr payload State.pollArrives)

/-- A PASS frame joins the pass-through queue or is discarded (R180). -/
def State.passArrives (mode : Byte) (data : List Byte) (s : State) : State :=
  if s.terminal.pass.length < Config.passSize then
    (s.withTerminal { s.terminal with pass := s.terminal.pass ++ [{ mode, data }] }).raise .passReady
  else
    (s.withTerminal { s.terminal with
      overruns := satAdd Config.smallMax s.terminal.overruns 1 }).raise .passOverrun

def execPass (hdr : AirHeader) (payload : List Byte) (s : State) : Host.Outcome State Fault Refusal :=
  done s (s.receive .pass hdr payload (handed (parseData payload) (State.passArrives hdr.mode)))

def execLinkLossTimerExpiry (s : State) : Host.Outcome State Fault Refusal := done s (s.whenMain State.loseLink)

end Sys2Proof.Machine
end

