-- ==== Sys2Proof/Machine/LoaderCommands.lean ====
section
/-! DEFINITION. The Table Loader's commands on both ports (chapter 9). -/

namespace Sys2Proof.Machine

/-! ## The terminal port -/

/-- A local TABLE_OPEN (R156, R157). A replacement's reply carries the replaced load's result (R161). -/
def State.localOpen (svc : Bool) (f : OpenFields) (s : State) : State × Answer :=
  if !permitted .terminal svc f.table then s.refused .refusedAuthority
  else
    match s.loader.context with
    | none => (s.openLoad .terminal f).answered []
    | some c =>
      if c.port = .terminal then
        let r := s.reopen c f
        r.1.answered ((r.2.map LoadResult.bytes).getD [])
      else s.refused .refusedBusy

/-- A local segment, commit or abort that belongs to no open load of the terminal (R158). -/
def State.strayLoad (s : State) : State × Answer :=
  if s.loader.context.any (fun c => c.port = .air) then s.refused .refusedBusy else s.refused .refusedState

/-- OK with what the step carries. -/
def carried (r : State × List Byte) : State × Answer := (r.1, .ok r.2)

/-- A local TABLE_SEGMENT (R158). -/
def State.localSegment (f : SegmentFields) (s : State) : State × Answer :=
  match s.belongs .terminal f.table f.generation with
  | some c => carried (s.takeSegment c f)
  | none => s.strayLoad

/-- A local TABLE_COMMIT (R160). -/
def State.localCommit (svc : Bool) (f : CommitFields) (s : State) : State × Answer :=
  match s.belongs .terminal f.table f.generation with
  | some c => carried (s.commitLoad c f.check svc)
  | none => s.strayLoad

/-- A local TABLE_ABORT (R159). -/
def State.localAbort (f : AbortFields) (s : State) : State × Answer :=
  match s.belongs .terminal f.table f.generation with
  | some c => carried (s.abortLoad c)
  | none => s.strayLoad

/-- The fields of a local table request, none when they fail their layout or a range (R157, R172). -/
def localFields {α : Type} (r : Except Nat α) : Option α :=
  match r with
  | .ok v => some v
  | .error _ => none

def execLocalTableOpen (svc : Bool) (tag : Byte) (payload : List Byte) (s : State) :
    Host.Outcome State Fault Refusal :=
  serve 0x9B#8 tag (localFields (parseOpen payload)) (State.localOpen svc) s

def execLocalTableSegment (tag : Byte) (payload : List Byte) (s : State) : Host.Outcome State Fault Refusal :=
  serve 0x9C#8 tag (localFields (parseSegment payload)) State.localSegment s

def execLocalTableCommit (svc : Bool) (tag : Byte) (payload : List Byte) (s : State) :
    Host.Outcome State Fault Refusal :=
  serve 0x9D#8 tag (localFields (parseCommit payload)) (State.localCommit svc) s

def execLocalTableAbort (tag : Byte) (payload : List Byte) (s : State) : Host.Outcome State Fault Refusal :=
  serve 0x9E#8 tag (localFields (parseAbort payload)) State.localAbort s

/-! ## The air port -/

/-- An air TABLE_SEGMENT; one that belongs to no load is ignored (R158). -/
def State.airSegment (f : SegmentFields) (s : State) : State :=
  match s.belongs .air f.table f.generation with
  | some c => (s.takeSegment c f).1
  | none => s

/-- An air TABLE_COMMIT (R160). No identity load is open from the air port (R156), so SVC is not read. -/
def State.airCommit (f : CommitFields) (s : State) : State :=
  match s.belongs .air f.table f.generation with
  | some c => (s.commitLoad c f.check false).1
  | none => s

/-- An air TABLE_ABORT (R159). -/
def State.airAbort (f : AbortFields) (s : State) : State :=
  match s.belongs .air f.table f.generation with
  | some c => (s.abortLoad c).1
  | none => s

def execAirTableOpen (hdr : AirHeader) (payload : List Byte) (s : State) : Host.Outcome State Fault Refusal :=
  done s (s.receive .tableOpen hdr payload (handed (parseOpen payload) State.airOpen))

def execAirTableSegment (hdr : AirHeader) (payload : List Byte) (s : State) : Host.Outcome State Fault Refusal :=
  done s (s.receive .tableSegment hdr payload (handed (parseSegment payload) State.airSegment))

def execAirTableCommit (hdr : AirHeader) (payload : List Byte) (s : State) : Host.Outcome State Fault Refusal :=
  done s (s.receive .tableCommit hdr payload (handed (parseCommit payload) State.airCommit))

def execAirTableAbort (hdr : AirHeader) (payload : List Byte) (s : State) : Host.Outcome State Fault Refusal :=
  done s (s.receive .tableAbort hdr payload (handed (parseAbort payload) State.airAbort))

/-! ## The inactivity timer -/

def execInactivityTimerExpiry (s : State) : Host.Outcome State Fault Refusal := done s (s.whenMain State.expireLoad)

end Sys2Proof.Machine
end

