-- ==== Sys2Proof/Machine/Replies.lean ====
section
/-! DEFINITION. The fields that the reading requests report, in the order of their rules (R18, R57, R80, R97, R174,
R179, R180, R183), laid out by R197. A field that a rule ties to a state named earlier in the same reply is sent in
that state alone (log 17). -/

namespace Sys2Proof.Machine

/-! ## READ_METER (R18) -/

/-- The causes of a closed gate, in the order hold, SHED, TOTAL (1.5). -/
def State.gateCauses (s : State) : List Byte :=
  flagByte [s.meter.hold, s.condition = .shed, s.meter.state = .total]

/-- A copied extra as READ_METER reports it. -/
def TripExtra.bytes (e : TripExtra) : List Byte := Machine.amount e.amount ++ u8 e.max ++ u8 e.used

/-- The trip fields of HIRED and TOTAL. -/
def State.tripFields (s : State) (t : Trip) : List Byte :=
  u16 t.number ++ u8 t.band ++ u16 t.version
    ++ amount t.fare ++ amount t.extrasTotal ++ amount t.total
    ++ u32 t.increments
    ++ flag t.gateOpen ++ (if t.gateOpen then [] else s.gateCauses)
    ++ flag s.meter.hold
    ++ u32 (metres t.pulses s.identity.k) ++ u32 (metres t.gatedPulses s.identity.k)
    ++ t.startClock.bytes ++ (if s.meter.state = .total then (t.endClock.map Clock.bytes).getD [] else [])
    ++ (t.flags.shown s.settings.visible).bytes
    ++ counted (t.extras.map TripExtra.bytes)

/-- The READ_METER reply. -/
def State.meterFields (s : State) : List Byte :=
  u8 s.meter.state.code
    ++ (if s.meter.state = .assigned then optId s.meter.jobId else [])
    ++ (if s.meter.onTrip then (s.meter.trip.map s.tripFields).getD [] else [])
    ++ u16 s.meter.lastTrip ++ u16 s.store.totals.shift

/-! ## READ_STORE (R57) -/

/-- Position 0: a live shift report and the store's figures. Whether a shift report is pending and its shift number are
one presence byte and, when one is pending, the number; the number does not use R192's 0 for absent (log 17). -/
def State.storeFields (s : State) : List Byte :=
  s.shiftReport.bytes ++ u8 s.store.records.length ++ u8 s.store.sender.code
    ++ optId s.store.sender.served
    ++ optional (s.store.pendingReport.map fun r => u16 r.shift)

/-- A stored record as the terminal is shown it (R113, R196). -/
def TripRecord.shown (visible : Bool) (r : TripRecord) : List Byte :=
  { r with flags := r.flags.shown visible }.bytes

/-! ## READ_OFFERS (R80) -/

/-- An entry in the summary. A fare estimate has a presence byte and, when absent, no bytes: a reply has no flags byte
for R192's presence bit (log 17). -/
def OfferEntry.brief (e : OfferEntry) : List Byte :=
  u16 e.id ++ u8 e.addressing.code ++ optId e.zone ++ u8 e.rank ++ u8 e.state.code ++ u8 e.lifetime
    ++ optional (e.waiting.map u8) ++ optional (e.estimate.map amount) ++ flag e.account

/-- The summary. -/
def State.offerSummary (s : State) : List Byte :=
  optId s.offers.zone ++ flag s.knownZone.isSome ++ u8 s.offers.run.code ++ u8 s.offers.cancels.length
    ++ counted (s.offers.entries.map OfferEntry.brief)

/-- One entry with all its fields, in the order of R59, and in BID the stage of its bid. The fare estimate is sent as in
the summary (log 17). -/
def State.offerFields (s : State) (e : OfferEntry) : List Byte :=
  u16 e.id ++ u8 e.addressing.code ++ optId e.zone ++ u8 e.rank ++ u8 e.lifetime ++ u8 e.awardWait
    ++ optional (e.waiting.map u8) ++ text e.text ++ optional (e.estimate.map amount) ++ flag e.account
    ++ u16 e.arrival ++ u8 e.state.code
    ++ (if e.state = .bid then ((s.bidStage e.id).map fun b => u8 b.code).getD [] else [])

/-! ## READ_MESSAGE (R97) -/

/-- A receipt kind with its answer code, 0 unless ANSWER (R195). -/
def ReceiptKind.bytes (k : ReceiptKind) : List Byte := u8 k.code ++ u8 k.answerCode

/-- Priority: ROUTINE 0, URGENT 1. -/
def Message.priority (m : Message) : List Byte := u8 (if m.urgent then 1 else 0)

/-- A message in the summary. The mark's kind and stage, present together, have one presence byte (log 17). -/
def Message.brief (m : Message) : List Byte :=
  u16 m.id ++ m.priority ++ u8 m.state.code ++ flag m.wanted ++ u8 m.text.length ++ u8 m.options.length
    ++ optional (m.answer.map u8) ++ optional (m.mark.map fun k => k.kind.bytes ++ u8 k.stage.code)

/-- The summary (R97). The refusal-owed record's id and stage, present together, have one presence byte, and the id does
not use R192's 0 for absent (log 17). -/
def State.messageSummary (s : State) : List Byte :=
  u8 s.messages.list.length ++ u16 (poolUsed s.messages.list) ++ u8 s.messages.removals
    ++ u8 s.messages.outstanding ++ u8 s.messages.delivered
    ++ optional (s.messages.refusal.map fun r => u16 r.id ++ u8 r.stage.code)
    ++ counted (s.messages.list.map Message.brief)

/-- One message with all its fields, in the order of R84. The receipt mark's fields have one presence byte (log 17). -/
def Message.fields (m : Message) : List Byte :=
  u16 m.id ++ m.priority ++ flag m.wanted ++ counted (m.options.map u8) ++ Machine.text m.text ++ u8 m.state.code
    ++ optional (m.answer.map u8)
    ++ optional (m.mark.map fun k => k.kind.bytes ++ u8 k.stage.code ++ optional (k.next.map ReceiptKind.bytes))
    ++ optional (m.lastSent.map ReceiptKind.bytes)

/-! ## READ_STATUS (R174) -/

/-- The Air Link Unit's figures (R136, R174). The cycle number and the quiet mark, present together, have one presence
byte (log 17). -/
def State.linkFigures (s : State) : List Byte :=
  u8 s.link.state.code ++ optional (s.link.cycle.map fun c => u8 c.number ++ flag c.quiet)
    ++ u8 s.link.allowance ++ u8 s.link.run.code ++ u16 s.link.crcErrors

/-- The kind in flight that the terminal is shown, 0 for none: a report is hidden under SILENT (R113). -/
def State.shownKind (s : State) : Nat :=
  match s.arbiter.inFlight with
  | none => 0
  | some f => if f.kind = emergencyCode ∧ s.settings.visible = false then 0 else f.kind

/-- The Uplink Arbiter's figures (8.10). -/
def State.arbiterFigures (s : State) : List Byte :=
  ([1, 2, 3, 4, 5].map fun c => u8 (classCount s.arbiter.queue c)).flatten
    ++ flag (s.arbiter.slot && s.settings.visible) ++ u8 s.shownKind

/-- An open load as READ_STATUS reports it. -/
def Load.bytes (c : Load) : List Byte :=
  u8 c.port.code ++ u8 c.table.code ++ u16 c.generation ++ u16 c.length ++ u16 c.buffer.length

/-- The twelve settings in position order (R166). -/
def Settings.bytes (x : Settings) : List Byte :=
  u8 x.reach ++ u8 x.awardWait ++ u8 x.linkLoss ++ u8 x.ackWait ++ u8 x.hold ++ u8 x.activeInterval
    ++ u8 x.ackedInterval ++ flag x.visible ++ flag x.roofPattern ++ u8 x.seatTime ++ flag x.stopAir ++ flag x.stopOffers

/-- The Table Loader's figures (R170). The fields of the last terminal result have one presence byte (log 17). -/
def State.loaderFigures (s : State) : List Byte :=
  (match s.loader.context with
   | none => u8 0
   | some c => u8 1 ++ c.bytes)
    ++ optional (s.loader.lastTerminal.map LoadResult.bytes)
    ++ u16 ((s.tariff.map Tariff.version).getD 0)
    ++ u16 s.identity.cab ++ u8 s.identity.fleet ++ u16 s.identity.k
    ++ s.settings.bytes
    ++ u8 s.addresses.length ++ u8 s.zones.length

/-- An activation clock with its time-known flag (R99). -/
def Activation.bytes (a : Activation) : List Byte := a.clock.bytes ++ flag a.known

/-- The emergency figures under the visibility setting (R113, log 19). -/
def State.emergencyFigures (s : State) : List Byte :=
  if s.settings.visible then
    u8 s.emergency.state.code ++ optional (s.emergency.activation.map Activation.bytes)
      ++ u16 s.emergency.elapsed ++ u8 s.emergency.reports ++ flag s.emergency.owed
  else u8 0 ++ optional none ++ u16 0 ++ u8 0 ++ flag false

/-- The PASS_UP figures (R171). -/
def State.passUpFigures (s : State) : List Byte :=
  u8 s.terminal.upCounter ++ u8 s.terminal.upOutstanding ++ u8 s.terminal.upDelivered ++ u8 s.terminal.upDisplaced

/-- The READ_STATUS reply. -/
def State.statusFields (s : State) : List Byte :=
  s.linkFigures ++ s.arbiterFigures ++ s.loaderFigures ++ s.emergencyFigures
    ++ u8 s.meter.state.code ++ u8 s.condition.code
    ++ u8 s.terminal.pass.length ++ u8 s.terminal.overruns ++ s.passUpFigures
    ++ flag s.fault.isSome

/-! ## READ_NOTICES, READ_FAULT (R179, R183) -/

/-- The places of the eighteen kinds. -/
def kinds : List Nat := List.range 18

/-- The number of set flags. -/
def Events.setCount (ev : Events) : Nat := (kinds.filter fun i => ev.flags.getLsbD i).length

/-- The READ_NOTICES reply. The levels of ATTN and ALERT are one byte each, 1 for active: R197 names no coding for a level
(log 18). -/
def State.noticeFields (s : State) : List Byte :=
  (kinds.map fun i => flag (s.events.flags.getLsbD i)).flatten
    ++ (kinds.map fun i => flagByte [s.events.enables.getLsbD i, s.events.lines.getLsbD i]).flatten
    ++ flag s.events.attn ++ flag s.events.alert ++ u8 s.events.setCount
    ++ flag s.fault.isSome ++ u8 s.terminal.pass.length ++ u8 s.meter.state.code

/-- The READ_FAULT reply. -/
def State.faultFields (s : State) : List Byte :=
  match s.fault with
  | none => u8 0
  | some r =>
    u8 1 ++ u8 r.kind.code ++ u8 r.port.code ++ u8 r.kindByte ++ u16 r.detail ++ r.clock.bytes ++ flag r.known
      ++ u8 r.further ++ flag r.higher

end Sys2Proof.Machine
end

