-- ==== Sys2Proof/Machine/MessageCommands.lean ====
section
/-! DEFINITION. The Message Store's commands (chapter 5). -/

namespace Sys2Proof.Machine

/-- READ_MESSAGE (R97). -/
def State.readMessage (id : Nat) (s : State) : Answer :=
  if id = 0 then .ok s.messageSummary
  else
    match s.storedMessage id with
    | some m => .ok m.fields
    | none => .refuse .notFound

/-- An UNREAD message becomes READ, with a READ receipt owed when one is wanted (R90). -/
def State.markRead (m : Message) (s : State) : State :=
  let s1 := s.mapMessage m.id fun x => { x with state := .read }
  if m.wanted then s1.oweReceipt m.id .read else s1

/-- MSG_READ (R90). -/
def State.readByDriver (id : Nat) (s : State) : State × Answer :=
  match s.storedMessage id with
  | none => s.refused .notFound
  | some m => if m.state = .unread then (s.markRead m).answered [] else s.answered []

/-- A message becomes ANSWERED, with an ANSWER receipt owed (R91). -/
def State.markAnswered (id code : Nat) (s : State) : State :=
  (s.mapMessage id fun x => { x with state := .answered, answer := some code }).oweReceipt id (.answer code)

/-- MSG_ANSWER (R91). -/
def State.answerByDriver (a : Nat × Nat) (s : State) : State × Answer :=
  match s.storedMessage a.1 with
  | none => s.refused .notFound
  | some m =>
    if m.state = .answered then s.refused .refusedState
    else if m.options.contains a.2 then (s.markAnswered a.1 a.2).answered []
    else s.refused .refusedRange

/-- DRIVER_MSG (R96). -/
def State.sendDriver (body : DriverText) (s : State) : State × Answer :=
  if sharedFree s.arbiter.queue then
    let number := seqNext Config.smallMax s.messages.counter
    ((s.enqueue (.driverMsg number body)).withMessages { s.messages with
      counter := number, outstanding := s.messages.outstanding + 1 }).answered (u8 number)
  else s.refused .refusedFull

def execReadMessage (tag : Byte) (payload : List Byte) (s : State) : Host.Outcome State Fault Refusal :=
  serve 0x93#8 tag (argWord payload) (reading fun id t => t.readMessage id) s

def execMsgRead (tag : Byte) (payload : List Byte) (s : State) : Host.Outcome State Fault Refusal :=
  serve 0x94#8 tag (argWord payload) State.readByDriver s

def execMsgAnswer (tag : Byte) (payload : List Byte) (s : State) : Host.Outcome State Fault Refusal :=
  serve 0x95#8 tag (argAnswer payload) State.answerByDriver s

def execDriverMsg (tag : Byte) (payload : List Byte) (s : State) : Host.Outcome State Fault Refusal :=
  serve 0x96#8 tag (argDriver payload) State.sendDriver s

def execMessage (hdr : AirHeader) (payload : List Byte) (s : State) : Host.Outcome State Fault Refusal :=
  done s (s.receive .message hdr payload (handed (parseMessage payload) State.messageArrives))

def execMessageRecall (hdr : AirHeader) (payload : List Byte) (s : State) : Host.Outcome State Fault Refusal :=
  done s (s.receive .messageRecall hdr payload (handed (parseId payload) State.recallMessage))

end Sys2Proof.Machine
end

