-- ==== Sys2Proof/Machine/MeterCommands.lean ====
section
/-! DEFINITION. The Meter Unit's requests (chapter 1): the owner's part of each, and the command. -/

namespace Sys2Proof.Machine

/-! ## The meter state comes first (R3) -/

/-- A meter request. One that the meter state does not permit is answered REFUSED_STATE whatever its payload holds: R3
puts that check first, and R172 lets the owner's rule give the code. `permitted` is R3's table. In a permitted state the
payload comes next (R172), and the owner, which finds the meter in a permitted state, last (log 23). -/
def serveMeter {α : Type} (kind tag : Byte) (permitted : List MeterState) (args : Option α)
    (owner : α → State → State × Answer) (s : State) : Host.Outcome State Fault Refusal :=
  if s.meter.state ∈ permitted then serve kind tag args owner s
  else serve kind tag (some ()) (fun _ t => t.refused .refusedState) s

/-! ## Shifts (R4, R5) -/

/-- SHIFT_OPEN (R4, R53), in OFF. -/
def State.openShift (s : State) : State × Answer :=
  if s.identity.cab = 0 then s.refused .refusedState
  else if s.tariff.isNone then s.refused .refusedState
  else
    ((s.withMeter { s.meter with state := .vacant }).withStore
      { s.store with totals := .fresh (seqNext Config.countMax s.store.totals.shift) }).answered []

/-- SHIFT_CLOSE (R5, R54, R55, R77), in VACANT. With a bid standing, the SHIFT entry is offered before the Offer Unit
withdraws the bid or owes its cancel: which of the two finds the last shared place R141 leaves open (log 31, DESIGN
CHOICE). -/
def State.closeShift (s : State) : State × Answer :=
  (((s.withMeter { s.meter with state := .off }).pendReport s.shiftReport).lapseOffers).answered s.shiftReport.bytes

/-! ## Assignment (R7) -/

/-- JOB_CANCEL (R7, R78), in ASSIGNED. -/
def State.cancelJob (s : State) : State × Answer :=
  let s1 :=
    match s.meter.jobId with
    | some id => (s.oweCancel id .driverCancel).closeAwarded (some id) .declined
    | none => s
  (s1.withMeter { s1.meter with state := .vacant, jobId := none }).answered []

/-! ## The trip (R9 to R17) -/

/-- The trip context HIRE forms (R9, R10). -/
def State.newTrip (s : State) (t : Tariff) (b : Band) : Trip :=
  { number := seqNext Config.countMax s.meter.lastTrip
    jobId := if s.meter.state = .assigned then s.meter.jobId else none
    band := b.number, copy := b.copy s.identity.k, version := t.version
    extras := t.extras.map fun x => { amount := x.amount, max := x.max, used := 0 }
    fare := b.flagFall, extrasTotal := 0, increments := 0, accumulator := 0, gateOpen := true
    pulses := 0, gatedPulses := 0, startClock := s.time.clock, endClock := none
    flags := { fareCapped := false, timeUnknown := !s.time.known, holdUsed := false
               emergencyDuring := s.emergency.state.raised, distOverrate := false } }

/-- HIRE moves the meter to HIRED: the pulse count is closed first (R35), and the Offer Unit is told (R77, R78). -/
def State.startTrip (t : Tariff) (b : Band) (s : State) : State :=
  let trip := s.newTrip t b
  let s1 := s.closePulses.withMeter
    { state := .hired, jobId := none, lastTrip := trip.number, hold := false, trip := some trip }
  if s.meter.state = .assigned then s1.closeAwarded s.meter.jobId .done else s1.lapseOffers

/-- HIRE (R9), in VACANT or ASSIGNED. -/
def State.hire (n : Nat) (s : State) : State × Answer :=
  match s.tariff, chooseBand s.tariff s.time n with
  | some t, some b => (s.startTrip t b).answered []
  | _, _ => s.refused .refusedRange

/-- END (R15), in HIRED. -/
def State.endTrip (s : State) : State × Answer :=
  (s.withMeter { s.meter with
    state := .total, hold := false
    trip := s.meter.trip.map fun t =>
      { t with endClock := some s.time.clock, accumulator := 0, gateOpen := false } }).answered []

/-- The record PAID finalises (R16). -/
def Trip.record (t : Trip) (shift k : Nat) : TripRecord :=
  { trip := t.number, shift, jobId := t.jobId, band := t.band, version := t.version
    startClock := t.startClock, endClock := t.endClock.getD t.startClock
    distance := metres t.pulses k, gatedDistance := metres t.gatedPulses k
    fare := t.fare, extrasTotal := t.extrasTotal, total := t.total, flags := t.flags }

/-- PAID (R16), in TOTAL: the pulse count is closed, and the record enters the store. -/
def State.payTrip (s : State) : State × Answer :=
  let s1 := s.closePulses
  match s1.meter.trip with
  | none => s.refused .refusedState
  | some t =>
    ((s1.enterRecord (t.record s1.store.totals.shift s1.identity.k)).withMeter
      { s1.meter with state := .vacant, jobId := none, trip := none }).answered []

/-- HOLD_ON (R12, R13), in HIRED. -/
def State.holdOn (s : State) : State × Answer :=
  (s.withMeter { s.meter with
    hold := true
    trip := s.meter.trip.map fun t => { t with flags := { t.flags with holdUsed := true } }.closeGate }).answered []

/-- HOLD_OFF (R12, R13), in HIRED. -/
def State.holdOff (s : State) : State × Answer :=
  (s.withMeter { s.meter with
    hold := false
    trip := s.meter.trip.map fun t => if s.condition = .shed then t else t.openGate }).answered []

/-- The copied extra an index names, when its maximum is not reached (R17). -/
def Trip.extraFor (t : Trip) (i : Nat) : Option TripExtra :=
  if i = 0 then none else t.extras[i - 1]?.filter fun e => decide (e.used < e.max)

/-- An extra is added (R17). -/
def Trip.addExtra (i : Nat) (e : TripExtra) (t : Trip) : Trip :=
  { t with
    extrasTotal := satAdd Config.moneyMax t.extrasTotal e.amount
    extras := t.extras.set (i - 1) { e with used := e.used + 1 } }.cap
      (decide (Config.moneyMax < t.extrasTotal + e.amount))

/-- EXTRA (R17), in HIRED or TOTAL. -/
def State.takeExtra (i : Nat) (s : State) : State × Answer :=
  match s.meter.trip with
  | none => s.refused .refusedState
  | some t =>
    match t.extraFor i with
    | none => s.refused .refusedRange
    | some e =>
      let t1 := t.addExtra i e
      (s.withMeter { s.meter with trip := some t1 }).answered (amount t1.extrasTotal ++ amount t1.total)

/-! ## The commands -/

def execJobCancel (tag : Byte) (payload : List Byte) (s : State) : Host.Outcome State Fault Refusal :=
  serveMeter 0x87#8 tag [.assigned] (argNone payload) (fun _ t => t.cancelJob) s

def execReadMeter (tag : Byte) (payload : List Byte) (s : State) : Host.Outcome State Fault Refusal :=
  serve 0x89#8 tag (argNone payload) (reading fun _ t => .ok t.meterFields) s

def execHire (tag : Byte) (payload : List Byte) (s : State) : Host.Outcome State Fault Refusal :=
  serveMeter 0x8A#8 tag [.vacant, .assigned] (argByte payload) State.hire s

def execEnd (tag : Byte) (payload : List Byte) (s : State) : Host.Outcome State Fault Refusal :=
  serveMeter 0x8B#8 tag [.hired] (argNone payload) (fun _ t => t.endTrip) s

def execPaid (tag : Byte) (payload : List Byte) (s : State) : Host.Outcome State Fault Refusal :=
  serveMeter 0x8C#8 tag [.total] (argNone payload) (fun _ t => t.payTrip) s

def execHoldOn (tag : Byte) (payload : List Byte) (s : State) : Host.Outcome State Fault Refusal :=
  serveMeter 0x8D#8 tag [.hired] (argNone payload) (fun _ t => t.holdOn) s

def execHoldOff (tag : Byte) (payload : List Byte) (s : State) : Host.Outcome State Fault Refusal :=
  serveMeter 0x8E#8 tag [.hired] (argNone payload) (fun _ t => t.holdOff) s

def execExtra (tag : Byte) (payload : List Byte) (s : State) : Host.Outcome State Fault Refusal :=
  serveMeter 0x8F#8 tag [.hired, .total] (argByte payload) State.takeExtra s

def execShiftOpen (tag : Byte) (payload : List Byte) (s : State) : Host.Outcome State Fault Refusal :=
  serveMeter 0x90#8 tag [.off] (argNone payload) (fun _ t => t.openShift) s

def execShiftClose (tag : Byte) (payload : List Byte) (s : State) : Host.Outcome State Fault Refusal :=
  serveMeter 0x91#8 tag [.vacant] (argNone payload) (fun _ t => t.closeShift) s

end Sys2Proof.Machine
end

