-- ==== Sys2Proof/Machine/OfferCommands.lean ====
section
/-! DEFINITION. The Offer Unit's commands (chapter 4). -/

namespace Sys2Proof.Machine

/-! ## Terminal requests -/

/-- READ_OFFERS (R80). -/
def State.readOffers (id : Nat) (s : State) : Answer :=
  if id = 0 then .ok s.offerSummary
  else
    match s.entry id with
    | some e => .ok (s.offerFields e)
    | none => .refuse .notFound

/-- The third check of ACCEPT: another entry is in BID or AWARDED, or a bid record has outlived its entry's BID
(R68). -/
def State.bidBusy (s : State) (id : Nat) : Bool :=
  s.offers.entries.any (fun e => e.id != id && (e.state = .bid || e.state = .awarded))
    || s.offers.bid.any (fun b => s.offers.entries.all fun e => !(e.id == b.offer && e.state = .bid))

/-- The bid of a SHOWN entry is taken (R68). -/
def State.placeBid (id : Nat) (s : State) : State :=
  ((s.setEntry id .bid).enqueue (.bid id)).withBid (some { offer := id, stage := .queued, mark := .none })

/-- ACCEPT (R68). -/
def State.acceptOffer (id : Nat) (s : State) : State × Answer :=
  match s.entry id with
  | none => s.refused .notFound
  | some e =>
    if s.meter.state ≠ .vacant then s.refused .refusedState
    else if s.bidBusy id then s.refused .refusedBusy
    else if e.state ≠ .shown then s.refused .refusedState
    else if !hasPlace s.arbiter.queue (.bid id) then s.refused .refusedFull
    else (s.placeBid id).answered []

/-- DISMISS (R79). -/
def State.dismissOffer (id : Nat) (s : State) : State × Answer :=
  match s.entry id with
  | none => s.refused .notFound
  | some e =>
    if e.state = .bid ∨ e.state = .awarded then s.refused .refusedState
    else (s.withEntries (s.offers.entries.filter fun x => x.id ≠ id)).answered []

/-- POSITION (R61). -/
def State.position (zone : Nat) (s : State) : State × Answer :=
  if 999 < zone then s.refused .refusedRange
  else
    let s1 := s.withOffers { s.offers with zone := if zone = 0 then none else some zone }
    s1.answered (flag s1.knownZone.isSome)

def execReadOffers (tag : Byte) (payload : List Byte) (s : State) : Host.Outcome State Fault Refusal :=
  serve 0x84#8 tag (argWord payload) (reading fun id t => t.readOffers id) s

def execAccept (tag : Byte) (payload : List Byte) (s : State) : Host.Outcome State Fault Refusal :=
  serve 0x85#8 tag (argWord payload) State.acceptOffer s

def execDismiss (tag : Byte) (payload : List Byte) (s : State) : Host.Outcome State Fault Refusal :=
  serve 0x86#8 tag (argWord payload) State.dismissOffer s

def execPosition (tag : Byte) (payload : List Byte) (s : State) : Host.Outcome State Fault Refusal :=
  serve 0x88#8 tag (argWord payload) State.position s

/-! ## Frames -/

/-- The zone of an OFFER's addressing: ZONE mode only (R59). -/
def offerZone (hdr : AirHeader) : Option Nat := if hdr.mode = 2 then some hdr.addr.toNat else none

def execOffer (hdr : AirHeader) (payload : List Byte) (s : State) : Host.Outcome State Fault Refusal :=
  done s (s.receive .offer hdr payload (handed (parseOffer payload) (State.offerArrives (offerZone hdr))))

def execOfferWithdraw (hdr : AirHeader) (payload : List Byte) (s : State) : Host.Outcome State Fault Refusal :=
  done s (s.receive .offerWithdraw hdr payload (handed (parseId payload) State.withdrawArrives))

def execAward (hdr : AirHeader) (payload : List Byte) (s : State) : Host.Outcome State Fault Refusal :=
  done s (s.receive .award hdr payload (handed (parseId payload) State.awardArrives))

def execRefuse (hdr : AirHeader) (payload : List Byte) (s : State) : Host.Outcome State Fault Refusal :=
  done s (s.receive .refuse hdr payload (handed (parseId payload) State.refuseArrives))

/-! ## Expiries -/

def execOfferLifetimeExpiry (id : Nat) (s : State) : Host.Outcome State Fault Refusal :=
  done s (s.whenMain (State.expireShown id))

def execBidLifetimeExpiry (s : State) : Host.Outcome State Fault Refusal := done s (s.whenMain State.expireBid)

def execAwardWaitExpiry (s : State) : Host.Outcome State Fault Refusal := done s (s.whenMain State.expireAward)

end Sys2Proof.Machine
end

