-- ==== Sys2Proof/Machine/StoreCommands.lean ====
section
/-! DEFINITION. The Fare Store's commands (chapter 3). -/

namespace Sys2Proof.Machine

/-- READ_STORE (R57). -/
def State.readStore (pos : Nat) (s : State) : Answer :=
  if 16 < pos then .refuse .refusedRange
  else if pos = 0 then .ok s.storeFields
  else
    match s.store.records[pos - 1]? with
    | some r => .ok (r.shown s.settings.visible)
    | none => .refuse .notFound

/-- The ack timer has expired: IDLE, and a new entry for the record at once (R47). -/
def State.expireAck (s : State) : State :=
  match s.store.sender with
  | .sent _ 0 => (s.withSender .idle).placeTotal
  | _ => s

def execReadStore (tag : Byte) (payload : List Byte) (s : State) : Host.Outcome State Fault Refusal :=
  serve 0x92#8 tag (argByte payload) (reading fun pos t => t.readStore pos) s

def execTotalAck (hdr : AirHeader) (payload : List Byte) (s : State) : Host.Outcome State Fault Refusal :=
  done s (s.receive .totalAck hdr payload (handed (parseId payload) State.acknowledge))

def execAckTimerExpiry (s : State) : Host.Outcome State Fault Refusal := done s (s.whenRetained State.expireAck)

end Sys2Proof.Machine
end

