-- ==== Sys2Proof/Machine/TerminalCommands.lean ====
section
/-! DEFINITION. The commands of the Terminal Port, the Event Unit and fault capture (chapter 10). -/

namespace Sys2Proof.Machine

/-! ## Readings -/

def execReadStatus (tag : Byte) (payload : List Byte) (s : State) : Host.Outcome State Fault Refusal :=
  serve 0x80#8 tag (argNone payload) (reading fun _ t => .ok t.statusFields) s

def execReadNotices (tag : Byte) (payload : List Byte) (s : State) : Host.Outcome State Fault Refusal :=
  serve 0x81#8 tag (argNone payload) (reading fun _ t => .ok t.noticeFields) s

def execReadFault (tag : Byte) (payload : List Byte) (s : State) : Host.Outcome State Fault Refusal :=
  serve 0x99#8 tag (argNone payload) (reading fun _ t => .ok t.faultFields) s

/-! ## Notices (R178) -/

/-- CLEAR_EVENTS: every named flag is cleared. -/
def State.clearFlags (named : BitVec 18) (s : State) : State × Answer :=
  (s.withEvents { s.events with flags := s.events.flags &&& ~~~ named }).answered []

/-- NOTICE_SETUP: the whole setup is replaced. -/
def State.setNotices (setup : BitVec 18 × BitVec 18) (s : State) : State × Answer :=
  (s.withEvents { s.events with enables := setup.1, lines := setup.2 }).answered []

def execClearEvents (tag : Byte) (payload : List Byte) (s : State) : Host.Outcome State Fault Refusal :=
  serve 0x82#8 tag (argEventSet payload) State.clearFlags s

def execNoticeSetup (tag : Byte) (payload : List Byte) (s : State) : Host.Outcome State Fault Refusal :=
  serve 0x83#8 tag (argNotices payload) State.setNotices s

/-! ## Pass-through data (R180, R181) -/

/-- READ_PASS: the oldest frame is removed and returned. -/
def State.readPass (s : State) : State × Answer :=
  match s.terminal.pass with
  | [] => (s, { code := .notFound, payload := u8 s.terminal.overruns })
  | f :: rest =>
    (s.withTerminal { s.terminal with pass := rest }).answered
      (text f.data ++ [f.mode] ++ u8 rest.length ++ u8 s.terminal.overruns)

/-- PASS_UP: an entry is offered in class 5. -/
def State.passUp (data : List Byte) (s : State) : State × Answer :=
  if sharedFree s.arbiter.queue then
    let number := seqNext Config.smallMax s.terminal.upCounter
    ((s.enqueue (.passUp number data)).withTerminal { s.terminal with
      upCounter := number, upOutstanding := s.terminal.upOutstanding + 1 }).answered (u8 number)
  else s.refused .refusedFull

def execReadPass (tag : Byte) (payload : List Byte) (s : State) : Host.Outcome State Fault Refusal :=
  serve 0x97#8 tag (argNone payload) (fun _ t => t.readPass) s

def execPassUp (tag : Byte) (payload : List Byte) (s : State) : Host.Outcome State Fault Refusal :=
  serve 0x98#8 tag (argUp payload) State.passUp s

/-! ## Fault capture (R183) -/

/-- RELEASE_FAULT: the record is emptied. -/
def State.releaseFault (s : State) : State × Answer := (s.withFault none).answered []

def execReleaseFault (tag : Byte) (payload : List Byte) (s : State) : Host.Outcome State Fault Refusal :=
  serve 0x9A#8 tag (argNone payload) (fun _ t => t.releaseFault) s

/-! ## Soft reset (R175) -/

def execSoftReset (tag : Byte) (payload : List Byte) (s : State) : Host.Outcome State Fault Refusal :=
  serve 0x9F#8 tag (argNone payload) (fun _ t => t.softReset.answered []) s

/-! ## Malformed local frames (R172) -/

/-- A selection whose bytes hold no request. A read, and bytes that are a request, change nothing here (R171,
log 5). -/
def State.rejectLocal (bytes : List Byte) (s : State) : State :=
  if bytes.isEmpty then s
  else
    match localFault bytes with
    | none => s
    | some detail =>
      let s1 := s.offerFault .terminalMalformed .terminal (byteAt bytes 0) detail
      if detail = 3 then s1.putReply (bytes.getD 0 0) (bytes.getD 1 0) (.refuse .unknownKind) else s1

def execLocalFrameMalformed (bytes : List Byte) (s : State) : Host.Outcome State Fault Refusal :=
  done s (s.whenMain (State.rejectLocal bytes))

end Sys2Proof.Machine
end

