-- ==== Sys2Proof/Machine/Dispatch.lean ====
section
/-! DEFINITION. What each command does: one arm per constructor of `Instr`. -/

namespace Sys2Proof.Machine

/-- The effect of a command on everything but the queue of waiting commands. -/
def exec (i : Instr) (s : State) : Host.Outcome State Fault Refusal :=
  match i with
  | .readStatus tag payload => Sys2Proof.Machine.execReadStatus tag payload s
  | .readNotices tag payload => Sys2Proof.Machine.execReadNotices tag payload s
  | .clearEvents tag payload => Sys2Proof.Machine.execClearEvents tag payload s
  | .noticeSetup tag payload => Sys2Proof.Machine.execNoticeSetup tag payload s
  | .readOffers tag payload => Sys2Proof.Machine.execReadOffers tag payload s
  | .accept tag payload => Sys2Proof.Machine.execAccept tag payload s
  | .dismiss tag payload => Sys2Proof.Machine.execDismiss tag payload s
  | .position tag payload => Sys2Proof.Machine.execPosition tag payload s
  | .jobCancel tag payload => Sys2Proof.Machine.execJobCancel tag payload s
  | .readMeter tag payload => Sys2Proof.Machine.execReadMeter tag payload s
  | .hire tag payload => Sys2Proof.Machine.execHire tag payload s
  | .endTrip tag payload => Sys2Proof.Machine.execEnd tag payload s
  | .paid tag payload => Sys2Proof.Machine.execPaid tag payload s
  | .holdOn tag payload => Sys2Proof.Machine.execHoldOn tag payload s
  | .holdOff tag payload => Sys2Proof.Machine.execHoldOff tag payload s
  | .extra tag payload => Sys2Proof.Machine.execExtra tag payload s
  | .shiftOpen tag payload => Sys2Proof.Machine.execShiftOpen tag payload s
  | .shiftClose tag payload => Sys2Proof.Machine.execShiftClose tag payload s
  | .readStore tag payload => Sys2Proof.Machine.execReadStore tag payload s
  | .readMessage tag payload => Sys2Proof.Machine.execReadMessage tag payload s
  | .msgRead tag payload => Sys2Proof.Machine.execMsgRead tag payload s
  | .msgAnswer tag payload => Sys2Proof.Machine.execMsgAnswer tag payload s
  | .driverMsg tag payload => Sys2Proof.Machine.execDriverMsg tag payload s
  | .readPass tag payload => Sys2Proof.Machine.execReadPass tag payload s
  | .passUp tag payload => Sys2Proof.Machine.execPassUp tag payload s
  | .readFault tag payload => Sys2Proof.Machine.execReadFault tag payload s
  | .releaseFault tag payload => Sys2Proof.Machine.execReleaseFault tag payload s
  | .localTableOpen svc tag payload => Sys2Proof.Machine.execLocalTableOpen svc tag payload s
  | .localTableSegment tag payload => Sys2Proof.Machine.execLocalTableSegment tag payload s
  | .localTableCommit svc tag payload => Sys2Proof.Machine.execLocalTableCommit svc tag payload s
  | .localTableAbort tag payload => Sys2Proof.Machine.execLocalTableAbort tag payload s
  | .softReset tag payload => Sys2Proof.Machine.execSoftReset tag payload s
  | .localFrameMalformed bytes => Sys2Proof.Machine.execLocalFrameMalformed bytes s
  | .startMarker => Sys2Proof.Machine.execStartMarker s
  | .airFrameRejected bytes => Sys2Proof.Machine.execAirFrameRejected bytes s
  | .offer hdr payload => Sys2Proof.Machine.execOffer hdr payload s
  | .offerWithdraw hdr payload => Sys2Proof.Machine.execOfferWithdraw hdr payload s
  | .award hdr payload => Sys2Proof.Machine.execAward hdr payload s
  | .refuse hdr payload => Sys2Proof.Machine.execRefuse hdr payload s
  | .message hdr payload => Sys2Proof.Machine.execMessage hdr payload s
  | .messageRecall hdr payload => Sys2Proof.Machine.execMessageRecall hdr payload s
  | .cycle hdr payload => Sys2Proof.Machine.execCycle hdr payload s
  | .statusPoll hdr payload => Sys2Proof.Machine.execStatusPoll hdr payload s
  | .airTableOpen hdr payload => Sys2Proof.Machine.execAirTableOpen hdr payload s
  | .airTableSegment hdr payload => Sys2Proof.Machine.execAirTableSegment hdr payload s
  | .airTableCommit hdr payload => Sys2Proof.Machine.execAirTableCommit hdr payload s
  | .airTableAbort hdr payload => Sys2Proof.Machine.execAirTableAbort hdr payload s
  | .totalAck hdr payload => Sys2Proof.Machine.execTotalAck hdr payload s
  | .emergencyAck hdr payload => Sys2Proof.Machine.execEmergencyAck hdr payload s
  | .emergencyClear hdr payload => Sys2Proof.Machine.execEmergencyClear hdr payload s
  | .pass hdr payload => Sys2Proof.Machine.execPass hdr payload s
  | .grant => Sys2Proof.Machine.execGrant s
  | .txDone => Sys2Proof.Machine.execTxDone s
  | .txFail withDone => Sys2Proof.Machine.execTxFail withDone s
  | .responseTimerExpiry => Sys2Proof.Machine.execResponseTimerExpiry s
  | .settleTimerExpiry => Sys2Proof.Machine.execSettleTimerExpiry s
  | .placeAppears order => Sys2Proof.Machine.execPlaceAppears order s
  | .ackTimerExpiry => Sys2Proof.Machine.execAckTimerExpiry s
  | .linkLossTimerExpiry => Sys2Proof.Machine.execLinkLossTimerExpiry s
  | .offerLifetimeExpiry offerId => Sys2Proof.Machine.execOfferLifetimeExpiry offerId s
  | .bidLifetimeExpiry => Sys2Proof.Machine.execBidLifetimeExpiry s
  | .awardWaitExpiry => Sys2Proof.Machine.execAwardWaitExpiry s
  | .inactivityTimerExpiry => Sys2Proof.Machine.execInactivityTimerExpiry s
  | .activation => Sys2Proof.Machine.execActivation s
  | .escalation => Sys2Proof.Machine.execEscalation s
  | .intervalTimerExpiry => Sys2Proof.Machine.execIntervalTimerExpiry s
  | .seatCheck => Sys2Proof.Machine.execSeatCheck s
  | .ignDebounceEnd => Sys2Proof.Machine.execIgnDebounceEnd s
  | .roofBlinkToggle => Sys2Proof.Machine.execRoofBlinkToggle s
  | .timerTick lines => Sys2Proof.Machine.execTimerTick lines s
  | .meterSecond => Sys2Proof.Machine.execMeterSecond s
  | .distPulse => Sys2Proof.Machine.execDistPulse s
  | .shedEntry => Sys2Proof.Machine.execShedEntry s
  | .supplyReturn => Sys2Proof.Machine.execSupplyReturn s
  | .powerUp => Sys2Proof.Machine.execPowerUp s
  | .mainReset level => Sys2Proof.Machine.execMainReset level s

end Sys2Proof.Machine
end

