-- ==== Sys2Proof/Machine/Ports.lean ====
section
/-! DEFINITION. From the bytes on a port to the command they are, and back: local frames (R172, R197) and downlink air
frames (R119 to R127, R194). The commands that reach the queue stand for what these functions read. -/

namespace Sys2Proof.Machine

/-! ## The terminal port -/

/-- The request of a kind code (R197); `svc` is the level of SVC at the selection. -/
def requestCommand (svc : Bool) (kind : Nat) (tag : Byte) (payload : List Byte) : Option Instr :=
  match kind with
  | 0x80 => some (.readStatus tag payload)
  | 0x81 => some (.readNotices tag payload)
  | 0x82 => some (.clearEvents tag payload)
  | 0x83 => some (.noticeSetup tag payload)
  | 0x84 => some (.readOffers tag payload)
  | 0x85 => some (.accept tag payload)
  | 0x86 => some (.dismiss tag payload)
  | 0x87 => some (.jobCancel tag payload)
  | 0x88 => some (.position tag payload)
  | 0x89 => some (.readMeter tag payload)
  | 0x8A => some (.hire tag payload)
  | 0x8B => some (.endTrip tag payload)
  | 0x8C => some (.paid tag payload)
  | 0x8D => some (.holdOn tag payload)
  | 0x8E => some (.holdOff tag payload)
  | 0x8F => some (.extra tag payload)
  | 0x90 => some (.shiftOpen tag payload)
  | 0x91 => some (.shiftClose tag payload)
  | 0x92 => some (.readStore tag payload)
  | 0x93 => some (.readMessage tag payload)
  | 0x94 => some (.msgRead tag payload)
  | 0x95 => some (.msgAnswer tag payload)
  | 0x96 => some (.driverMsg tag payload)
  | 0x97 => some (.readPass tag payload)
  | 0x98 => some (.passUp tag payload)
  | 0x99 => some (.readFault tag payload)
  | 0x9A => some (.releaseFault tag payload)
  | 0x9B => some (.localTableOpen svc tag payload)
  | 0x9C => some (.localTableSegment tag payload)
  | 0x9D => some (.localTableCommit svc tag payload)
  | 0x9E => some (.localTableAbort tag payload)
  | 0x9F => some (.softReset tag payload)
  | _ => none

/-- The command of a selection that shifts in `bytes`; none for a read (R171, R172). -/
def selectionCommand (svc : Bool) (bytes : List Byte) : Option Instr :=
  if bytes.isEmpty then none
  else
    match localFault bytes with
    | some _ => some (.localFrameMalformed bytes)
    | none => requestCommand svc (byteAt bytes 0) (bytes.getD 1 0) (slice bytes 3 (byteAt bytes 2))

/-- The kind, tag and payload of a local request; none for every other command. -/
def requestParts (c : Instr) : Option (Nat × Byte × List Byte) :=
  match c with
  | .readStatus tag payload => some (0x80, tag, payload)
  | .readNotices tag payload => some (0x81, tag, payload)
  | .clearEvents tag payload => some (0x82, tag, payload)
  | .noticeSetup tag payload => some (0x83, tag, payload)
  | .readOffers tag payload => some (0x84, tag, payload)
  | .accept tag payload => some (0x85, tag, payload)
  | .dismiss tag payload => some (0x86, tag, payload)
  | .jobCancel tag payload => some (0x87, tag, payload)
  | .position tag payload => some (0x88, tag, payload)
  | .readMeter tag payload => some (0x89, tag, payload)
  | .hire tag payload => some (0x8A, tag, payload)
  | .endTrip tag payload => some (0x8B, tag, payload)
  | .paid tag payload => some (0x8C, tag, payload)
  | .holdOn tag payload => some (0x8D, tag, payload)
  | .holdOff tag payload => some (0x8E, tag, payload)
  | .extra tag payload => some (0x8F, tag, payload)
  | .shiftOpen tag payload => some (0x90, tag, payload)
  | .shiftClose tag payload => some (0x91, tag, payload)
  | .readStore tag payload => some (0x92, tag, payload)
  | .readMessage tag payload => some (0x93, tag, payload)
  | .msgRead tag payload => some (0x94, tag, payload)
  | .msgAnswer tag payload => some (0x95, tag, payload)
  | .driverMsg tag payload => some (0x96, tag, payload)
  | .readPass tag payload => some (0x97, tag, payload)
  | .passUp tag payload => some (0x98, tag, payload)
  | .readFault tag payload => some (0x99, tag, payload)
  | .releaseFault tag payload => some (0x9A, tag, payload)
  | .localTableOpen _ tag payload => some (0x9B, tag, payload)
  | .localTableSegment tag payload => some (0x9C, tag, payload)
  | .localTableCommit _ tag payload => some (0x9D, tag, payload)
  | .localTableAbort tag payload => some (0x9E, tag, payload)
  | .softReset tag payload => some (0x9F, tag, payload)
  | _ => none

/-- A local frame (R197). -/
def localFrame (kind : Nat) (tag : Byte) (payload : List Byte) : List Byte :=
  withCrc (u8 kind ++ [tag] ++ u8 payload.length ++ payload)

/-! ## The air port -/

/-- The command of an accepted frame. -/
def downCommand (k : DownKind) (hdr : AirHeader) (payload : List Byte) : Instr :=
  match k with
  | .offer => .offer hdr payload
  | .offerWithdraw => .offerWithdraw hdr payload
  | .award => .award hdr payload
  | .refuse => .refuse hdr payload
  | .message => .message hdr payload
  | .messageRecall => .messageRecall hdr payload
  | .cycle => .cycle hdr payload
  | .statusPoll => .statusPoll hdr payload
  | .tableOpen => .airTableOpen hdr payload
  | .tableSegment => .airTableSegment hdr payload
  | .tableCommit => .airTableCommit hdr payload
  | .tableAbort => .airTableAbort hdr payload
  | .totalAck => .totalAck hdr payload
  | .emergencyAck => .emergencyAck hdr payload
  | .emergencyClear => .emergencyClear hdr payload
  | .pass => .pass hdr payload

/-- The command of the bytes between a start and an end marker, by the checks as the state has them (R119). -/
def State.airCommand (s : State) (bytes : List Byte) : Instr :=
  match s.verdict (ReceiveRecord.fresh.pushAll bytes) with
  | .accepted k hdr payload => downCommand k hdr payload
  | _ => .airFrameRejected bytes

/-- The bytes of a downlink frame (R194). -/
def downFrame (k : DownKind) (hdr : AirHeader) (payload : List Byte) : List Byte :=
  airFrame hdr.fleet.toNat k.code hdr.mode.toNat hdr.addr.toNat payload

end Sys2Proof.Machine
end

