-- ==== Sys2Proof/Safety.lean ====
section
/-! DEFINITION. The terms that statements about the machine use: which blocks a step changes, when a frame reaches its
owner, and the conditions that every step keeps. -/

namespace Sys2Proof.Machine

/-! ## Frames -/

/-- The blocks of the state. -/
inductive Block
  | time | pulses | meter | seat | roof | tariff | store | emergency | settings | identity | monitor | offers | messages
  | link | arbiter | loader | addresses | zones | events | fault | terminal | pins | pending | check
  deriving DecidableEq, Repr

/-- A block is the same in two states. -/
def Block.same (b : Block) (s t : State) : Prop :=
  match b with
  | .time => t.time = s.time
  | .pulses => t.pulses = s.pulses
  | .meter => t.meter = s.meter
  | .seat => t.seat = s.seat
  | .roof => t.roof = s.roof
  | .tariff => t.tariff = s.tariff
  | .store => t.store = s.store
  | .emergency => t.emergency = s.emergency
  | .settings => t.settings = s.settings
  | .identity => t.identity = s.identity
  | .monitor => t.monitor = s.monitor
  | .offers => t.offers = s.offers
  | .messages => t.messages = s.messages
  | .link => t.link = s.link
  | .arbiter => t.arbiter = s.arbiter
  | .loader => t.loader = s.loader
  | .addresses => t.addresses = s.addresses
  | .zones => t.zones = s.zones
  | .events => t.events = s.events
  | .fault => t.fault = s.fault
  | .terminal => t.terminal = s.terminal
  | .pins => t.pins = s.pins
  | .pending => t.pending = s.pending
  | .check => t.check = s.check

/-- Only the listed blocks differ between two states. -/
def OnlyChanges (bs : List Block) (s t : State) : Prop := ∀ b : Block, b ∈ bs ∨ b.same s t

/-- Nothing but the reply buffer and the output lines differs: what a refused request leaves (R173). -/
def OnlyReplied (s t : State) (r : Reply) : Prop :=
  OnlyChanges [.terminal, .pins] s t ∧ t.terminal = { s.terminal with reply := some r }

/-- A request carried out: besides the reply buffer and the output lines only the listed blocks differ, and the buffer
holds the reply (R172). -/
def Answered (bs : List Block) (s t : State) (r : Reply) : Prop :=
  OnlyChanges (.terminal :: .pins :: bs) s t ∧ t.terminal = { s.terminal with reply := some r }

/-- The flag of an event kind is set. -/
def State.flagged (s : State) (e : EventKind) : Bool := s.events.flags.getLsbD e.index

/-- The flags of `t` are those of `s` with the listed kinds set, and enables and lines are the same. -/
def Raised (es : List EventKind) (s t : State) : Prop :=
  t.events = es.foldl (fun ev e => ev.set e) s.events

/-! ## Arrival of a frame -/

/-- The end marker of an accepted frame routes it: a frame is in reception, every check is passed, and the receive run
state lets its kind through (R119 to R129). -/
def State.admits (s : State) (k : DownKind) (hdr : AirHeader) (payload : List Byte) : Bool :=
  s.mainRuns && s.link.record.isSome && decide (s.screenFrame k.code hdr payload = .accepted k hdr payload)
    && (s.link.run ≠ .stopped || k = .cycle)

/-- The receive record is closed, and a stop that waited for the frame has taken effect (R129). -/
def State.received (s : State) : Link :=
  { s.link with record := none, run := if s.link.run = .stopping then .stopped else s.link.run }

/-- A frame that has reached its owner: besides the receive path and the output lines only the listed blocks differ. -/
def Routed (bs : List Block) (s t : State) : Prop := OnlyChanges (.link :: .pins :: bs) s t ∧ t.link = s.received

/-- A frame is addressed to this cab in CAB mode, with the identity set (R122, R124). -/
def State.ToThisCab (s : State) (hdr : AirHeader) : Prop :=
  s.identity.cab ≠ 0 ∧ hdr.fleet.toNat = s.identity.fleet ∧ hdr.mode = 0#8 ∧ hdr.addr.toNat = s.identity.cab

/-- The Address Table holds an entry of a mode and value whose class set includes the kind's class (R124, R125). -/
def State.HoldsAddress (s : State) (fleet : Bool) (value : Nat) (k : DownKind) : Prop :=
  ∃ e ∈ s.addresses, e.fleet = fleet ∧ e.value = value ∧ e.classes.getLsbD k.cls.bit = true

/-- The fleet and address checks on a frame of a downlink kind (R122, R124 to R126). -/
def State.Addressed (s : State) (k : DownKind) (hdr : AirHeader) : Prop :=
  (s.identity.cab = 0 → hdr.fleet ≠ 0#8 ∧ hdr.mode = 3#8 ∧ (k = .cycle ∨ k = .statusPoll))
    ∧ (s.identity.cab ≠ 0 → hdr.fleet.toNat = s.identity.fleet
        ∧ (hdr.mode = 0#8 ∧ hdr.addr.toNat = s.identity.cab
          ∨ hdr.mode = 1#8 ∧ k.cls ≠ .management ∧ s.HoldsAddress false hdr.addr.toNat k
          ∨ hdr.mode = 2#8 ∧ k = .offer ∧ 1 ≤ hdr.addr.toNat ∧ hdr.addr.toNat ≤ 999
          ∨ hdr.mode = 3#8 ∧ (k = .cycle ∨ k = .statusPoll
              ∨ k.cls ≠ .management ∧ s.HoldsAddress true hdr.addr.toNat k)))

/-! ## Payloads -/

/-- The fields that open a payload of a kind, each its width in bytes and its range (R195); `count` is a MESSAGE's option
count, whose codes count as a field each (log 34). The estimate and the texts and data that may follow stand apart. -/
def leadingFields (k : DownKind) (count : Nat) : List (Nat × Nat × Nat) :=
  match k with
  | .offer => [(2, 1, 65535), (1, 5, 255), (1, 0, 3)]
  | .offerWithdraw | .award | .refuse | .messageRecall | .totalAck => [(2, 1, 65535)]
  | .message => [(2, 1, 65535), (1, 0, 3), (1, 0, 4)] ++ List.replicate count (1, 1, 255)
  | .cycle => [(1, 0, 6), (3, 0, 86399), (1, 0, 255), (1, 0, 7), (1, 0, 1)]
  | .statusPoll | .emergencyAck | .emergencyClear | .pass => []
  | .tableOpen => [(1, 1, 5), (2, 1, 65535), (2, 1, 4096)]
  | .tableSegment => [(1, 1, 5), (2, 1, 65535), (2, 0, 4095)]
  | .tableCommit => [(1, 1, 5), (2, 1, 65535), (2, 0, 65535)]
  | .tableAbort => [(1, 1, 5), (2, 1, 65535)]

/-- A payload begins with some fields, each whole and in its range. -/
def FieldsHold : List (Nat × Nat × Nat) → List Byte → Prop
  | [], _ => True
  | (n, lo, hi) :: fs, p => n ≤ p.length ∧ lo ≤ beNat (p.take n) ∧ beNat (p.take n) ≤ hi ∧ FieldsHold fs (p.drop n)

/-- Bytes begin with a text whose length lies in a range (R192, R195). -/
def TextHolds (lo hi : Nat) (p : List Byte) : Prop :=
  1 ≤ p.length ∧ lo ≤ byteAt p 0 ∧ byteAt p 0 ≤ hi ∧ 1 + byteAt p 0 ≤ p.length

/-- Bytes begin with the estimate of an OFFER: packed decimal where its flag, bit 1, is set, else 0 (R192, R195). -/
def EstimateHolds (flags : Nat) (p : List Byte) : Prop :=
  3 ≤ p.length ∧ (flags.testBit 1 = true → ∃ v, bcdNat (p.take 3) = some v)
    ∧ (flags.testBit 1 = false → p.take 3 = [0#8, 0#8, 0#8])

/-! ## Replies -/

/-- An optional field behind a presence byte (R197, log 17). -/
def present : Option (List Byte) → List Byte
  | none => [0#8]
  | some field => 1#8 :: field

/-- The trip fields of READ_METER, with the end clock's bytes where it is sent (R18). -/
def State.tripBytes (s : State) (x : Trip) (endClock : List Byte) : List Byte :=
  u16 x.number ++ u8 x.band ++ u16 x.version
    ++ amount x.fare ++ amount x.extrasTotal ++ amount (min 999999 (x.fare + x.extrasTotal)) ++ u32 x.increments
    ++ (if x.gateOpen then [1#8]
        else [0#8] ++ flagByte [s.meter.hold, decide (s.condition = .shed), decide (s.meter.state = .total)])
    ++ flag s.meter.hold
    ++ u32 (metres x.pulses s.identity.k) ++ u32 (metres x.gatedPulses s.identity.k)
    ++ u8 x.startClock.day ++ u24 x.startClock.second ++ endClock
    ++ flagByte [x.flags.fareCapped, x.flags.timeUnknown, x.flags.holdUsed,
        s.settings.visible && x.flags.emergencyDuring, x.flags.distOverrate]
    ++ u8 x.extras.length ++ (x.extras.map fun e => amount e.amount ++ u8 e.max ++ u8 e.used).flatten

/-! ## Faults -/

/-- The fault capture record once a fault has been offered: captured when the record is EMPTY, else counted (R182). -/
def State.faultAfter (s : State) (kind : FaultKind) (port : FaultPort) (kindByte detail : Nat) : Option FaultRecord :=
  match s.fault with
  | none =>
    some { kind, port, kindByte, detail, clock := s.time.clock, known := s.time.known, further := 0, higher := false }
  | some r =>
    some { r with
      further := min 255 (r.further + 1)
      higher := r.higher || decide (kind.priority < r.kind.priority) }

/-- A fault is offered between two states; FAULT is raised when it is captured (R182). -/
def FaultOffered (kind : FaultKind) (port : FaultPort) (kindByte detail : Nat) (s t : State) : Prop :=
  t.fault = s.faultAfter kind port kindByte detail ∧ Raised (if s.fault.isNone then [.fault] else []) s t

/-! ## Acceptance of an offer -/

/-- The Zone Table holds a zone number. -/
def State.HoldsZone (s : State) (n : Nat) : Prop := ∃ z ∈ s.zones, z.number = n

/-- The conditions of R63, for the addressing of a frame. -/
def State.Accepts (s : State) (hdr : AirHeader) : Prop :=
  s.meter.state = .vacant ∧ (s.offers.run = .running ∨ s.offers.run = .stopping)
    ∧ (hdr.mode = 2#8 →
        (∃ n, s.offers.zone = some n ∧ s.HoldsZone n) ∧ s.HoldsZone hdr.addr.toNat
          ∧ s.rank (some hdr.addr.toNat) ≤ s.settings.reach)

/-! ## Acceptance of a bid -/

/-- The third check of ACCEPT (R68): another entry is in BID or AWARDED, or a bid record's entry has left BID. -/
def BidElsewhere (s : State) (id : Nat) : Prop :=
  (∃ x ∈ s.offers.entries, x.id ≠ id ∧ (x.state = .bid ∨ x.state = .awarded))
    ∨ ∃ b, s.offers.bid = some b ∧ ∀ x ∈ s.offers.entries, x.id = b.offer → x.state ≠ .bid

/-- Class 1 has a place for a BID entry (R140). -/
def BidPlace (s : State) : Prop :=
  (∀ e ∈ s.arbiter.queue, e.isBid = false)
    ∧ (classCount s.arbiter.queue 1 = 0 ∨ classCount s.arbiter.queue 1 = 1 ∧ sharedCount s.arbiter.queue < 6)

/-! ## The tariff -/

/-- A band of AUTO's search, 2 to 8, whose window contains a clock value (R29, R30). -/
def Band.Windowed (b : Band) (c : Clock) : Prop :=
  2 ≤ b.number ∧ b.number ≤ 8 ∧ ∃ w, b.window = some w ∧ w.days.getLsbD c.day = true
    ∧ (w.start < w.stop → w.start ≤ c.second ∧ c.second < w.stop)
    ∧ (w.stop < w.start → w.start ≤ c.second ∨ c.second < w.stop)

/-! ## Messages -/

/-- A message but for where its receipt stands (R85): placing a receipt changes the stage alone (R93). -/
def Message.unplaced (m : Message) : Message := { m with mark := m.mark.map fun k => { k with stage := .owed } }

/-- The list but for where receipts stand. -/
def State.unplaced (s : State) : List Message := s.messages.list.map Message.unplaced

/-- The list without some messages. -/
def without (gone : List Nat) (ms : List Message) : List Message := ms.filter fun m => m.id ∉ gone

/-- A list has room for a text of `n` bytes (R87). -/
def Fits (n : Nat) (ms : List Message) : Prop :=
  ms.length < 12 ∧ (ms.map fun m => m.text.length).sum + n ≤ 1536

/-- The order of the removals an arrival allows (R87). -/
def removalOrder (urgent : Bool) (ms : List Message) : List Nat :=
  (ms.filter fun m => m.state = .read || m.state = .answered).map Message.id
    ++ if urgent then (ms.filter fun m => m.state = .unread && !m.urgent).map Message.id else []

/-- The removals made for an arrival: the first run of the order after which it has room (R87). -/
def GoneForRoom (urgent : Bool) (n : Nat) (ms : List Message) (gone : List Nat) : Prop :=
  gone <+: removalOrder urgent ms ∧ Fits n (without gone ms)
    ∧ ∀ g, g <+: gone → g ≠ gone → ¬ Fits n (without g ms)

/-- A receipt stands in stage OWED (R85, R88). -/
def State.ReceiptHeldBack (s : State) : Prop := ∃ i ∈ s.messages.owed, s.owedStage i = some .owed

/-! ## Emergencies -/

/-- The meter with EMERGENCY_DURING set on a trip in HIRED (R103, R104). -/
def State.meterMarked (s : State) : Meter :=
  { s.meter with
    trip := s.meter.trip.map fun x =>
      if s.meter.state = .hired then { x with flags := { x.flags with emergencyDuring := true } } else x }

/-! ## Loads -/

/-- A load that has just been opened (R157). -/
def OpenFields.opened (f : OpenFields) (port : LoadPort) : Load :=
  { port, table := f.table, generation := f.generation, length := f.length, buffer := [], timer := 30 }

/-- An open repeats the open load (R157). -/
def Load.Same (c : Load) (f : OpenFields) : Prop :=
  c.table = f.table ∧ c.generation = f.generation ∧ c.length = f.length

/-- The result of a load that ends without a reason (R161). -/
def Load.ends (c : Load) (result : ResultCode) (detail : Nat) : LoadResult :=
  { table := c.table, generation := c.generation, result, reason := none, detail }

/-- The result of a load whose image is rejected (R160, R161). -/
def Load.rejects (c : Load) (reason : Reason) (detail : Nat) : LoadResult :=
  { table := c.table, generation := c.generation, result := .rejected, reason := some reason, detail }

/-- A local request is answered OK with some fields; of the Terminal Port nothing but the reply buffer differs. A command
of the air port answers nothing. -/
def RepliedOk (c : Instr) (s t : State) (payload : List Byte) : Prop :=
  ∀ k tag body, requestParts c = some (k, tag, body) →
    t.terminal = { s.terminal with reply := some { kind := BitVec.ofNat 8 k, tag, code := .ok, payload } }

/-- A command comes from a port: a request with the main domain working, or a frame that is admitted. -/
def FromPort (port : LoadPort) (s : State) (k : DownKind) (payload : List Byte) (request : Byte → Instr)
    (frame : AirHeader → Instr) (i : Instr) : Prop :=
  match port with
  | .terminal => s.mainRuns = true ∧ ∃ tag, i = request tag
  | .air => ∃ hdr, i = frame hdr ∧ s.admits k hdr payload = true

/-- A TABLE_RESULT is offered to the arbiter (R142): it joins the queue where the shared places have room; else it takes
the place of the newest entry of class 5 that is no TABLE_RESULT and not in flight, a displaced PASS_UP being counted;
where there is none, it is lost. -/
def ResultOffered (r : LoadResult) (s t : State) : Prop :=
  (sharedCount s.arbiter.queue < 6 →
      t.arbiter = { s.arbiter with queue := s.arbiter.queue ++ [.tableResult r] } ∧ t.terminal = s.terminal)
    ∧ (6 ≤ sharedCount s.arbiter.queue →
        ((∀ x ∈ s.arbiter.queue, x.cls = 5 → x.isTableResult = true ∨ s.entryInFlight x = true) →
          t.arbiter = s.arbiter ∧ t.terminal = s.terminal)
        ∧ ∀ as e bs, s.arbiter.queue = as ++ e :: bs → e ∉ as → e.cls = 5 → e.isTableResult = false →
            s.entryInFlight e = false →
            (∀ x ∈ bs, x.cls = 5 → x.isTableResult = true ∨ s.entryInFlight x = true) →
            t.arbiter = { s.arbiter with queue := as ++ bs ++ [.tableResult r] }
            ∧ ((∃ n d, e = .passUp n d) → t.terminal = { s.terminal with
                upOutstanding := s.terminal.upOutstanding - 1
                upDisplaced := min 255 (s.terminal.upDisplaced + 1) })
            ∧ ((∀ n d, e ≠ .passUp n d) → t.terminal = s.terminal))

/-- A result is delivered to its port (R161): kept with TABLE_RESULT raised, or offered to the arbiter. -/
def Delivered (port : LoadPort) (r : LoadResult) (s t : State) : Prop :=
  match port with
  | .terminal => t.loader = { context := none, lastTerminal := some r } ∧ Raised [.tableResult] s t
  | .air => t.loader = { s.loader with context := none } ∧ t.events = s.events ∧ ResultOffered r s t

/-- A step of a load by a command of its own port: besides its port's blocks and the output lines only the listed ones
differ. -/
def ByPort (port : LoadPort) (bs : List Block) (s t : State) : Prop :=
  match port with
  | .terminal => OnlyChanges (.terminal :: .pins :: bs) s t
  | .air => Routed bs s t

/-- A load ends by a command of its own port: the result is delivered, a local reply carries it, and of the other
blocks only the listed ones differ (R161). -/
def LoadEnded (c : Instr) (port : LoadPort) (bs : List Block) (r : LoadResult) (s t : State) : Prop :=
  Delivered port r s t ∧ RepliedOk c s t r.bytes
    ∧ match port with
      | .terminal => OnlyChanges (bs ++ [.loader, .events, .terminal, .pins]) s t
      | .air => Routed (bs ++ [.loader, .arbiter, .terminal]) s t

/-! ## Table images -/

/-- An Address Table entry as its image has it (R198). -/
def AddressEntry.image (e : AddressEntry) : List Byte := u8 (if e.fleet then 2 else 1) ++ u16 e.value ++ [e.classes]

/-- A Zone Table image (R198): the zone count, and per zone its number, its neighbour count and its neighbours. -/
def zoneTableBytes (zs : List Zone) : List Byte :=
  u8 zs.length
    ++ (zs.map fun z => u16 z.number ++ u8 z.neighbours.length ++ (z.neighbours.map u16).flatten).flatten

/-- Zones whose counts and fields an image can hold: its first step (R164, R198). -/
def ZonesFit (zs : List Zone) : Prop :=
  zs.length ≤ 32 ∧ ∀ z ∈ zs, z.number ≤ 65535 ∧ z.neighbours.length ≤ 6 ∧ ∀ n ∈ z.neighbours, n ≤ 65535

/-- A band record, 26 bytes (R198). -/
def Band.image (b : Band) : List Byte :=
  u8 b.number
    ++ (match b.window with
        | none => [0#8, 0#8, 0#8, 0#8, 0#8, 0#8, 0#8, 0#8]
        | some w => u8 1 ++ u24 w.start ++ u24 w.stop ++ [w.days])
    ++ amount b.flagFall ++ u8 b.coverage ++ amount b.value1 ++ u16 b.length1 ++ amount b.value2 ++ u16 b.metres
    ++ u16 b.seconds ++ flagByte [b.gateClears, b.selectable]

/-- An extra record, 4 bytes (R198). -/
def Extra.image (e : Extra) : List Byte := Machine.amount e.amount ++ u8 e.max

/-- Setting number `d`, counted from 1, lies in its range (R166). -/
def SettingIn (range : List (Nat × Nat)) (img : List Byte) (d : Nat) : Prop :=
  ∃ r, range[d - 1]? = some r ∧ r.1 ≤ byteAt img (d - 1) ∧ byteAt img (d - 1) ≤ r.2

/-- Record `d` of an Address Table image, counted from 1, holds a GROUP or FLEET entry with its value and a class set in
range, and repeats no earlier record (R163). -/
def AddressRecordGood (img : List Byte) (d : Nat) : Prop :=
  let at' := fun d : Nat => slice img (1 + 4 * (d - 1)) 4
  (byteAt (at' d) 0 = 1 ∧ 1 ≤ beNat (slice (at' d) 1 2) ∧ beNat (slice (at' d) 1 2) ≤ 65534 ∨ byteAt (at' d) 0 = 2)
    ∧ 1 ≤ byteAt (at' d) 3 ∧ byteAt (at' d) 3 < 32
    ∧ ∀ j, 1 ≤ j → j < d →
        byteAt (at' j) 0 ≠ byteAt (at' d) 0 ∨ beNat (slice (at' j) 1 2) ≠ beNat (slice (at' d) 1 2)

/-- A zone record after those of `before` passes the second step (R164). -/
def ZoneGood (before : List Zone) (z : Zone) : Prop :=
  1 ≤ z.number ∧ z.number ≤ 999 ∧ (∀ x ∈ before, x.number ≠ z.number)
    ∧ (∀ n ∈ z.neighbours, 1 ≤ n ∧ n ≤ 999 ∧ n ≠ z.number) ∧ z.neighbours.Nodup

/-- Three bytes hold a trip amount in a range (R192). -/
def AmountIn (bs : List Byte) (lo hi : Nat) : Prop := ∃ v, bcdNat bs = some v ∧ lo ≤ v ∧ v ≤ hi

/-- Band record `n` of a tariff image, counted from 0, is in range and repeats no earlier band number (R25, R27, R198). -/
def BandRecordGood (img : List Byte) (n : Nat) : Prop :=
  ∀ b, b = slice img (4 + 26 * n) 26 →
    1 ≤ byteAt b 0 ∧ byteAt b 0 ≤ 8
      ∧ (byteAt b 1 = 0 ∧ beNat (slice b 2 3) = 0 ∧ beNat (slice b 5 3) = 0 ∧ byteAt b 8 = 0
        ∨ byteAt b 1 = 1 ∧ beNat (slice b 2 3) ≤ 86399 ∧ beNat (slice b 5 3) ≤ 86399 ∧ 1 ≤ byteAt b 8 ∧ byteAt b 8 < 128
          ∧ byteAt b 0 ≠ 1)
      ∧ AmountIn (slice b 9 3) 0 99999 ∧ byteAt b 12 ≤ 15 ∧ AmountIn (slice b 13 3) 1 9999
      ∧ (beNat (slice b 16 2) = 0 → ∃ v, bcdNat (slice b 18 3) = some v)
      ∧ (beNat (slice b 16 2) ≠ 0 → AmountIn (slice b 18 3) 1 9999)
      ∧ 10 ≤ beNat (slice b 21 2) ∧ beNat (slice b 21 2) ≤ 10000
      ∧ 1 ≤ beNat (slice b 23 2) ∧ beNat (slice b 23 2) ≤ 3600 ∧ byteAt b 25 < 4
      ∧ ∀ j, j < n → byteAt img (4 + 26 * j) ≠ byteAt b 0

/-- The extra record at an offset of a tariff image is in range (R26, R27). -/
def ExtraRecordGood (img : List Byte) (offset : Nat) : Prop :=
  AmountIn (slice img offset 3) 1 99999 ∧ 1 ≤ byteAt img (offset + 3) ∧ byteAt img (offset + 3) ≤ 9

/-! ## Resets -/

/-- The main-domain blocks that no owner fills again hold their main-reset values (R82, R98, R137, R154, R155, R162,
R164, R178, R184). -/
def State.MainFresh (t : State) : Prop :=
  t.offers = { entries := [], zone := none, run := t.runAtReset t.settings.stopOffers, bid := none, cancels := []
               arrivals := 0 }
    ∧ t.messages = { list := [], owed := [], refusal := none, counter := 0, outstanding := 0, delivered := 0
                     removals := 0 }
    ∧ t.link = { state := .search, cycle := none, allowance := 0, lossTimer := none, crcErrors := 0, record := none
                 run := t.runAtReset t.settings.stopAir }
    ∧ t.arbiter.inFlight = none ∧ t.arbiter.settle = some 2
    ∧ t.loader = { context := none, lastTerminal := none } ∧ t.addresses = [] ∧ t.zones = []
    ∧ t.events.enables = 0x3FFFF#18 ∧ t.events.lines = 0x22020#18
    ∧ t.terminal = { reply := none, pass := [], overruns := 0, upCounter := 0, upOutstanding := 0, upDelivered := 0
                     upDisplaced := 0 }

/-- After a reset the owners have offered again what they still owe, each class in its order (R45, R55, R76, R93, R154):
the first cancels, the oldest record's TOTAL, the first receipts and the pending shift report. -/
def State.Reoffered (t : State) (cancels : List Cancel) (store : Store) (owed : List OwedItem) : Prop :=
  (t.arbiter.queue.filter fun e => e.cls = 1) = (cancels.take 2).map (fun c => .bidCancel c.offer c.reason)
    ∧ (t.arbiter.queue.filter fun e => e.cls = 2) = (store.records.take 1).map (fun r => .total r.trip)
    ∧ (t.arbiter.queue.filter fun e => e.cls = 3) = (owed.take 3).map OwedItem.entry
    ∧ (t.arbiter.queue.filter fun e => e.cls = 4) = []
    ∧ (t.arbiter.queue.filter fun e => e.cls = 5) = (store.pendingReport.toList).map (fun r => .shift r.shift)

/-! ## Meter requests -/

/-- The meter states in which each meter request is permitted, by its kind; READ_METER is permitted in all (R3, R197). -/
def meterPermits : List (Nat × List MeterState) :=
  [(0x90, [.off]), (0x91, [.vacant]), (0x87, [.assigned]), (0x8A, [.vacant, .assigned]), (0x8D, [.hired]), (0x8E, [.hired]),
   (0x8B, [.hired]), (0x8F, [.hired, .total]), (0x8C, [.total])]

/-! ## Entries of the owners -/

/-- A BID_CANCEL entry. -/
def Entry.isCancel : Entry → Bool
  | .bidCancel _ _ => true
  | _ => false

/-- A BID_CANCEL entry for an offer. -/
def Entry.isCancelFor (offer : Nat) : Entry → Bool
  | .bidCancel o _ => o = offer
  | _ => false

/-- Class 1 has no place left for a BID_CANCEL (R140). -/
def Class1Full (q : List Entry) : Prop :=
  2 ≤ classCount q 1 ∨ classCount q 1 = 1 ∧ 6 ≤ sharedCount q

/-- No place is left for a receipt (R93, R140). -/
def ReceiptsFull (q : List Entry) : Prop := 6 ≤ sharedCount q ∨ 3 ≤ (q.filter Entry.isReceipt).length

/-! ## What leaves with an entry -/

/-- An entry in SHOWN lapses; any other keeps its fields (R72, R77, R81). -/
def OfferEntry.lapse (e : OfferEntry) : OfferEntry :=
  if e.state = .shown then { e with state := .lapsed, waiting := none } else e

/-- The Offer Unit once its entry in BID has become `e` and the bid record is removed: a stop that waited for the bid
takes effect and lapses the SHOWN entries (R81). -/
def Offers.settled (o : Offers) (before : List OfferEntry) (e : OfferEntry) (after : List OfferEntry) : Offers :=
  if o.run = .stopping then
    { o with entries := before.map OfferEntry.lapse ++ e :: after.map OfferEntry.lapse, bid := none, run := .stopped }
  else { o with entries := before ++ e :: after, bid := none }

/-- The arbiter without a withdrawn entry: a frame in flight for it is detached (R152). -/
def Arbiter.without (e : Entry) (a : Arbiter) : Arbiter :=
  { a with
    queue := a.queue.erase e
    inFlight := a.inFlight.map fun f => if f.granted = .entry e then { f with granted := .detached } else f }

/-! ## What owners place -/

/-- The Offer Unit has placed its cancels: `owing` is the cancel list before, `a` the arbiter. The queue has grown at its
newest end by entries of cancels in stage OWED, oldest first; exactly those now stand QUEUED; and no cancel waits for which
class 1 has a place (R76). -/
def CancelsPlaced (a : Arbiter) (owing : List Cancel) (t : State) : Prop :=
  ∃ new, t.arbiter = { a with queue := a.queue ++ new }
    ∧ (∀ e ∈ new, ∃ c ∈ owing, c.stage = .owed ∧ e = .bidCancel c.offer c.reason)
    ∧ ((owing.map Cancel.offer).Nodup →
        new <+: (owing.filter fun c => c.stage = .owed).map fun c => .bidCancel c.offer c.reason)
    ∧ t.offers.cancels =
        owing.map (fun c => if new.any (Entry.isCancelFor c.offer) then { c with stage := .queued } else c)
    ∧ ((∀ c ∈ t.offers.cancels, c.stage ≠ .owed) ∨ Class1Full t.arbiter.queue)

/-- The arbiter once SHIFT_CLOSE has placed its SHIFT entry, or rewritten one that is not in flight (R55). -/
def State.shiftOffered (s : State) : Arbiter :=
  { s.arbiter with
    queue :=
      if s.arbiter.queue.any Entry.isShift then
        s.arbiter.queue.map fun e => if e.isShift && !s.entryInFlight e then .shift s.store.totals.shift else e
      else if sharedCount s.arbiter.queue < 6 then s.arbiter.queue ++ [.shift s.store.totals.shift]
      else s.arbiter.queue }

/-- The RECEIPT entry of an item of the owed order is queued or in flight (R85, R88). -/
def State.receiptPlaced (s : State) (i : OwedItem) : Bool :=
  s.owedStage i = some .queued || s.owedStage i = some .inFlight

/-- How the owed order and the RECEIPT entries follow a step. The items in `gone` leave the order, and a placed entry of
theirs is withdrawn or detached (R87, R89, R92); those in `joined` join it at its newest end (R85, R88). Then receipts in stage
OWED are placed at the newest end of the queue, oldest first, until none waits or no place is left; exactly those placed now
stand QUEUED, and every other stage is kept (R93). -/
def ReceiptsFollow (gone joined : List OwedItem) (s t : State) : Prop :=
  let a := (gone.filter s.receiptPlaced).foldl (fun a i => Arbiter.without i.entry a) s.arbiter
  let owed := (s.messages.owed.filter fun i => i ∉ gone) ++ joined
  let stage := fun i => if i ∈ gone then none else if i ∈ joined then some OwedStage.owed else s.owedStage i
  t.messages.owed = owed
    ∧ ∃ new, t.arbiter = { a with queue := a.queue ++ new }
      ∧ (∀ e ∈ new, ∃ i ∈ owed, stage i = some .owed ∧ e = i.entry)
      ∧ (owed.Nodup → new <+: (owed.filter fun i => stage i = some .owed).map OwedItem.entry)
      ∧ (∀ i, t.owedStage i = if i.entry ∈ new then some .queued else stage i)
      ∧ (¬ t.ReceiptHeldBack ∨ ReceiptsFull t.arbiter.queue)

/-- Of the Message Store only the message list, the owed order and the refusal-owed record's stage differ. -/
def ReceiptsOnly (s t : State) : Prop :=
  t.messages = { s.messages with
      list := t.messages.list, owed := t.messages.owed, refusal := t.messages.refusal }
    ∧ t.messages.refusal.map (fun r => (r.id, r.replaced)) = s.messages.refusal.map fun r => (r.id, r.replaced)

/-- An AWARD repeats one that this cab has taken (R73). -/
def State.AwardRepeats (s : State) (id : Nat) : Prop :=
  (∃ e ∈ s.offers.entries, e.id = id ∧ (e.state = .awarded ∨ e.state = .done))
    ∨ s.meter.state = .assigned ∧ s.meter.jobId = some id
    ∨ (s.meter.state = .hired ∨ s.meter.state = .total) ∧ ∃ x, s.meter.trip = some x ∧ x.jobId = some id

/-! ## Conditions that steps keep -/

/-- The routine queue's bounds (R140). -/
def State.queueBounded (s : State) : Bool :=
  let q := s.arbiter.queue
  classCount q 1 ≤ 2 && classCount q 2 ≤ 1 && sharedCount q ≤ Config.sharedPlaces
    && (q.filter Entry.isBid).length ≤ 1 && (q.filter fun e => e = .status).length ≤ 1

/-- An entry that is in BID or AWARDED. -/
def OfferEntry.engaged (e : OfferEntry) : Bool := e.state = .bid || e.state = .awarded

/-- The Offer Table's bounds (R58). -/
def State.tableBounded (s : State) : Bool :=
  let es := s.offers.entries
  es.length ≤ Config.offerSize && decide (es.map OfferEntry.id).Nodup && (es.filter OfferEntry.engaged).length ≤ 1

/-- The bid record and the entry in BID belong together (R58, R69, R77): an entry in BID has an unmarked or
expiry-pending record of its id, and every other record waits for its frame with *cancel on done*. -/
def State.bidMatched (s : State) : Bool :=
  (s.offers.entries.all fun e =>
      e.state ≠ .bid || s.offers.bid.any fun b => b.offer = e.id && b.mark ≠ .cancelOnDone)
    && s.offers.bid.all fun b =>
      if b.mark = .cancelOnDone then b.stage = .inFlight && !s.anyEntry .bid
      else s.offers.entries.any fun e => e.id = b.offer && e.state = .bid

/-- The cancel list's bounds (R58, R76). -/
def State.cancelsBounded (s : State) : Bool :=
  s.offers.cancels.length ≤ Config.cancelSize && decide (s.offers.cancels.map Cancel.offer).Nodup

/-- The Message Store's bounds, and the owed order of its marks and of the refusal-owed record (R83, R85). -/
def State.messagesMatched (s : State) : Bool :=
  let ms := s.messages.list
  ms.length ≤ Config.messageSize && decide (poolUsed ms ≤ Config.poolSize) && decide (ms.map Message.id).Nodup
    && decide s.messages.owed.Nodup && (s.messages.owed.all fun i => (s.owedStage i).isSome)
    && (ms.all fun m => m.mark.isNone || s.messages.owed.contains (.message m.id))
    && (s.messages.refusal.isNone || s.messages.owed.contains .refusal)

/-- What belongs to each meter state (R2, R12): the job id in ASSIGNED alone, the trip context in HIRED and TOTAL
alone, the gate by its causes. A retained domain that has powered up holds still, its check marked failed and its
contents lost (R191), so the condition says nothing of its meter. -/
def State.meterShape (s : State) : Bool :=
  if s.monitor.holding then !s.monitor.supplyUp
  else
    match s.meter.state with
    | .off | .vacant => s.meter.jobId.isNone && s.meter.trip.isNone
    | .assigned => s.meter.jobId.isSome && s.meter.trip.isNone
    | .hired =>
      s.meter.jobId.isNone
        && s.meter.trip.any fun t => t.gateOpen == (!s.meter.hold && s.condition ≠ .shed)
    | .total => s.meter.jobId.isNone && s.meter.trip.any fun t => !t.gateOpen && t.endClock.isSome

/-- Conservation for the current shift, while trips ended has not passed its limit (R56). -/
def State.balanced (s : State) : Bool :=
  let t := s.store.totals
  t.ended ≥ Config.countMax
    || t.ended == t.ackCount + t.foldedCount + (s.store.records.filter fun r => r.shift = t.shift).length

/-- At most sixteen records, and the record the sender serves is the oldest (R42, 3.3). -/
def State.storeInOrder (s : State) : Bool :=
  s.store.records.length ≤ Config.storeSize
    && s.store.sender.served.all fun n => s.store.records.head?.any fun r => r.trip = n

end Sys2Proof.Machine
end

