-- ==== Sys2Proof/Certificates/Slice0/Obligations.lean ====
section
/-! DEFINITION. The statements for the provers. Each names the rule of spec/ it is read from; OBLIGATIONS.json lists
them. -/

open Sys2Proof Sys2Proof.Machine

/-! ## The step -/

/-- The front command is carried out with the queue's rest, and an empty queue idles (log 1). -/
def Obligations.StepRunsFrontCommand : Prop :=
  (∀ (s : State) (c : Instr) (rest : List Instr), s.pending = c :: rest → step s = exec c (s.withPending rest))
    ∧ ∀ s : State, s.pending = [] → step s = .next s

/-- No command stops the part, and after each the output lines follow: R177 for ATTN and ALERT, R146 and R148 for TX_REQ, R150
and R154 for TX_ABORT, R21 and R191 for ROOF. R191: each change of the
retained state updates the check in the same step, by its difference (log 10), and a main reset whose test fails forms it
afresh. -/
def Obligations.EveryCommandCompletes : Prop :=
  (∀ (c : Instr) (s : State), ∃ t, exec c s = .next t ∧ t.pending = s.pending ∧ t.pins = t.levels)
    ∧ (∀ (c : Instr) (s t : State), exec c s = .next t →
         (t.pins.attn = true ↔ t.monitor.supplyUp = true ∧ ∃ e : EventKind,
           t.flagged e = true ∧ t.events.enables.getLsbD e.index = true ∧ t.events.lines.getLsbD e.index = false)
         ∧ (t.pins.alert = true ↔ t.monitor.supplyUp = true ∧ ∃ e : EventKind,
           t.flagged e = true ∧ t.events.enables.getLsbD e.index = true ∧ t.events.lines.getLsbD e.index = true))
    ∧ (∀ (c : Instr) (s t : State), exec c s = .next t →
         t.check ^^^ t.givenCheck = s.check ^^^ s.givenCheck
           ∨ s.checkFails = true ∧ (c = .supplyReturn ∨ ∃ level, c = .mainReset level) ∧ t.check = t.givenCheck)
    ∧ (∀ (c : Instr) (s t : State), exec c s = .next t →
         t.pins.txReq = t.arbiter.inFlight.isSome
           ∧ (t.monitor.supplyUp = true → t.pins.txAbort = t.arbiter.settle.isSome)
           ∧ (t.monitor.holding = true → t.pins.roof = false)
           ∧ (t.monitor.holding = false →
               (t.roof = .steady → t.pins.roof = decide (t.meter.state = .vacant))
               ∧ ∀ on n, t.roof = .blinking on n → t.pins.roof = on))

/-- R190. A main domain that is unpowered or held in reset takes nothing and changes in nothing, until a reset. -/
def Obligations.HeldMainDomainKeeps : Prop :=
  ∀ (c : Instr) (s t : State), s.mainRuns = false → exec c s = .next t →
    c ≠ .shedEntry → c ≠ .supplyReturn → c ≠ .powerUp → c ≠ .mainReset true →
    OnlyChanges [.time, .pulses, .meter, .seat, .roof, .store, .emergency, .monitor, .check, .pins] s t

/-! ## Requests that are refused, and readings -/

/-- R3: a meter request in a state that does not permit it, whatever its payload. R172, R197: any other request whose payload
does not hold the fields of its kind, whatever its owner holds (that this check comes before the owner's other checks is log
23; a code of 0 in MSG_ANSWER, log 24). -/
def Obligations.UnfitRequestsRefused : Prop :=
  (∀ (s : State) (c : Instr) (k : Nat) (tag : Byte) (payload : List Byte),
     s.mainRuns = true → requestParts c = some (k, tag, payload) →
     (∀ states, (k, states) ∈ meterPermits → s.meter.state ∈ states) →
     (k ∈ [0x80, 0x81, 0x87, 0x89, 0x8B, 0x8C, 0x8D, 0x8E, 0x90, 0x91, 0x97, 0x99, 0x9A, 0x9F] ∧ payload ≠ []
       ∨ k ∈ [0x8A, 0x8F, 0x92] ∧ payload.length ≠ 1
       ∨ k ∈ [0x84, 0x85, 0x86, 0x88, 0x93, 0x94] ∧ payload.length ≠ 2
       ∨ k = 0x82 ∧ (payload.length ≠ 3 ∨ 2 ^ 18 ≤ beNat payload)
       ∨ k = 0x83 ∧ (payload.length ≠ 18 ∨ ∃ b ∈ payload, 4 ≤ b.toNat)
       ∨ k = 0x95 ∧ (payload.length ≠ 3 ∨ byteAt payload 2 = 0)
       ∨ k = 0x96 ∧ (payload.length < 2 ∨ payload.length ≠ 2 + byteAt payload 1
           ∨ byteAt payload 0 = 0 ∧ (byteAt payload 1 = 0 ∨ 64 < byteAt payload 1)
           ∨ byteAt payload 0 ≠ 0 ∧ byteAt payload 1 ≠ 0)
       ∨ k = 0x98 ∧ (payload = [] ∨ 199 < payload.length)
       ∨ k = 0x9B ∧ (payload.length ≠ 5 ∨ byteAt payload 0 = 0 ∨ 5 < byteAt payload 0
           ∨ beNat (slice payload 1 2) = 0 ∨ beNat (slice payload 3 2) = 0 ∨ 4096 < beNat (slice payload 3 2))
       ∨ k = 0x9C ∧ (payload.length < 6 ∨ byteAt payload 0 = 0 ∨ 5 < byteAt payload 0
           ∨ beNat (slice payload 1 2) = 0 ∨ 4095 < beNat (slice payload 3 2))
       ∨ k = 0x9D ∧ (payload.length ≠ 5 ∨ byteAt payload 0 = 0 ∨ 5 < byteAt payload 0
           ∨ beNat (slice payload 1 2) = 0)
       ∨ k = 0x9E ∧ (payload.length ≠ 3 ∨ byteAt payload 0 = 0 ∨ 5 < byteAt payload 0
           ∨ beNat (slice payload 1 2) = 0)) →
     ∃ t, exec c s = .next t
       ∧ OnlyReplied s t { kind := BitVec.ofNat 8 k, tag, code := .refusedRange, payload := [] })
    ∧ ∀ (s : State) (c : Instr) (k : Nat) (tag : Byte) (payload : List Byte) (states : List MeterState),
        s.mainRuns = true → requestParts c = some (k, tag, payload) →
        (k, states) ∈ meterPermits → s.meter.state ∉ states →
        ∃ t, exec c s = .next t
          ∧ OnlyReplied s t { kind := BitVec.ofNat 8 k, tag, code := .refusedState, payload := [] }

/-- R18, R57, R80, R97, R174, R179, R183: READ_STATUS, READ_NOTICES, READ_METER and READ_FAULT; READ_OFFERS, READ_MESSAGE and
READ_STORE by id or position; and the fields each reply carries, one by one (R113: under SILENT the emergency is hidden), with
the codes of R195 to R197. How the fields of each reply are laid out as bytes is in part the model's reading (log 17; the
fields of READ_NOTICES log 18; what SILENT shows log 19). -/
def Obligations.ReadingsAnswer : Prop :=
  (∀ (s : State) (tag : Byte), s.mainRuns = true →
     (∃ t, exec (.readStatus tag []) s = .next t
       ∧ OnlyReplied s t { kind := 0x80#8, tag, code := .ok, payload := s.statusFields })
     ∧ (∃ t, exec (.readNotices tag []) s = .next t
       ∧ OnlyReplied s t { kind := 0x81#8, tag, code := .ok, payload := s.noticeFields })
     ∧ (∃ t, exec (.readMeter tag []) s = .next t
       ∧ OnlyReplied s t { kind := 0x89#8, tag, code := .ok, payload := s.meterFields })
     ∧ ∃ t, exec (.readFault tag []) s = .next t
       ∧ OnlyReplied s t { kind := 0x99#8, tag, code := .ok, payload := s.faultFields })
    ∧ (∀ (s : State) (tag a b : Byte), s.mainRuns = true →
         (∃ t, exec (.readOffers tag [a, b]) s = .next t
           ∧ (if a = 0#8 ∧ b = 0#8 then
               OnlyReplied s t { kind := 0x84#8, tag, code := .ok, payload := s.offerSummary }
             else
               (∀ e, s.entry (beNat [a, b]) = some e →
                 OnlyReplied s t { kind := 0x84#8, tag, code := .ok, payload := s.offerFields e })
               ∧ (s.entry (beNat [a, b]) = none →
                 OnlyReplied s t { kind := 0x84#8, tag, code := .notFound, payload := [] })))
         ∧ (∃ t, exec (.readMessage tag [a, b]) s = .next t
           ∧ (if a = 0#8 ∧ b = 0#8 then
               OnlyReplied s t { kind := 0x93#8, tag, code := .ok, payload := s.messageSummary }
             else
               (∀ m, s.storedMessage (beNat [a, b]) = some m →
                 OnlyReplied s t { kind := 0x93#8, tag, code := .ok, payload := m.fields })
               ∧ (s.storedMessage (beNat [a, b]) = none →
                 OnlyReplied s t { kind := 0x93#8, tag, code := .notFound, payload := [] })))
         ∧ ∃ t, exec (.readStore tag [a]) s = .next t
           ∧ (a = 0#8 → OnlyReplied s t { kind := 0x92#8, tag, code := .ok, payload := s.storeFields })
           ∧ (∀ n r, a.toNat = n + 1 → n < 16 → s.store.records[n]? = some r →
               OnlyReplied s t { kind := 0x92#8, tag, code := .ok, payload := r.shown s.settings.visible })
           ∧ (∀ n, a.toNat = n + 1 → n < 16 → s.store.records.length ≤ n →
               OnlyReplied s t { kind := 0x92#8, tag, code := .notFound, payload := [] })
           ∧ (16 < a.toNat → OnlyReplied s t { kind := 0x92#8, tag, code := .refusedRange, payload := [] }))
    ∧ (∀ (s : State) (id : Nat),
         (∀ as e bs, s.offers.entries = as ++ e :: bs → e.id = id → (∀ x ∈ as, x.id ≠ id) → s.entry id = some e)
         ∧ ((∀ e ∈ s.offers.entries, e.id ≠ id) → s.entry id = none)
         ∧ (∀ as m bs, s.messages.list = as ++ m :: bs → m.id = id → (∀ x ∈ as, x.id ≠ id) → s.storedMessage id = some m)
         ∧ ((∀ m ∈ s.messages.list, m.id ≠ id) → s.storedMessage id = none))
    ∧ (∀ (s : State) (r : TripRecord),
         s.meterFields = u8 s.meter.state.code
             ++ (match s.meter.state, s.meter.jobId, s.meter.trip with
                 | .assigned, some j, _ => u16 j
                 | .assigned, none, _ => [0#8, 0#8]
                 | .hired, _, some x => s.tripBytes x []
                 | .total, _, some x =>
                   s.tripBytes x (match x.endClock with
                                  | none => []
                                  | some c => u8 c.day ++ u24 c.second)
                 | _, _, _ => [])
             ++ u16 s.meter.lastTrip ++ u16 s.store.totals.shift
         ∧ s.storeFields =
             u16 s.shiftReport.shift ++ u16 s.shiftReport.ended ++ shiftSum s.shiftReport.fareSum
               ++ shiftSum s.shiftReport.extrasSum ++ u32 s.shiftReport.hiredMetres ++ u32 s.shiftReport.totalMetres
               ++ u16 s.shiftReport.ackCount ++ shiftSum s.shiftReport.ackSum ++ u16 s.shiftReport.foldedCount
               ++ shiftSum s.shiftReport.foldedSum ++ u16 s.shiftReport.earlierCount ++ shiftSum s.shiftReport.earlierSum
               ++ u16 s.shiftReport.storedCount ++ shiftSum s.shiftReport.storedSum
               ++ u8 s.store.records.length
               ++ (match s.store.sender with
                   | .idle => [0#8, 0#8, 0#8]
                   | .queued n => [1#8] ++ u16 n
                   | .sent n _ => [2#8] ++ u16 n)
               ++ (match s.store.pendingReport with
                   | none => [0#8]
                   | some p => [1#8] ++ u16 p.shift)
         ∧ (∀ visible, r.shown visible =
             u16 r.trip ++ u16 r.shift ++ u16 (r.jobId.getD 0) ++ u8 r.band ++ u16 r.version
               ++ u8 r.startClock.day ++ u24 r.startClock.second ++ u8 r.endClock.day ++ u24 r.endClock.second
               ++ u32 r.distance ++ u32 r.gatedDistance ++ amount r.fare ++ amount r.extrasTotal ++ amount r.total
               ++ flagByte [r.flags.fareCapped, r.flags.timeUnknown, r.flags.holdUsed,
                   visible && r.flags.emergencyDuring, r.flags.distOverrate]))
    ∧ (∀ (s : State) (e : OfferEntry),
         (∀ known, (known = true ↔ ∃ z, s.offers.zone = some z ∧ s.HoldsZone z) →
           s.offerSummary =
             u16 (s.offers.zone.getD 0) ++ flag known ++ u8 s.offers.run.code ++ u8 s.offers.cancels.length
               ++ u8 s.offers.entries.length
               ++ (s.offers.entries.map fun e =>
                   u16 e.id ++ u8 e.addressing.code ++ u16 (e.zone.getD 0) ++ u8 e.rank ++ u8 e.state.code
                     ++ u8 e.lifetime ++ present (e.waiting.map u8) ++ present (e.estimate.map amount)
                     ++ flag e.account).flatten)
         ∧ s.offerFields e =
             u16 e.id ++ u8 e.addressing.code ++ u16 (e.zone.getD 0) ++ u8 e.rank ++ u8 e.lifetime ++ u8 e.awardWait
               ++ present (e.waiting.map u8) ++ u8 e.text.length ++ e.text ++ present (e.estimate.map amount)
               ++ flag e.account ++ u16 e.arrival ++ u8 e.state.code
               ++ (match e.state, s.offers.bid with
                   | .bid, some b => if b.offer = e.id then u8 b.stage.code else []
                   | _, _ => []))
    ∧ (∀ (s : State) (m : Message),
         s.messageSummary =
             u8 s.messages.list.length ++ u16 (s.messages.list.map fun m => m.text.length).sum ++ u8 s.messages.removals
               ++ u8 s.messages.outstanding ++ u8 s.messages.delivered
               ++ present (s.messages.refusal.map fun r => u16 r.id ++ u8 r.stage.code)
               ++ u8 s.messages.list.length
               ++ (s.messages.list.map fun m =>
                   u16 m.id ++ flag m.urgent ++ u8 m.state.code ++ flag m.wanted ++ u8 m.text.length
                     ++ u8 m.options.length ++ present (m.answer.map u8)
                     ++ present (m.mark.map fun k => u8 k.kind.code ++ u8 k.kind.answerCode ++ u8 k.stage.code)).flatten
         ∧ m.fields =
             u16 m.id ++ flag m.urgent ++ flag m.wanted ++ u8 m.options.length ++ (m.options.map u8).flatten
               ++ u8 m.text.length ++ m.text ++ u8 m.state.code ++ present (m.answer.map u8)
               ++ present (m.mark.map fun k =>
                   u8 k.kind.code ++ u8 k.kind.answerCode ++ u8 k.stage.code
                     ++ present (k.next.map fun n => u8 n.code ++ u8 n.answerCode))
               ++ present (m.lastSent.map fun n => u8 n.code ++ u8 n.answerCode))
    ∧ (∀ s : State,
         s.statusFields =
           u8 s.link.state.code ++ present (s.link.cycle.map fun c => u8 c.number ++ flag c.quiet)
             ++ u8 s.link.allowance ++ u8 s.link.run.code ++ u16 s.link.crcErrors
             ++ u8 (classCount s.arbiter.queue 1) ++ u8 (classCount s.arbiter.queue 2) ++ u8 (classCount s.arbiter.queue 3)
             ++ u8 (classCount s.arbiter.queue 4) ++ u8 (classCount s.arbiter.queue 5)
             ++ (if s.settings.visible then flag s.arbiter.slot else [0#8])
             ++ (match s.arbiter.inFlight with
                 | none => [0#8]
                 | some f => if f.kind = 0x49 ∧ s.settings.visible = false then [0#8] else u8 f.kind)
             ++ (match s.loader.context with
                 | none => [0#8]
                 | some c => [1#8] ++ u8 c.port.code ++ u8 c.table.code ++ u16 c.generation ++ u16 c.length
                     ++ u16 c.buffer.length)
             ++ present (s.loader.lastTerminal.map fun r =>
                 u8 r.table.code ++ u16 r.generation ++ u8 r.result.code ++ u8 (r.reason.elim 0 Reason.code) ++ u16 r.detail)
             ++ u16 ((s.tariff.map Tariff.version).getD 0) ++ u16 s.identity.cab ++ u8 s.identity.fleet ++ u16 s.identity.k
             ++ u8 s.settings.reach ++ u8 s.settings.awardWait ++ u8 s.settings.linkLoss ++ u8 s.settings.ackWait
             ++ u8 s.settings.hold ++ u8 s.settings.activeInterval ++ u8 s.settings.ackedInterval
             ++ flag s.settings.visible ++ flag s.settings.roofPattern ++ u8 s.settings.seatTime
             ++ flag s.settings.stopAir ++ flag s.settings.stopOffers
             ++ u8 s.addresses.length ++ u8 s.zones.length
             ++ (if s.settings.visible then
                   u8 s.emergency.state.code
                     ++ present (s.emergency.activation.map fun a => u8 a.clock.day ++ u24 a.clock.second ++ flag a.known)
                     ++ u16 s.emergency.elapsed ++ u8 s.emergency.reports ++ flag s.emergency.owed
                 else [0#8, 0#8, 0#8, 0#8, 0#8, 0#8])
             ++ u8 s.meter.state.code ++ u8 s.condition.code
             ++ u8 s.terminal.pass.length ++ u8 s.terminal.overruns
             ++ u8 s.terminal.upCounter ++ u8 s.terminal.upOutstanding ++ u8 s.terminal.upDelivered
             ++ u8 s.terminal.upDisplaced ++ flag s.fault.isSome)
    ∧ (∀ s : State,
         (∃ flags setup attn alert, s.noticeFields =
             flags ++ setup ++ flag attn ++ flag alert
               ++ u8 ((List.range 18).filter fun i => s.events.flags.getLsbD i).length
               ++ flag s.fault.isSome ++ u8 s.terminal.pass.length ++ u8 s.meter.state.code
           ∧ flags.length = 18 ∧ setup.length = 18
           ∧ (∀ e : EventKind, flags[e.index]? = some (if s.flagged e then 1#8 else 0#8)
               ∧ ∃ b, setup[e.index]? = some b ∧ b.toNat < 4 ∧ b.getLsbD 0 = s.events.enables.getLsbD e.index
                   ∧ b.getLsbD 1 = s.events.lines.getLsbD e.index)
           ∧ (attn = true ↔ ∃ e : EventKind,
               s.flagged e = true ∧ s.events.enables.getLsbD e.index = true ∧ s.events.lines.getLsbD e.index = false)
           ∧ (alert = true ↔ ∃ e : EventKind,
               s.flagged e = true ∧ s.events.enables.getLsbD e.index = true ∧ s.events.lines.getLsbD e.index = true))
         ∧ s.faultFields =
             (match s.fault with
              | none => [0#8]
              | some r => [1#8] ++ u8 r.kind.code ++ u8 r.port.code ++ u8 r.kindByte ++ u16 r.detail ++ u8 r.clock.day
                  ++ u24 r.clock.second ++ flag r.known ++ u8 r.further ++ flag r.higher))
    ∧ ([MeterState.off, .vacant, .assigned, .hired, .total].map MeterState.code = [0, 1, 2, 3, 4]
       ∧ [LinkState.search, .synced, .lost].map LinkState.code = [0, 1, 2]
       ∧ [Condition.driving, .parked].map Condition.code = [0, 1]
       ∧ [EmergencyState.clear, .pressing, .active, .acked].map EmergencyState.code = [0, 1, 2, 3]
       ∧ [RunState.running, .stopping, .stopped].map RunState.code = [0, 1, 2]
       ∧ [Addressing.direct, .zone].map Addressing.code = [0, 1]
       ∧ [OfferState.shown, .bid, .awarded, .lost, .expired, .withdrawn, .lapsed, .declined, .done].map OfferState.code
           = List.range 9
       ∧ [BidStage.queued, .inFlight, .sent].map BidStage.code = [0, 1, 2]
       ∧ [OwedStage.owed, .queued, .inFlight].map OwedStage.code = [0, 1, 2]
       ∧ [MessageState.unread, .read, .answered].map MessageState.code = [0, 1, 2]
       ∧ (∀ c, [ReceiptKind.delivered, .read, .answer c].map (fun k => (k.code, k.answerCode)) = [(1, 0), (2, 0), (3, c)])
       ∧ [LoadPort.air, .terminal].map LoadPort.code = [0, 1]
       ∧ [ResultCode.ok, .authority, .busy, .abortedByNew, .gap, .overlength, .short, .badCheck, .rejected, .aborted,
           .timeout].map ResultCode.code = List.range 11
       ∧ [Reason.badAddress, .badZone, .badTariff, .badSettings, .badIdentity, .meterBusy].map Reason.code = [1, 2, 3, 4, 5, 6]
       ∧ [FaultKind.retainedLost, .distOverrate, .modemTimeout, .modemProtocol, .airMalformed, .terminalMalformed].map
           FaultKind.code = [0, 1, 2, 3, 4, 5]
       ∧ [FaultPort.air, .terminal, .none].map FaultPort.code = [0, 1, 2]
       ∧ (∀ r : LoadResult,
           r.bytes = u8 r.table.code ++ u16 r.generation ++ u8 r.result.code ++ u8 (r.reason.elim 0 Reason.code) ++ u16 r.detail)
       ∧ (∀ r : ShiftReport,
           r.bytes =
             u16 r.shift ++ u16 r.ended ++ shiftSum r.fareSum ++ shiftSum r.extrasSum ++ u32 r.hiredMetres
               ++ u32 r.totalMetres ++ u16 r.ackCount ++ shiftSum r.ackSum ++ u16 r.foldedCount ++ shiftSum r.foldedSum
               ++ u16 r.earlierCount ++ shiftSum r.earlierSum ++ u16 r.storedCount ++ shiftSum r.storedSum)
       ∧ [EventKind.offerNew, .offerClosed, .jobAwarded, .jobWithdrawn, .msgNew, .msgUrgent, .msgRecalled, .totalAcked,
           .totalBacklog, .storeFolded, .linkState, .tableResult, .seatCheck, .fault, .passReady, .passOverrun, .condition,
           .emergency].map EventKind.index = List.range 18)

/-- R113. Under SILENT the replies to READ_STATUS, READ_METER and READ_STORE do not depend on the emergency: not on the
unit's state, the slot, a report in flight, nor the EMERGENCY_DURING flags. That they show the figures of CLEAR in its place
is the model's reading (log 19). -/
def Obligations.SilentRepliesHideEmergency : Prop :=
  ∀ (s u t t' : State) (c : Instr) (tag p : Byte),
    s.settings.visible = false → s.mainRuns = true →
    (c = .readStatus tag [] ∨ c = .readMeter tag [] ∨ c = .readStore tag [p]) →
    OnlyChanges [.emergency, .arbiter, .meter, .store, .check] s u →
    u.arbiter.queue = s.arbiter.queue →
    (u.arbiter.inFlight = s.arbiter.inFlight
      ∨ (s.arbiter.inFlight.all fun f => f.kind = 0x49) ∧ (u.arbiter.inFlight.all fun f => f.kind = 0x49)) →
    (∃ b, u.meter = { s.meter with
      trip := s.meter.trip.map fun x => { x with flags := { x.flags with emergencyDuring := b } } }) →
    (∃ g : TripRecord → Bool, u.store = { s.store with
      records := s.store.records.map fun r => { r with flags := { r.flags with emergencyDuring := g r } } }) →
    exec c s = .next t → exec c u = .next t' → t'.terminal = t.terminal

/-! ## Notices and fault capture -/

/-- R178. CLEAR_EVENTS and NOTICE_SETUP. -/
def Obligations.NoticeRequestsTaken : Prop :=
  (∀ (s : State) (tag : Byte) (payload : List Byte), s.mainRuns = true →
     ∃ t, exec (.clearEvents tag payload) s = .next t
       ∧ (payload.length = 3 ∧ beNat payload < 2 ^ 18 →
           Answered [.events] s t { kind := 0x82#8, tag, code := .ok, payload := [] }
           ∧ (∀ e, t.flagged e = (s.flagged e && !(beNat payload).testBit e.index))
           ∧ t.events.enables = s.events.enables ∧ t.events.lines = s.events.lines)
       ∧ (payload.length ≠ 3 ∨ 2 ^ 18 ≤ beNat payload →
           OnlyReplied s t { kind := 0x82#8, tag, code := .refusedRange, payload := [] }))
    ∧ (∀ (s : State) (tag : Byte) (payload : List Byte), s.mainRuns = true →
         ∃ t, exec (.noticeSetup tag payload) s = .next t
           ∧ (payload.length = 18 ∧ (∀ b ∈ payload, b.toNat < 4) →
               Answered [.events] s t { kind := 0x83#8, tag, code := .ok, payload := [] }
               ∧ t.events.flags = s.events.flags
               ∧ ∀ e : EventKind,
                   t.events.enables.getLsbD e.index = (payload.getD e.index 0).getLsbD 0
                   ∧ t.events.lines.getLsbD e.index = (payload.getD e.index 0).getLsbD 1)
           ∧ (payload.length ≠ 18 ∨ (∃ b ∈ payload, 4 ≤ b.toNat) →
               OnlyReplied s t { kind := 0x83#8, tag, code := .refusedRange, payload := [] }))

/-- R183, RELEASE_FAULT, and R172, LOCAL_FRAME_MALFORMED. -/
def Obligations.FaultsOfferedAndReleased : Prop :=
  (∀ (s : State) (tag : Byte), s.mainRuns = true → ∃ t, exec (.releaseFault tag []) s = .next t ∧ t.fault = none
      ∧ Answered [.fault] s t { kind := 0x9A#8, tag, code := .ok, payload := [] })
    ∧ ∀ (s : State) (bytes : List Byte), s.mainRuns = true → bytes ≠ [] →
      (bytes.length < 5 ∨ crc16 bytes ≠ 0#16 →
        ∃ t, exec (.localFrameMalformed bytes) s = .next t ∧ OnlyChanges [.fault, .events, .pins] s t
          ∧ FaultOffered .terminalMalformed .terminal (byteAt bytes 0) 1 s t)
      ∧ (5 ≤ bytes.length ∧ crc16 bytes = 0#16 ∧ bytes.length ≠ 5 + byteAt bytes 2 →
        ∃ t, exec (.localFrameMalformed bytes) s = .next t ∧ OnlyChanges [.fault, .events, .pins] s t
          ∧ FaultOffered .terminalMalformed .terminal (byteAt bytes 0) 2 s t)
      ∧ (5 ≤ bytes.length ∧ crc16 bytes = 0#16 ∧ bytes.length = 5 + byteAt bytes 2
          ∧ (byteAt bytes 0 < 0x80 ∨ 0x9F < byteAt bytes 0) →
        ∃ t, exec (.localFrameMalformed bytes) s = .next t
          ∧ Answered [.fault, .events] s t
              { kind := bytes.getD 0 0, tag := bytes.getD 1 0, code := .unknownKind, payload := [] }
          ∧ FaultOffered .terminalMalformed .terminal (byteAt bytes 0) 3 s t)

/-! ## Offers -/

/-- R68. ACCEPT: the five checks in their order, and an ACCEPT that passes them. -/
def Obligations.AcceptChecksAndBids : Prop :=
  (∀ (s : State) (tag a b : Byte), s.mainRuns = true →
     ∃ t, exec (.accept tag [a, b]) s = .next t
       ∧ (s.entry (beNat [a, b]) = none →
           OnlyReplied s t { kind := 0x85#8, tag, code := .notFound, payload := [] })
       ∧ ∀ e, s.entry (beNat [a, b]) = some e →
         (s.meter.state ≠ .vacant →
           OnlyReplied s t { kind := 0x85#8, tag, code := .refusedState, payload := [] })
         ∧ (s.meter.state = .vacant → BidElsewhere s (beNat [a, b]) →
           OnlyReplied s t { kind := 0x85#8, tag, code := .refusedBusy, payload := [] })
         ∧ (s.meter.state = .vacant → ¬ BidElsewhere s (beNat [a, b]) → e.state ≠ .shown →
           OnlyReplied s t { kind := 0x85#8, tag, code := .refusedState, payload := [] })
         ∧ (s.meter.state = .vacant → ¬ BidElsewhere s (beNat [a, b]) → e.state = .shown → ¬ BidPlace s →
           OnlyReplied s t { kind := 0x85#8, tag, code := .refusedFull, payload := [] }))
    ∧ (∀ (s : State) (tag a b : Byte) (as bs : List OfferEntry) (e : OfferEntry), s.mainRuns = true →
         s.tableBounded = true → s.offers.entries = as ++ e :: bs → e.id = beNat [a, b] → e.state = .shown →
         s.meter.state = .vacant → ¬ BidElsewhere s e.id → BidPlace s →
         ∃ t, exec (.accept tag [a, b]) s = .next t
           ∧ Answered [.offers, .arbiter] s t { kind := 0x85#8, tag, code := .ok, payload := [] }
           ∧ t.offers = { s.offers with
               entries := as ++ { e with state := .bid } :: bs
               bid := some { offer := e.id, stage := .queued, mark := .none } }
           ∧ t.arbiter = { s.arbiter with queue := s.arbiter.queue ++ [.bid e.id] })

/-- R79: DISMISS. R61: POSITION. -/
def Obligations.DismissAndPositionTaken : Prop :=
  (∀ (s : State) (tag a b : Byte), s.mainRuns = true →
     ∃ t, exec (.dismiss tag [a, b]) s = .next t
       ∧ (s.entry (beNat [a, b]) = none →
           OnlyReplied s t { kind := 0x86#8, tag, code := .notFound, payload := [] })
       ∧ ∀ e, s.entry (beNat [a, b]) = some e →
         (e.state = .bid ∨ e.state = .awarded →
           OnlyReplied s t { kind := 0x86#8, tag, code := .refusedState, payload := [] })
         ∧ (e.state ≠ .bid → e.state ≠ .awarded →
           Answered [.offers] s t { kind := 0x86#8, tag, code := .ok, payload := [] }
           ∧ t.offers = { s.offers with entries := t.offers.entries }
           ∧ t.entry (beNat [a, b]) = none
           ∧ (s.tableBounded = true → t.offers.entries = s.offers.entries.erase e)))
    ∧ (∀ (s : State) (tag a b : Byte), s.mainRuns = true →
         ∃ t, exec (.position tag [a, b]) s = .next t
           ∧ (999 < beNat [a, b] → OnlyReplied s t { kind := 0x88#8, tag, code := .refusedRange, payload := [] })
           ∧ (beNat [a, b] = 0 →
               Answered [.offers] s t { kind := 0x88#8, tag, code := .ok, payload := [0#8] }
               ∧ t.offers = { s.offers with zone := none })
           ∧ (1 ≤ beNat [a, b] → beNat [a, b] ≤ 999 →
               t.offers = { s.offers with zone := some (beNat [a, b]) }
               ∧ (s.HoldsZone (beNat [a, b]) →
                   Answered [.offers] s t { kind := 0x88#8, tag, code := .ok, payload := [1#8] })
               ∧ (¬ s.HoldsZone (beNat [a, b]) →
                   Answered [.offers] s t { kind := 0x88#8, tag, code := .ok, payload := [0#8] })))

/-- R62: the rank of an arriving offer, by the current zone's neighbour list alone. R76: what becomes of the cancel list when
a cancel becomes owed. -/
def Obligations.RanksAndCancelList : Prop :=
  (∀ s : State, (s.zones.map Zone.number).Nodup →
     s.rank none = 0
     ∧ ∀ z, (s.offers.zone = some z → s.rank (some z) = 0)
       ∧ (s.offers.zone ≠ some z →
           (∃ c r, s.offers.zone = some c ∧ r ∈ s.zones ∧ r.number = c ∧ z ∈ r.neighbours) → s.rank (some z) = 1)
       ∧ (s.offers.zone ≠ some z →
           (¬ ∃ c r, s.offers.zone = some c ∧ r ∈ s.zones ∧ r.number = c ∧ z ∈ r.neighbours) → s.rank (some z) = 2))
    ∧ (∀ (cs : List Cancel) (c : Cancel),
         ((∃ x ∈ cs, x.offer = c.offer) → oweInto cs c = cs)
         ∧ ((∀ x ∈ cs, x.offer ≠ c.offer) →
             (cs.length < 4 → oweInto cs c = cs ++ [c])
             ∧ (4 ≤ cs.length → ∀ as x bs, cs = as ++ x :: bs → x.stage = .owed → x.reason ≠ .driverCancel →
                 (∀ y ∈ as, y.stage ≠ .owed ∨ y.reason = .driverCancel) → oweInto cs c = as ++ bs ++ [c])
             ∧ (4 ≤ cs.length → (∀ y ∈ cs, y.stage ≠ .owed ∨ y.reason = .driverCancel) → oweInto cs c = cs))
         ∧ (cs.length ≤ 4 → (cs.map Cancel.offer).Nodup →
             (oweInto cs c).length ≤ 4 ∧ ((oweInto cs c).map Cancel.offer).Nodup))

/-- R63, R65, R66. An accepted OFFER that is no duplicate finds its place, or is discarded from a full table. R60: which states
of an entry are closed. -/
def Obligations.OfferFindsItsPlace : Prop :=
  (∀ st : OfferState, st.closed = false ↔ st = .shown ∨ st = .bid ∨ st = .awarded) ∧
  ∀ (s : State) (hdr : AirHeader) (payload : List Byte) (f : OfferFields) (new : OfferEntry),
    s.admits .offer hdr payload = true → parseOffer payload = .ok f → s.Accepts hdr →
    s.tableBounded = true → (∀ e ∈ s.offers.entries, e.id ≠ f.id) →
    new = { id := f.id, addressing := if hdr.mode = 2#8 then .zone else .direct
            zone := if hdr.mode = 2#8 then some hdr.addr.toNat else none
            rank := if hdr.mode = 2#8 then s.rank (some hdr.addr.toNat) else 0
            lifetime := f.lifetime, awardWait := s.settings.awardWait, waiting := none, text := f.text
            estimate := f.estimate, account := f.account, arrival := s.offers.arrivals, state := .shown } →
    ∃ t, exec (.offer hdr payload) s = .next t ∧ Routed [.offers, .events] s t
      ∧ (s.offers.entries.length < 8 →
          t.offers = { s.offers with
            entries := s.offers.entries ++ [new], arrivals := (s.offers.arrivals + 1) % 65536 }
          ∧ Raised [.offerNew] s t)
      ∧ (∀ as c bs, s.offers.entries.length = 8 → s.offers.entries = as ++ c :: bs →
          (∀ e ∈ as, e.state.closed = false) → c.state.closed = true →
          t.offers = { s.offers with entries := as ++ bs ++ [new], arrivals := (s.offers.arrivals + 1) % 65536 }
          ∧ Raised [.offerNew] s t)
      ∧ (∀ as c bs, s.offers.entries.length = 8 → s.offers.entries = as ++ c :: bs →
          (∀ e ∈ s.offers.entries, e.state.closed = false) → c.state = .shown → c.rank ≤ 2 →
          (∀ e ∈ as, e.state = .shown → e.rank < c.rank) →
          (∀ e ∈ bs, e.state = .shown → e.rank ≤ c.rank) →
          if new.rank < c.rank then
            t.offers = { s.offers with entries := as ++ bs ++ [new], arrivals := (s.offers.arrivals + 1) % 65536 }
            ∧ Raised [.offerClosed, .offerNew] s t
          else t.offers = s.offers ∧ t.events = s.events)

/-- R63, R64. An OFFER that fails acceptance is discarded; a duplicate refreshes an entry in SHOWN and does nothing to
any other (log 2: an entry whose lifetime has run out waits for its expiry and is not refreshed). -/
def Obligations.OfferDiscardedOrRefreshes : Prop :=
  ∀ (s : State) (hdr : AirHeader) (payload : List Byte) (f : OfferFields),
    s.admits .offer hdr payload = true → parseOffer payload = .ok f →
    ∃ t, exec (.offer hdr payload) s = .next t
      ∧ (¬ s.Accepts hdr → Routed [] s t)
      ∧ (s.Accepts hdr → s.tableBounded = true →
          ∀ as e bs, s.offers.entries = as ++ e :: bs → e.id = f.id →
            (e.state = .shown → 1 ≤ e.lifetime → Routed [.offers] s t ∧ t.offers = { s.offers with
              entries := as ++ { e with lifetime := f.lifetime, text := f.text } :: bs })
            ∧ (e.state ≠ .shown → Routed [] s t))

/-- R72, R6: an AWARD for the entry whose bid is SENT. R73: any other is a repeat, or owes a BID_CANCEL, which is placed where
class 1 has a place (R76). -/
def Obligations.AwardTakenOrAnswered : Prop :=
  (∀ (s : State) (hdr : AirHeader) (payload : List Byte) (as bs : List OfferEntry) (e : OfferEntry) (b : BidRecord),
     s.admits .award hdr payload = true → parseId payload = .ok e.id → s.tableBounded = true →
     s.offers.entries = as ++ e :: bs → e.state = .bid → s.offers.bid = some b → b.offer = e.id → b.stage = .sent →
     s.meter.state = .vacant →
     ∃ t, exec (.award hdr payload) s = .next t ∧ Routed [.offers, .meter, .events, .check] s t
       ∧ t.meter = { s.meter with state := .assigned, jobId := some e.id }
       ∧ t.offers = { s.offers with
           entries := as.map OfferEntry.lapse ++ { e with state := .awarded, waiting := none } ::
             bs.map OfferEntry.lapse
           bid := none
           run := if s.offers.run = .stopping then .stopped else s.offers.run }
       ∧ (∀ k, t.flagged k = (s.flagged k || k = .jobAwarded
           || k = .offerClosed && s.offers.entries.any fun x => x.state = .shown)))
    ∧ (∀ (s : State) (hdr : AirHeader) (payload : List Byte) (id : Nat),
         s.admits .award hdr payload = true → parseId payload = .ok id →
         ¬ ((∃ e ∈ s.offers.entries, e.id = id ∧ e.state = .bid)
             ∧ (∃ b, s.offers.bid = some b ∧ b.offer = id ∧ b.stage = .sent) ∧ s.meter.state = .vacant) →
         ∃ t, exec (.award hdr payload) s = .next t
           ∧ (s.AwardRepeats id → Routed [] s t)
           ∧ (¬ s.AwardRepeats id →
               Routed [.offers, .arbiter] s t
               ∧ t.offers = { s.offers with cancels := t.offers.cancels }
               ∧ CancelsPlaced s.arbiter
                   (oweInto s.offers.cancels { offer := id, stage := .owed
                                               reason := if s.meter.state = .vacant then .notBidding else .busy }) t))

/-- R74. REFUSE. The run state and the SHOWN entries follow a stop that waited for the bid (R81). -/
def Obligations.RefuseLosesBid : Prop :=
  ∀ (s : State) (hdr : AirHeader) (payload : List Byte) (id : Nat),
    s.admits .refuse hdr payload = true → parseId payload = .ok id →
    ∃ t, exec (.refuse hdr payload) s = .next t
      ∧ ((∀ e ∈ s.offers.entries, e.id = id → e.state ≠ .bid) → Routed [] s t)
      ∧ ∀ as e bs, s.tableBounded = true → s.bidMatched = true → s.offers.entries = as ++ e :: bs → e.id = id →
          e.state = .bid →
          Routed [.offers, .arbiter, .events] s t ∧ Raised [.offerClosed] s t
          ∧ t.offers = s.offers.settled as { e with state := .lost, waiting := none } bs
          ∧ (∀ b, s.offers.bid = some b →
              t.arbiter = if b.stage = .sent then s.arbiter else Arbiter.without (.bid id) s.arbiter)

/-- R75, R8. OFFER_WITHDRAW by the state of its entry. -/
def Obligations.WithdrawByState : Prop :=
  ∀ (s : State) (hdr : AirHeader) (payload : List Byte) (id : Nat),
    s.admits .offerWithdraw hdr payload = true → parseId payload = .ok id →
    ∃ t, exec (.offerWithdraw hdr payload) s = .next t
      ∧ ((∀ e ∈ s.offers.entries, e.id ≠ id) →
          (s.meter.state = .assigned → s.meter.jobId = some id →
            Routed [.meter, .events, .check] s t ∧ t.meter = { s.meter with state := .vacant, jobId := none }
            ∧ Raised [.jobWithdrawn] s t)
          ∧ (s.meter.state ≠ .assigned ∨ s.meter.jobId ≠ some id → Routed [] s t))
      ∧ ∀ as e bs, s.tableBounded = true → s.offers.entries = as ++ e :: bs → e.id = id →
          (e.state.closed = true → Routed [] s t)
          ∧ (e.state = .shown → Routed [.offers, .events] s t ∧ Raised [.offerClosed] s t
              ∧ t.offers = { s.offers with
                  entries := as ++ { e with state := .withdrawn, waiting := none } :: bs })
          ∧ (e.state = .awarded → s.meter.state = .assigned → s.meter.jobId = some id →
              Routed [.offers, .meter, .events, .check] s t ∧ Raised [.offerClosed, .jobWithdrawn] s t
              ∧ t.meter = { s.meter with state := .vacant, jobId := none }
              ∧ t.offers = { s.offers with
                  entries := as ++ { e with state := .withdrawn, waiting := none } :: bs })
          ∧ (e.state = .bid → s.bidMatched = true →
              Routed [.offers, .arbiter, .events] s t ∧ Raised [.offerClosed] s t
              ∧ t.offers = s.offers.settled as { e with state := .withdrawn, waiting := none } bs
              ∧ (∀ b, s.offers.bid = some b →
                  t.arbiter = if b.stage = .sent then s.arbiter else Arbiter.without (.bid id) s.arbiter))

/-- R67, R70, R71: the expiries of a shown lifetime, of a bid's lifetime and of the award wait. R47: the ack timer's sends the
record again. R133: LINK_LOSS_TIMER_EXPIRY. One that is not due does nothing (log 5). -/
def Obligations.SecondTimersExpire : Prop :=
  (∀ (s : State) (as bs : List OfferEntry) (e : OfferEntry), s.mainRuns = true → s.tableBounded = true →
     s.bidMatched = true → s.offers.entries = as ++ e :: bs →
     (∃ t, exec (.offerLifetimeExpiry e.id) s = .next t
       ∧ (e.state = .shown → e.lifetime = 0 → OnlyChanges [.offers, .events, .pins] s t ∧ Raised [.offerClosed] s t
           ∧ t.offers = { s.offers with entries := as ++ { e with state := .expired, waiting := none } :: bs })
       ∧ (e.state ≠ .shown ∨ e.lifetime ≠ 0 → OnlyChanges [.pins] s t))
     ∧ (e.state = .bid → e.lifetime = 0 → ∀ b, s.offers.bid = some b →
       ∃ t, exec .bidLifetimeExpiry s = .next t
         ∧ (b.stage = .queued →
             OnlyChanges [.offers, .arbiter, .events, .pins] s t ∧ Raised [.offerClosed] s t
             ∧ t.offers = s.offers.settled as { e with state := .expired, waiting := none } bs
             ∧ t.arbiter = Arbiter.without (.bid e.id) s.arbiter)
         ∧ (b.stage = .inFlight → OnlyChanges [.offers, .pins] s t
             ∧ t.offers = { s.offers with bid := some { b with mark := .expiryPending } })
         ∧ (b.stage = .sent → OnlyChanges [.pins] s t))
     ∧ (e.state = .bid →
       ∃ t, exec .awardWaitExpiry s = .next t
         ∧ (e.waiting = some 0 →
             OnlyChanges [.offers, .events, .pins] s t ∧ Raised [.offerClosed] s t
             ∧ t.offers = s.offers.settled as { e with state := .lost, waiting := none } bs)
         ∧ (e.waiting ≠ some 0 → OnlyChanges [.pins] s t)))
    ∧ (∀ s : State,
         ((∀ e ∈ s.offers.entries, e.state = .bid → e.lifetime ≠ 0) →
           ∃ t, exec .bidLifetimeExpiry s = .next t ∧ OnlyChanges [.pins] s t)
         ∧ ((∀ e ∈ s.offers.entries, e.state = .bid → e.waiting ≠ some 0) →
           ∃ t, exec .awardWaitExpiry s = .next t ∧ OnlyChanges [.pins] s t))
    ∧ (∀ s : State, s.mainRuns = true → s.monitor.holding = false →
         ∃ t, exec .ackTimerExpiry s = .next t
           ∧ (∀ n, s.store.sender = .sent n 0 → s.storeInOrder = true → classCount s.arbiter.queue 2 = 0 →
               OnlyChanges [.store, .arbiter, .check, .pins] s t ∧ t.store = { s.store with sender := .queued n }
               ∧ t.arbiter = { s.arbiter with queue := s.arbiter.queue ++ [.total n] })
           ∧ ((∀ n, s.store.sender ≠ .sent n 0) → OnlyChanges [.pins] s t))
    ∧ (∀ s : State, s.mainRuns = true →
         ∃ t, exec .linkLossTimerExpiry s = .next t
           ∧ (s.link.state = .synced → s.link.lossTimer = some 0 →
               OnlyChanges [.link, .events, .pins] s t ∧ Raised [.linkState] s t
               ∧ t.link = { s.link with state := .lost, cycle := none, allowance := 0, lossTimer := none })
           ∧ (s.link.state ≠ .synced ∨ s.link.lossTimer ≠ some 0 → OnlyChanges [.pins] s t))

/-- R77: an entry in BID when HIRE or SHIFT_CLOSE takes the meter out of VACANT. R7, R78: JOB_CANCEL. R76: the cancel that is
owed, and where the SHIFT entry of a SHIFT_CLOSE stands before it (log 31, the model's choice). -/
def Obligations.OffersFollowMeter : Prop :=
  (∀ (s t : State) (tag p : Byte) (c : Instr) (as bs : List OfferEntry) (e : OfferEntry) (b : BidRecord),
     s.mainRuns = true → s.meter.state = .vacant → s.tableBounded = true → s.bidMatched = true →
     s.offers.entries = as ++ e :: bs → e.state = .bid → s.offers.bid = some b →
     (c = .hire tag [p] ∨ c = .shiftClose tag []) → exec c s = .next t → t.meter.state ≠ .vacant →
     t.offers.entries = as.map OfferEntry.lapse ++ { e with state := .lapsed, waiting := none } ::
         bs.map OfferEntry.lapse
       ∧ t.offers.run = (if s.offers.run = .stopping then .stopped else s.offers.run)
       ∧ t.flagged .offerClosed = true
       ∧ ∀ a, a = (if c = .shiftClose tag [] then s.shiftOffered else s.arbiter) →
           (b.stage = .queued → t.offers.bid = none ∧ t.offers.cancels = s.offers.cancels
             ∧ t.arbiter = Arbiter.without (.bid e.id) a)
           ∧ (b.stage = .inFlight → t.offers.bid = some { b with mark := .cancelOnDone }
             ∧ t.offers.cancels = s.offers.cancels ∧ t.arbiter = a)
           ∧ (b.stage = .sent → t.offers.bid = none
             ∧ CancelsPlaced a (oweInto s.offers.cancels { offer := e.id, reason := .busy, stage := .owed }) t))
    ∧ (∀ (s : State) (tag : Byte) (id : Nat), s.mainRuns = true → s.meter.state = .assigned → s.meter.jobId = some id →
         ∃ t, exec (.jobCancel tag []) s = .next t
           ∧ Answered [.meter, .offers, .arbiter, .events, .check] s t { kind := 0x87#8, tag, code := .ok, payload := [] }
           ∧ t.meter = { s.meter with state := .vacant, jobId := none }
           ∧ t.offers = { s.offers with cancels := t.offers.cancels, entries := s.offers.entries.map fun e =>
               if e.id = id ∧ e.state = .awarded then { e with state := .declined, waiting := none } else e }
           ∧ CancelsPlaced s.arbiter (oweInto s.offers.cancels { offer := id, reason := .driverCancel, stage := .owed }) t
           ∧ (∀ k, t.flagged k = (s.flagged k
               || k = .offerClosed && s.offers.entries.any fun e => e.id = id && e.state = .awarded)))

/-! ## The meter -/

/-- R4, R53. SHIFT_OPEN. -/
def Obligations.ShiftOpens : Prop :=
  ∀ (s : State) (tag : Byte), s.mainRuns = true → s.meter.state = .off →
    ∃ t, exec (.shiftOpen tag []) s = .next t
      ∧ (s.identity.cab = 0 ∨ s.tariff = none →
          OnlyReplied s t { kind := 0x90#8, tag, code := .refusedState, payload := [] })
      ∧ (s.identity.cab ≠ 0 → s.tariff ≠ none →
          Answered [.meter, .store, .check] s t { kind := 0x90#8, tag, code := .ok, payload := [] }
          ∧ t.meter = { s.meter with state := .vacant }
          ∧ t.store = { s.store with totals :=
              { shift := if s.store.totals.shift = 65535 then 1 else s.store.totals.shift + 1
                ended := 0, fareSum := 0, extrasSum := 0, hiredPulses := 0, totalPulses := 0, ackCount := 0, ackSum := 0
                foldedCount := 0, foldedSum := 0, earlierCount := 0, earlierSum := 0 } }
          ∧ (s.roof = .steady → s.monitor.holding = false → t.pins.roof = true))

/-- R5, R54, R55, R77. SHIFT_CLOSE, with or without an entry in BID, and the report it forms. With one, the SHIFT entry is
placed before the bid is withdrawn or its cancel owed (log 31, the model's choice). -/
def Obligations.ShiftCloses : Prop :=
  (∀ (s : State) (tag : Byte), s.mainRuns = true → s.meter.state = .vacant →
     ∃ t, exec (.shiftClose tag []) s = .next t
       ∧ Answered [.meter, .store, .arbiter, .offers, .events, .check] s t
           { kind := 0x91#8, tag, code := .ok, payload := s.shiftReport.bytes }
       ∧ t.meter = { s.meter with state := .off }
       ∧ t.store = { s.store with pendingReport := some s.shiftReport }
       ∧ (∀ k, t.flagged k = (s.flagged k
           || k = .offerClosed && s.offers.entries.any fun x => x.state = .shown || x.state = .bid))
       ∧ ((∀ e ∈ s.offers.entries, e.state ≠ .bid) →
           t.offers = { s.offers with entries := s.offers.entries.map OfferEntry.lapse }
           ∧ t.arbiter = s.shiftOffered)
       ∧ (∀ as e bs b, s.tableBounded = true → s.bidMatched = true → s.offers.entries = as ++ e :: bs →
           e.state = .bid → s.offers.bid = some b →
           t.offers.entries = as.map OfferEntry.lapse ++ { e with state := .lapsed, waiting := none } ::
             bs.map OfferEntry.lapse
           ∧ (b.stage = .queued → t.arbiter = Arbiter.without (.bid e.id) s.shiftOffered)
           ∧ (b.stage = .inFlight → t.arbiter = s.shiftOffered)
           ∧ (b.stage = .sent →
               CancelsPlaced s.shiftOffered
                 (oweInto s.offers.cancels { offer := e.id, reason := .busy, stage := .owed }) t)))
    ∧ (∀ s : State,
         let r := s.shiftReport
         let stored := s.store.records.filter fun x => x.shift = s.store.totals.shift
         r.shift = s.store.totals.shift ∧ r.ended = s.store.totals.ended ∧ r.fareSum = s.store.totals.fareSum
           ∧ r.extrasSum = s.store.totals.extrasSum
           ∧ r.hiredMetres = metres s.store.totals.hiredPulses s.identity.k
           ∧ r.totalMetres = metres s.store.totals.totalPulses s.identity.k
           ∧ r.ackCount = s.store.totals.ackCount ∧ r.ackSum = s.store.totals.ackSum
           ∧ r.foldedCount = s.store.totals.foldedCount ∧ r.foldedSum = s.store.totals.foldedSum
           ∧ r.earlierCount = s.store.totals.earlierCount ∧ r.earlierSum = s.store.totals.earlierSum
           ∧ r.storedCount = stored.length ∧ r.storedSum = min 99999999 (stored.map TripRecord.total).sum)

/-- R29 to R31: the band that HIRE chooses; 0 stands for AUTO (R197). R32, R39: D and a distance in metres are roundings to
the nearest, within their limits. -/
def Obligations.BandAndFiguresChosen : Prop :=
  (∀ (t : Tariff) (time : Time), (t.bands.map Band.number).Nodup →
     (∀ n b, 1 ≤ n → n ≤ 8 →
       (chooseBand (some t) time n = some b ↔ b ∈ t.bands ∧ b.number = n ∧ b.selectable = true))
     ∧ (∀ n, 8 < n → chooseBand (some t) time n = none)
     ∧ (∀ b, b ∈ t.bands → b.number = 1 → time.known = false → chooseBand (some t) time 0 = some b)
     ∧ (∀ b, time.known = true → b ∈ t.bands → b.Windowed time.clock →
         (∀ x ∈ t.bands, x.Windowed time.clock → b.number ≤ x.number) → chooseBand (some t) time 0 = some b)
     ∧ (∀ b, time.known = true → (∀ x ∈ t.bands, ¬ x.Windowed time.clock) → b ∈ t.bands → b.number = 1 →
         chooseBand (some t) time 0 = some b))
    ∧ ((∀ m k, 10 ≤ m → m ≤ 10000 → 100 ≤ k → k ≤ 60000 →
         let d := perIncrement m k
         1 ≤ d ∧ d ≤ 65535
           ∧ (m * k + 500 < 65536000 → 2 * d * 1000 ≤ 2 * (m * k) + 1000 ∧ 2 * (m * k) < 2 * d * 1000 + 1000)
           ∧ (65536000 ≤ m * k + 500 → d = 65535))
         ∧ ∀ p k, 1 ≤ k → p ≤ 4294967295 →
           let m := metres p k
           m ≤ 4294967295
             ∧ (m < 4294967295 → 2 * m * k ≤ 2000 * p + k ∧ 2000 * p < 2 * m * k + k)
             ∧ (p * 1000 + k / 2 ≥ 4294967296 * k → m = 4294967295))

/-- R9, R10, R32, R35, R77, R78. HIRE with a band that it may choose, with or without an entry in BID; and a HIRE whose band
argument chooses none, which without a tariff or, for AUTO, without a band 1 is the model's choice (log 25). -/
def Obligations.HireStartsTrip : Prop :=
  ∀ (s : State) (tag p : Byte), s.mainRuns = true → s.meter.state = .vacant ∨ s.meter.state = .assigned →
    ∃ t, exec (.hire tag [p]) s = .next t
      ∧ (s.tariff = none ∨ chooseBand s.tariff s.time p.toNat = none →
          OnlyReplied s t { kind := 0x8A#8, tag, code := .refusedRange, payload := [] })
      ∧ ∀ f b n d x, s.tariff = some f → chooseBand s.tariff s.time p.toNat = some b →
          n = (if s.meter.lastTrip = 65535 then 1 else s.meter.lastTrip + 1) → d = min s.pulses 4095 →
          x = Trip.mk n (if s.meter.state = .assigned then s.meter.jobId else none) b.number
            { flagFall := b.flagFall, coverage := b.coverage, value1 := b.value1, length1 := b.length1
              value2 := b.value2, metres := b.metres, seconds := b.seconds, gateClears := b.gateClears
              pulses := min 65535 (max 1 ((b.metres * s.identity.k + 500) / 1000)) }
            f.version (f.extras.map fun e => { amount := e.amount, max := e.max, used := 0 })
            (fare := b.flagFall) (extrasTotal := 0) (increments := 0) (accumulator := 0) (gateOpen := true)
            (pulses := 0) (gatedPulses := 0) (startClock := s.time.clock) (endClock := none)
            { fareCapped := false, timeUnknown := !s.time.known, holdUsed := false
              emergencyDuring := s.emergency.state = .active || s.emergency.state = .acked, distOverrate := false } →
          Answered [.meter, .pulses, .store, .offers, .arbiter, .events, .fault, .check] s t
            { kind := 0x8A#8, tag, code := .ok, payload := [] }
          ∧ (s.meter.state = .assigned ∨ (∀ e ∈ s.offers.entries, e.state ≠ .bid) → t.arbiter = s.arbiter)
          ∧ t.meter = { state := .hired, jobId := none, lastTrip := n, hold := false, trip := some x }
          ∧ t.pulses = 0
          ∧ t.store = { s.store with totals := { s.store.totals with
              totalPulses := min 4294967295 (s.store.totals.totalPulses + d) } }
          ∧ (s.meter.state = .vacant → (∀ e ∈ s.offers.entries, e.state ≠ .bid) →
              t.offers = { s.offers with entries := s.offers.entries.map OfferEntry.lapse })
          ∧ (∀ as e bs, s.meter.state = .vacant → s.tableBounded = true → s.bidMatched = true →
              s.offers.entries = as ++ e :: bs → e.state = .bid →
              t.offers.entries = as.map OfferEntry.lapse ++ { e with state := .lapsed, waiting := none } ::
                bs.map OfferEntry.lapse)
          ∧ (s.meter.state = .assigned →
              t.offers = { s.offers with
                entries := s.offers.entries.map fun e =>
                  if some e.id = s.meter.jobId ∧ e.state = .awarded then { e with state := .done, waiting := none }
                  else e })
          ∧ t.fault = (if s.pulses ≤ 4095 then s.fault else s.faultAfter .distOverrate .none 0 s.pulses)
          ∧ t.events.enables = s.events.enables ∧ t.events.lines = s.events.lines
          ∧ (∀ k, t.flagged k = (s.flagged k || k = .fault && decide (4095 < s.pulses) && s.fault.isNone
              || k = .offerClosed && s.offers.entries.any fun e =>
                  if s.meter.state = .vacant then e.state = .shown || e.state = .bid
                  else some e.id = s.meter.jobId && e.state = .awarded))

/-- R12, R13, R15, R17. END, HOLD_ON, HOLD_OFF and EXTRA. -/
def Obligations.TripRequestsTaken : Prop :=
  (∀ (s : State) (tag : Byte) (x : Trip), s.mainRuns = true → s.meter.state = .hired → s.meter.trip = some x →
     ∃ t, exec (.endTrip tag []) s = .next t
       ∧ Answered [.meter, .check] s t { kind := 0x8B#8, tag, code := .ok, payload := [] }
       ∧ t.meter = { s.meter with
           state := .total, hold := false
           trip := some { x with endClock := some s.time.clock, accumulator := 0, gateOpen := false } })
    ∧ (∀ (s : State) (tag : Byte) (x : Trip), s.mainRuns = true → s.meter.state = .hired → s.meter.trip = some x →
         (∃ t, exec (.holdOn tag []) s = .next t
           ∧ Answered [.meter, .check] s t { kind := 0x8D#8, tag, code := .ok, payload := [] }
           ∧ t.meter = { s.meter with hold := true, trip := some { x with
               flags := { x.flags with holdUsed := true }
               gateOpen := false
               accumulator := if x.gateOpen && x.copy.gateClears then 0 else x.accumulator } })
         ∧ ∃ t, exec (.holdOff tag []) s = .next t
           ∧ Answered [.meter, .check] s t { kind := 0x8E#8, tag, code := .ok, payload := [] }
           ∧ t.meter = { s.meter with hold := false, trip := some { x with gateOpen := true } })
    ∧ (∀ (s : State) (tag p : Byte) (x : Trip), s.mainRuns = true → s.meter.state = .hired ∨ s.meter.state = .total →
         s.meter.trip = some x →
         ∃ t, exec (.extra tag [p]) s = .next t
           ∧ (p = 0#8 ∨ x.extras.length < p.toNat ∨ (∃ e, x.extras[p.toNat - 1]? = some e ∧ e.max ≤ e.used) →
               OnlyReplied s t { kind := 0x8F#8, tag, code := .refusedRange, payload := [] })
           ∧ ∀ as e bs sum y, x.extras = as ++ e :: bs → p.toNat = as.length + 1 → e.used < e.max →
               sum = min 999999 (x.extrasTotal + e.amount) →
               y = { x with
                 extrasTotal := sum, extras := as ++ { e with used := e.used + 1 } :: bs
                 flags := { x.flags with
                   fareCapped := x.flags.fareCapped || decide (999999 < x.extrasTotal + e.amount ∨ 999999 < x.fare + sum) } } →
               Answered [.meter, .check] s t { kind := 0x8F#8, tag, code := .ok
                                               payload := amount sum ++ amount (min 999999 (x.fare + sum)) }
               ∧ t.meter = { s.meter with trip := some y })

/-- R16, R33 to R35, R43 to R45, R49. PAID: the count is closed, the record enters, a full store folds its oldest, and the
sender follows. -/
def Obligations.TripPaid : Prop :=
  (∀ (s : State) (tag : Byte) (x : Trip) (d : Nat) (r : TripRecord) (base : ShiftTotals),
     s.mainRuns = true → s.meter.state = .total → s.meter.trip = some x → s.store.records.length ≤ 16 →
     d = min s.pulses 4095 →
     r = { trip := x.number, shift := s.store.totals.shift, jobId := x.jobId, band := x.band, version := x.version
           startClock := x.startClock, endClock := x.endClock.getD x.startClock
           distance := metres (min 4294967295 (x.pulses + d)) s.identity.k
           gatedDistance := metres (if x.gateOpen then x.gatedPulses else min 4294967295 (x.gatedPulses + d)) s.identity.k
           fare := x.fare, extrasTotal := x.extrasTotal, total := min 999999 (x.fare + x.extrasTotal)
           flags := { x.flags with distOverrate := x.flags.distOverrate || decide (4095 < s.pulses) } } →
     base = { s.store.totals with
       ended := min 65535 (s.store.totals.ended + 1), fareSum := min 99999999 (s.store.totals.fareSum + x.fare)
       extrasSum := min 99999999 (s.store.totals.extrasSum + x.extrasTotal)
       totalPulses := min 4294967295 (s.store.totals.totalPulses + d)
       hiredPulses := min 4294967295 (s.store.totals.hiredPulses + d) } →
     ∃ t, exec (.paid tag []) s = .next t
       ∧ Answered [.meter, .pulses, .store, .arbiter, .events, .fault, .check] s t
           { kind := 0x8C#8, tag, code := .ok, payload := [] }
       ∧ t.meter = { s.meter with state := .vacant, jobId := none, trip := none } ∧ t.pulses = 0
       ∧ t.store.pendingReport = s.store.pendingReport
       ∧ (s.store.records.length < 16 → t.store.records = s.store.records ++ [r] ∧ t.store.totals = base)
       ∧ (∀ o rest, s.store.records = o :: rest → rest.length = 15 →
           t.store.records = rest ++ [r]
           ∧ t.store.totals =
               if o.shift = s.store.totals.shift then
                 { base with foldedCount := min 65535 (base.foldedCount + 1)
                             foldedSum := min 99999999 (base.foldedSum + o.total) }
               else
                 { base with earlierCount := min 65535 (base.earlierCount + 1)
                             earlierSum := min 99999999 (base.earlierSum + o.total) })
       ∧ t.fault = (if s.pulses ≤ 4095 then s.fault else s.faultAfter .distOverrate .none 0 s.pulses)
       ∧ t.events.enables = s.events.enables ∧ t.events.lines = s.events.lines
       ∧ (∀ k, t.flagged k = (s.flagged k || k = .totalBacklog && !s.store.records.isEmpty
           || k = .storeFolded && s.store.records.length = 16
           || k = .fault && decide (4095 < s.pulses) && s.fault.isNone)))
    ∧ (∀ (s : State) (tag : Byte) (x : Trip), s.mainRuns = true → s.meter.state = .total → s.meter.trip = some x →
         s.store.records.length ≤ 16 → s.queueBounded = true →
         ∃ t, exec (.paid tag []) s = .next t
           ∧ (s.store.records = [] → s.store.sender = .idle → classCount s.arbiter.queue 2 = 0 →
               t.store.sender = .queued x.number
               ∧ t.arbiter = { s.arbiter with queue := s.arbiter.queue ++ [.total x.number] })
           ∧ (s.store.records.length < 16 → s.store.sender ≠ .idle →
               t.store.sender = s.store.sender ∧ t.arbiter = s.arbiter)
           ∧ (∀ o n rest, s.store.records = o :: n :: rest → rest.length = 14 →
               (s.store.sender = .queued o.trip ∧ .total o.trip ∈ s.arbiter.queue
                   ∨ (∃ k, s.store.sender = .sent o.trip k) ∧ classCount s.arbiter.queue 2 = 0) →
               ∀ a, a = (if s.store.sender = .queued o.trip then Arbiter.without (.total o.trip) s.arbiter else s.arbiter) →
                 t.store.sender = .queued n.trip ∧ t.arbiter = { a with queue := a.queue ++ [.total n.trip] }))

/-- R36, R37, R38. A meter second on a HIRED trip: the increments due are priced one after another, each by its own number:
none up to the coverage, then value 1 for the first stage and value 2 after it; value 1 throughout where the first stage has
no length. -/
def Obligations.FareProgresses : Prop :=
  ∀ (s : State) (x : Trip) (d a n sum : Nat) (money : Nat → Nat), s.monitor.holding = false → s.meter.state = .hired →
    s.meter.trip = some x → x.increments ≤ 999999 → x.fare ≤ 999999 → 0 < x.copy.pulses * x.copy.seconds →
    d = min s.pulses 4095 → a = x.accumulator + max (d * x.copy.seconds) x.copy.pulses →
    n = a / (x.copy.pulses * x.copy.seconds) →
    (∀ i, money i =
      if i ≤ x.copy.coverage then 0
      else if x.copy.length1 = 0 ∨ i ≤ x.copy.coverage + x.copy.length1 then x.copy.value1
      else x.copy.value2) →
    sum = ((List.range n).map fun j => money (min 999999 (x.increments + 1 + j))).sum →
    ∃ t y, exec .meterSecond s = .next t ∧ t.meter = { s.meter with trip := some y }
      ∧ (x.gateOpen = false →
          y = { x with pulses := min 4294967295 (x.pulses + d), gatedPulses := min 4294967295 (x.gatedPulses + d)
                       flags := { x.flags with distOverrate := x.flags.distOverrate || decide (4095 < s.pulses) } })
      ∧ (x.gateOpen = true →
          y = { x with
            pulses := min 4294967295 (x.pulses + d)
            accumulator := a % (x.copy.pulses * x.copy.seconds)
            increments := min 999999 (x.increments + n)
            fare := min 999999 (x.fare + sum)
            flags := { x.flags with
              distOverrate := x.flags.distOverrate || decide (4095 < s.pulses)
              fareCapped := x.flags.fareCapped || decide (0 < n ∧
                (999999 < x.fare + sum ∨ 999999 < min 999999 (x.fare + sum) + x.extrasTotal)) } })

/-- R1, R33, R34, R52: DIST_PULSE, and the closing of the count and the clock at METER_SECOND. R11, R12, R36: in TOTAL the
admitted pulses enter the trip and no fare does, and outside HIRED and TOTAL the meter keeps its state; `FareProgresses` says
what a HIRED trip becomes. R47, R67, R70, R71, R103,
R108, R133, R159: the timers that count meter seconds; each rests at 0, where its expiry is due (log 2). -/
def Obligations.SecondTakesEffect : Prop :=
  (∀ s : State,
     (∃ t, exec .distPulse s = .next t
       ∧ (s.monitor.holding = false → OnlyChanges [.pulses, .check, .pins] s t ∧ t.pulses = min 65535 (s.pulses + 1))
       ∧ (s.monitor.holding = true → OnlyChanges [.pins] s t))
     ∧ ∃ t, exec .meterSecond s = .next t
       ∧ (s.monitor.holding = true → OnlyChanges [.pins] s t)
       ∧ (s.monitor.holding = false → ∀ d, d = min s.pulses 4095 →
           OnlyChanges [.time, .pulses, .meter, .store, .emergency, .offers, .link, .loader, .fault, .events, .check, .pins] s t
           ∧ t.pulses = 0 ∧ t.time.known = s.time.known
           ∧ t.time.clock =
               (if s.time.clock.second < 86399 then { s.time.clock with second := s.time.clock.second + 1 }
                else { day := if s.time.clock.day < 6 then s.time.clock.day + 1 else 0, second := 0 })
           ∧ t.store.records = s.store.records ∧ t.store.pendingReport = s.store.pendingReport
           ∧ t.store.totals = { s.store.totals with
               totalPulses := min 4294967295 (s.store.totals.totalPulses + d)
               hiredPulses :=
                 if s.meter.state = .hired ∨ s.meter.state = .total then
                   min 4294967295 (s.store.totals.hiredPulses + d)
                 else s.store.totals.hiredPulses }
           ∧ (s.meter.state = .off ∨ s.meter.state = .vacant ∨ s.meter.state = .assigned → t.meter = s.meter)
           ∧ (∀ x, s.meter.state = .total → s.meter.trip = some x →
               t.meter = { s.meter with trip := some { x with
                 pulses := min 4294967295 (x.pulses + d)
                 gatedPulses := if x.gateOpen then x.gatedPulses else min 4294967295 (x.gatedPulses + d)
                 flags := { x.flags with distOverrate := x.flags.distOverrate || decide (4095 < s.pulses) } } })
           ∧ (4095 < s.pulses → s.mainRuns = true → FaultOffered .distOverrate .none 0 s.pulses s t)
           ∧ (s.pulses ≤ 4095 ∨ s.mainRuns = false → t.fault = s.fault ∧ t.events = s.events)))
    ∧ (∀ s : State, s.monitor.holding = false →
         ∃ t, exec .meterSecond s = .next t
           ∧ (∀ n k, s.store.sender = .sent n k → t.store.sender = .sent n (k - 1))
           ∧ ((∀ n k, s.store.sender ≠ .sent n k) → t.store.sender = s.store.sender)
           ∧ (s.emergency.state = .active ∨ s.emergency.state = .acked →
               t.emergency = { s.emergency with
                 elapsed := min 65535 (s.emergency.elapsed + 1), interval := s.emergency.interval.map (· - 1) })
           ∧ (s.emergency.state = .clear ∨ s.emergency.state = .pressing → t.emergency = s.emergency)
           ∧ (s.mainRuns = true →
               t.link = { s.link with lossTimer := s.link.lossTimer.map (· - 1) }
               ∧ t.loader = { s.loader with context := s.loader.context.map fun c => { c with timer := c.timer - 1 } }
               ∧ t.offers = { s.offers with entries := s.offers.entries.map fun e =>
                   if e.state = .shown
                       ∨ e.state = .bid ∧ ¬ (∃ b, s.offers.bid = some b ∧ b.stage = .sent) then
                     { e with lifetime := e.lifetime - 1 }
                   else if e.state = .bid then { e with waiting := e.waiting.map (· - 1) }
                   else e }))

/-- R48, R49. TOTAL_ACK, and what the sender serves next. Of two records that carry the number, which trip numbers that
have come round again could make, the older is removed (log 28, the model's choice). -/
def Obligations.TotalsAcknowledged : Prop :=
  ∀ (s : State) (hdr : AirHeader) (payload : List Byte) (n : Nat),
    s.admits .totalAck hdr payload = true → parseId payload = .ok n →
    ∃ t, exec (.totalAck hdr payload) s = .next t
      ∧ ((∀ r ∈ s.store.records, r.trip ≠ n) → Routed [] s t)
      ∧ ∀ as r bs, s.store.records = as ++ r :: bs → r.trip = n → (∀ x ∈ as, x.trip ≠ n) →
          Routed [.store, .arbiter, .events, .check] s t ∧ Raised [.totalAcked] s t
          ∧ t.store.records = as ++ bs ∧ t.store.pendingReport = s.store.pendingReport
          ∧ t.store.totals =
              (if r.shift = s.store.totals.shift then
                { s.store.totals with ackCount := min 65535 (s.store.totals.ackCount + 1)
                                      ackSum := min 99999999 (s.store.totals.ackSum + r.total) }
               else s.store.totals)
          ∧ (s.store.sender.served ≠ some n → t.store.sender = s.store.sender ∧ t.arbiter = s.arbiter)
          ∧ (s.queueBounded = true →
              (s.store.sender = .queued n ∧ .total n ∈ s.arbiter.queue
                ∨ (∃ k, s.store.sender = .sent n k) ∧ classCount s.arbiter.queue 2 = 0) →
              ∀ a, a = (if s.store.sender = .queued n then Arbiter.without (.total n) s.arbiter else s.arbiter) →
                (as ++ bs = [] → t.store.sender = .idle ∧ t.arbiter = a)
                ∧ ∀ x rest, as ++ bs = x :: rest →
                    t.store.sender = .queued x.trip ∧ t.arbiter = { a with queue := a.queue ++ [.total x.trip] })

/-! ## Messages -/

/-- R86 to R89, R93. A MESSAGE whose id is not stored is stored, after the removals that room needs, or refused; a duplicate
owes its last receipt again. -/
def Obligations.MessageArrives : Prop :=
  (∀ (s : State) (hdr : AirHeader) (payload : List Byte) (f : MessageFields) (new : Message),
     s.admits .message hdr payload = true → parseMessage payload = .ok f → (∀ m ∈ s.messages.list, m.id ≠ f.id) →
     new = { id := f.id, urgent := f.urgent, wanted := f.wanted, options := f.options, text := f.text
             state := .unread, answer := none, lastSent := none
             mark := if f.wanted then some { kind := .delivered, stage := .owed, next := none } else none } →
     ∃ t, exec (.message hdr payload) s = .next t ∧ Routed [.messages, .arbiter, .events] s t
       ∧ (∀ gone, GoneForRoom f.urgent f.text.length s.messages.list gone →
           t.unplaced = (without gone s.messages.list).map Message.unplaced ++ [new]
           ∧ t.messages.removals =
               (if gone = [] then s.messages.removals else min 255 (s.messages.removals + gone.length))
           ∧ t.messages.refusal.map (fun r => (r.id, r.replaced))
               = (s.messages.refusal.filter fun r => r.id ≠ f.id).map (fun r => (r.id, r.replaced))
           ∧ t.messages = { s.messages with
               list := t.messages.list, owed := t.messages.owed, refusal := t.messages.refusal
               removals := t.messages.removals }
           ∧ Raised [if f.urgent then .msgUrgent else .msgNew] s t
           ∧ ((s.messages.list.map Message.id).Nodup →
               ReceiptsFollow
                 (gone.map .message ++ if s.messages.refusal.any fun r => r.id = f.id then [.refusal] else [])
                 (if f.wanted then [.message f.id] else []) s t))
       ∧ ((∀ gone, gone <+: removalOrder f.urgent s.messages.list →
             ¬ Fits f.text.length (without gone s.messages.list)) →
           t.unplaced = s.unplaced ∧ t.events = s.events ∧ t.messages.removals = s.messages.removals
           ∧ (f.wanted = false → t.messages = s.messages ∧ t.arbiter = s.arbiter)
           ∧ (f.wanted = true → ReceiptsFollow [] (if s.messages.refusal = none then [.refusal] else []) s t
               ∧ t.messages = { s.messages with
                   list := t.messages.list, owed := t.messages.owed, refusal := t.messages.refusal }
               ∧ ∃ r, t.messages.refusal = some r ∧ r.id = f.id
               ∧ (s.messages.refusal = none → r.replaced = false)
               ∧ ∀ q, s.messages.refusal = some q → r.replaced = (q.replaced || decide (q.stage = .inFlight)))))
    ∧ (∀ (s : State) (hdr : AirHeader) (payload : List Byte) (f : MessageFields) (as bs : List Message) (m : Message),
         s.admits .message hdr payload = true → parseMessage payload = .ok f → (s.messages.list.map Message.id).Nodup →
         s.messages.list = as ++ m :: bs → m.id = f.id →
         ∃ t, exec (.message hdr payload) s = .next t
           ∧ (∀ k, m.wanted = true → m.mark = none → m.lastSent = some k →
               Routed [.messages, .arbiter] s t
               ∧ t.unplaced = as.map Message.unplaced
                   ++ { m with mark := some { kind := k, stage := .owed, next := none } } :: bs.map Message.unplaced
               ∧ ReceiptsOnly s t ∧ ReceiptsFollow [] [.message f.id] s t)
           ∧ (m.wanted = false ∨ m.mark ≠ none ∨ m.lastSent = none → Routed [] s t))

/-- R92: MESSAGE_RECALL. R90: MSG_READ. R91: MSG_ANSWER with a code 1..255. R85: how a mark is set when a receipt becomes owed.
R93: what is placed then. -/
def Obligations.StoredMessageDealtWith : Prop :=
  (∀ (s : State) (hdr : AirHeader) (payload : List Byte) (id : Nat),
     s.admits .messageRecall hdr payload = true → parseId payload = .ok id →
     ∃ t, exec (.messageRecall hdr payload) s = .next t
       ∧ (∀ as m bs, (s.messages.list.map Message.id).Nodup → s.messages.list = as ++ m :: bs → m.id = id →
           Routed [.messages, .arbiter, .events] s t
           ∧ t.unplaced = as.map Message.unplaced ++ bs.map Message.unplaced
           ∧ (m.state = .unread → Raised [.msgRecalled] s t) ∧ (m.state ≠ .unread → t.events = s.events)
           ∧ ReceiptsOnly s t ∧ ReceiptsFollow [.message id] [] s t)
       ∧ ((∀ m ∈ s.messages.list, m.id ≠ id) →
           (∀ r, s.messages.refusal = some r → r.id = id → Routed [.messages, .arbiter] s t
             ∧ t.messages.refusal = none ∧ t.unplaced = s.unplaced
             ∧ t.messages = { s.messages with list := t.messages.list, owed := t.messages.owed, refusal := none }
             ∧ ReceiptsFollow [.refusal] [] s t)
           ∧ ((∀ r, s.messages.refusal = some r → r.id ≠ id) → Routed [] s t)))
    ∧ (∀ (s : State) (tag a b : Byte), s.mainRuns = true →
         ∃ t, exec (.msgRead tag [a, b]) s = .next t
           ∧ ((∀ m ∈ s.messages.list, m.id ≠ beNat [a, b]) →
               OnlyReplied s t { kind := 0x94#8, tag, code := .notFound, payload := [] })
           ∧ ∀ as m bs, (s.messages.list.map Message.id).Nodup → s.messages.list = as ++ m :: bs → m.id = beNat [a, b] →
               (m.state ≠ .unread → OnlyReplied s t { kind := 0x94#8, tag, code := .ok, payload := [] })
               ∧ (m.state = .unread → Answered [.messages, .arbiter] s t { kind := 0x94#8, tag, code := .ok, payload := [] }
                   ∧ t.unplaced = as.map Message.unplaced ++ Message.unplaced { m with
                       state := .read, mark := if m.wanted then some (ReceiptMark.owe .read m.mark) else m.mark }
                         :: bs.map Message.unplaced
                   ∧ (m.wanted = true → ReceiptsOnly s t
                       ∧ ReceiptsFollow [] (if m.mark = none then [.message m.id] else []) s t)
                   ∧ (m.wanted = false → t.arbiter = s.arbiter
                       ∧ t.messages = { s.messages with list := as ++ { m with state := .read } :: bs })))
    ∧ (∀ (s : State) (tag a b c : Byte), s.mainRuns = true → c ≠ 0#8 →
         ∃ t, exec (.msgAnswer tag [a, b, c]) s = .next t
           ∧ ((∀ m ∈ s.messages.list, m.id ≠ beNat [a, b]) →
               OnlyReplied s t { kind := 0x95#8, tag, code := .notFound, payload := [] })
           ∧ ∀ as m bs, (s.messages.list.map Message.id).Nodup → s.messages.list = as ++ m :: bs → m.id = beNat [a, b] →
               (m.state = .answered → OnlyReplied s t { kind := 0x95#8, tag, code := .refusedState, payload := [] })
               ∧ (m.state ≠ .answered → c.toNat ∉ m.options →
                   OnlyReplied s t { kind := 0x95#8, tag, code := .refusedRange, payload := [] })
               ∧ (m.state ≠ .answered → c.toNat ∈ m.options →
                   Answered [.messages, .arbiter] s t { kind := 0x95#8, tag, code := .ok, payload := [] }
                   ∧ t.unplaced = as.map Message.unplaced ++ Message.unplaced { m with
                       state := .answered, answer := some c.toNat, mark := some (ReceiptMark.owe (.answer c.toNat) m.mark) }
                         :: bs.map Message.unplaced
                   ∧ ReceiptsOnly s t ∧ ReceiptsFollow [] (if m.mark = none then [.message m.id] else []) s t))
    ∧ (∀ (kind : ReceiptKind) (k : ReceiptMark),
         ReceiptMark.owe kind none = { kind, stage := .owed, next := none }
         ∧ (k.stage = .inFlight → ReceiptMark.owe kind (some k) = { k with next := some kind })
         ∧ (k.stage ≠ .inFlight → ReceiptMark.owe kind (some k) = { k with kind }))

/-- R96, R181. DRIVER_MSG and PASS_UP. -/
def Obligations.TerminalSendsUplink : Prop :=
  ∀ (s : State) (tag c : Byte) (body : List Byte), s.mainRuns = true → body.length < 256 →
    (∃ t, exec (.driverMsg tag (c :: u8 body.length ++ body)) s = .next t
      ∧ (c = 0#8 ∧ (body = [] ∨ 64 < body.length) ∨ c ≠ 0#8 ∧ body ≠ [] →
          OnlyReplied s t { kind := 0x96#8, tag, code := .refusedRange, payload := [] })
      ∧ (∀ x, (c ≠ 0#8 ∧ body = [] ∧ x = .code c.toNat
              ∨ c = 0#8 ∧ 1 ≤ body.length ∧ body.length ≤ 64 ∧ x = .text body) →
          (6 ≤ sharedCount s.arbiter.queue →
            OnlyReplied s t { kind := 0x96#8, tag, code := .refusedFull, payload := [] })
          ∧ (sharedCount s.arbiter.queue < 6 → ∀ n,
              n = (if s.messages.counter = 255 then 1 else s.messages.counter + 1) →
              Answered [.messages, .arbiter] s t { kind := 0x96#8, tag, code := .ok, payload := u8 n }
              ∧ t.messages = { s.messages with counter := n, outstanding := s.messages.outstanding + 1 }
              ∧ t.arbiter = { s.arbiter with queue := s.arbiter.queue ++ [.driverMsg n x] })))
    ∧ ∃ t, exec (.passUp tag body) s = .next t
      ∧ (body = [] ∨ 199 < body.length →
          OnlyReplied s t { kind := 0x98#8, tag, code := .refusedRange, payload := [] })
      ∧ (1 ≤ body.length → body.length ≤ 199 → 6 ≤ sharedCount s.arbiter.queue →
          OnlyReplied s t { kind := 0x98#8, tag, code := .refusedFull, payload := [] })
      ∧ (1 ≤ body.length → body.length ≤ 199 → sharedCount s.arbiter.queue < 6 → ∀ n,
          n = (if s.terminal.upCounter = 255 then 1 else s.terminal.upCounter + 1) →
          OnlyChanges [.terminal, .arbiter, .pins] s t
          ∧ t.terminal = { s.terminal with
              upCounter := n, upOutstanding := s.terminal.upOutstanding + 1
              reply := some { kind := 0x98#8, tag, code := .ok, payload := u8 n } }
          ∧ t.arbiter = { s.arbiter with queue := s.arbiter.queue ++ [.passUp n body] })

/-- R180. A PASS frame and READ_PASS. That the reply gives the data's length before the data is the model's reading
(log 17). -/
def Obligations.PassThroughQueue : Prop :=
  (∀ (s : State) (hdr : AirHeader) (payload : List Byte), s.admits .pass hdr payload = true →
    ∃ t, exec (.pass hdr payload) s = .next t ∧ Routed [.terminal, .events] s t
      ∧ (s.terminal.pass.length < 4 → Raised [.passReady] s t
          ∧ t.terminal = { s.terminal with pass := s.terminal.pass ++ [{ mode := hdr.mode, data := payload }] })
      ∧ (4 ≤ s.terminal.pass.length → Raised [.passOverrun] s t
          ∧ t.terminal = { s.terminal with overruns := min 255 (s.terminal.overruns + 1) }))
    ∧ ∀ (s : State) (tag : Byte), s.mainRuns = true →
      ∃ t, exec (.readPass tag []) s = .next t
        ∧ (s.terminal.pass = [] →
            OnlyReplied s t { kind := 0x97#8, tag, code := .notFound, payload := u8 s.terminal.overruns })
        ∧ ∀ f rest, s.terminal.pass = f :: rest →
            OnlyChanges [.terminal, .pins] s t
            ∧ t.terminal = { s.terminal with
                pass := rest
                reply := some { kind := 0x97#8, tag, code := .ok
                                payload := text f.data ++ [f.mode] ++ u8 rest.length ++ u8 s.terminal.overruns } }

/-! ## Emergencies -/

/-- R105, R106, R108. EMERGENCY_ACK and EMERGENCY_CLEAR. -/
def Obligations.DispatchAnswersEmergency : Prop :=
  ∀ (s : State) (hdr : AirHeader) (payload : List Byte),
    (s.admits .emergencyAck hdr payload = true →
      ∃ t, exec (.emergencyAck hdr payload) s = .next t
        ∧ (s.emergency.state ≠ .active → Routed [] s t)
        ∧ (s.emergency.state = .active →
            Routed [.emergency, .arbiter, .events, .check] s t
            ∧ t.emergency = { s.emergency with
                state := .acked, interval := some s.settings.ackedInterval, owed := true }
            ∧ t.arbiter = { s.arbiter with slot := true }
            ∧ Raised (if s.settings.visible then [.emergency] else []) s t))
    ∧ (s.admits .emergencyClear hdr payload = true →
      ∃ t, exec (.emergencyClear hdr payload) s = .next t
        ∧ (s.emergency.state = .clear ∨ s.emergency.state = .pressing → Routed [] s t)
        ∧ (s.emergency.state = .active ∨ s.emergency.state = .acked →
            Routed [.emergency, .arbiter, .roof, .events, .check] s t
            ∧ t.emergency = { s.emergency with state := .clear, press := none, interval := none, owed := false }
            ∧ t.arbiter = { s.arbiter with
                slot := false
                inFlight := s.arbiter.inFlight.map fun f =>
                  if f.granted = .slot then { f with granted := .detached } else f }
            ∧ t.roof = .steady
            ∧ (s.monitor.holding = false → t.pins.roof = decide (s.meter.state = .vacant))
            ∧ Raised (if s.settings.visible then [.emergency] else []) s t))

/-- R103, R104, R108. ACTIVATION, ESCALATION and INTERVAL_TIMER_EXPIRY when they are due (a timer rests at 0: log 2), and when
they are not (log 5). -/
def Obligations.EmergencyTimersExpire : Prop :=
  ∀ (s : State) (fill : Bool), s.monitor.holding = false → fill = (s.mainRuns && s.identity.cab != 0) →
    (∃ t, exec .activation s = .next t
      ∧ (s.emergency.state ≠ .pressing ∨ s.emergency.press ≠ some 0 → OnlyChanges [.pins] s t)
      ∧ (s.emergency.state = .pressing → s.emergency.press = some 0 →
          OnlyChanges [.emergency, .meter, .arbiter, .roof, .events, .check, .pins] s t
          ∧ t.emergency = { s.emergency with
              state := .active, press := none
              activation := some { clock := s.time.clock, known := s.time.known }
              elapsed := 0, reports := 0, interval := some s.settings.activeInterval, owed := true }
          ∧ t.meter = s.meterMarked
          ∧ t.arbiter = { s.arbiter with slot := s.arbiter.slot || fill }
          ∧ t.roof = (if s.settings.roofPattern then .blinking true 0 else s.roof)
          ∧ (s.settings.roofPattern = true → t.pins.roof = true)
          ∧ Raised (if s.settings.visible && s.mainRuns then [.emergency] else []) s t))
    ∧ (∃ t, exec .escalation s = .next t
      ∧ (s.emergency.state ≠ .acked ∨ s.emergency.press ≠ some 0 → OnlyChanges [.pins] s t)
      ∧ (s.emergency.state = .acked → s.emergency.press = some 0 →
          OnlyChanges [.emergency, .meter, .arbiter, .events, .check, .pins] s t
          ∧ t.emergency = { s.emergency with
              state := .active, press := none, interval := some s.settings.activeInterval, owed := true }
          ∧ t.meter = s.meterMarked
          ∧ t.arbiter = { s.arbiter with slot := s.arbiter.slot || fill }
          ∧ Raised (if s.settings.visible && s.mainRuns then [.emergency] else []) s t))
    ∧ ∃ t, exec .intervalTimerExpiry s = .next t
      ∧ (s.emergency.state = .clear ∨ s.emergency.state = .pressing ∨ s.emergency.interval ≠ some 0 →
          OnlyChanges [.pins] s t)
      ∧ (s.emergency.state = .active ∨ s.emergency.state = .acked → s.emergency.interval = some 0 →
          OnlyChanges [.emergency, .arbiter, .check, .pins] s t
          ∧ t.emergency = { s.emergency with
              owed := true
              interval := some (if s.emergency.state = .acked then s.settings.ackedInterval
                                else s.settings.activeInterval) }
          ∧ t.arbiter = { s.arbiter with slot := s.arbiter.slot || fill })

/-- R106. ACTIVE and ACKED are left only by an EMERGENCY_CLEAR in CAB mode to this cab, or by a backup-loss reset. -/
def Obligations.EmergencyLeftOnlyByClear : Prop :=
  ∀ (c : Instr) (s t : State), exec c s = .next t →
    (s.emergency.state = .active ∨ s.emergency.state = .acked) →
    (t.emergency.state = .active ∨ t.emergency.state = .acked)
      ∨ (∃ hdr payload, c = .emergencyClear hdr payload ∧ hdr.mode = 0#8 ∧ hdr.addr.toNat = s.identity.cab
          ∧ hdr.fleet.toNat = s.identity.fleet ∧ s.identity.cab ≠ 0)
      ∨ s.checkFails = true ∧ ((∃ level, c = .mainReset level) ∨ c = .supplyReturn)

/-! ## Ticks -/

/-- R101, R102, R104: the emergency switch at a timer tick. R20, R21, R150, R186, R188, R189, R191: its other counts. The
model's own: a count or timer rests at its limit until its event is taken (log 2), the armed roof (log 13), the bit that a
seat check is due (log 16), and that the seat check sees the condition as it stood before the tick (log 32). -/
def Obligations.TickSamplesAndCounts : Prop :=
  (∀ (s : State) (l : TickLines) (active : Bool), s.monitor.holding = false → active = (l.emerg0 || l.emerg1) →
     ∃ t, exec (.timerTick l) s = .next t
       ∧ OnlyChanges [.seat, .roof, .emergency, .arbiter, .monitor, .events, .check, .pins] s t
       ∧ t.emergency.lastSample = active
       ∧ (s.emergency.state = .clear →
           (active = true → s.emergency.lastSample = false →
             t.emergency = { s.emergency with lastSample := active, state := .pressing, press := some s.settings.hold }
             ∧ Raised (if s.settings.visible && s.mainRuns then [.emergency] else []) s t)
           ∧ (active = false ∨ s.emergency.lastSample = true →
             t.emergency = { s.emergency with lastSample := active } ∧ t.events = s.events))
       ∧ (s.emergency.state = .pressing →
           (active = true →
             t.emergency = { s.emergency with lastSample := active, press := s.emergency.press.map (· - 1) }
             ∧ t.events = s.events)
           ∧ (active = false →
             t.emergency = { s.emergency with lastSample := active, state := .clear, press := none }
             ∧ Raised (if s.settings.visible && s.mainRuns then [.emergency] else []) s t))
       ∧ (s.emergency.state = .active → t.emergency = { s.emergency with lastSample := active } ∧ t.events = s.events)
       ∧ (s.emergency.state = .acked → t.events = s.events
           ∧ (active = true → s.emergency.lastSample = false →
             t.emergency = { s.emergency with lastSample := active, press := some s.settings.hold })
           ∧ (active = true → s.emergency.lastSample = true →
             t.emergency = { s.emergency with lastSample := active, press := s.emergency.press.map (· - 1) })
           ∧ (active = false → t.emergency = { s.emergency with lastSample := active, press := none })))
    ∧ (∀ (s : State) (l : TickLines), ∃ t, exec (.timerTick l) s = .next t
         ∧ t.monitor.supplyOk = l.supplyOk ∧ t.monitor.supplyUp = s.monitor.supplyUp
         ∧ t.monitor.ignition = s.monitor.ignition
         ∧ (s.monitor.supplyUp = false →
             t.monitor.confirm = if l.supplyOk then min 5 (s.monitor.confirm + 1) else 0)
         ∧ (s.monitor.holding = true → OnlyChanges [.monitor, .check, .pins] s t)
         ∧ (s.monitor.holding = false →
             t.monitor.ignLevel = l.ign ∧ t.monitor.seatLevel = l.seat
             ∧ (l.ign = s.monitor.ignition → t.monitor.ignCount = 0)
             ∧ (l.ign ≠ s.monitor.ignition → t.monitor.ignCount = min 20 (s.monitor.ignCount + 1))
             ∧ (l.seat = true → (s.meter.state = .off ∨ s.meter.state = .vacant) → s.condition = .driving →
                 t.seat.count = min 600 (s.seat.count + 1))
             ∧ (l.seat = false ∨ (s.meter.state ≠ .off ∧ s.meter.state ≠ .vacant) ∨ s.condition ≠ .driving →
                 t.seat.count = 0)
             ∧ t.seat.reported = (s.seat.reported && l.seat)
             ∧ t.seat.due = (decide (10 * s.settings.seatTime ≤ t.seat.count) && !t.seat.reported)
             ∧ (s.mainRuns = true → t.arbiter = { s.arbiter with
                 inFlight := s.arbiter.inFlight.map fun f => { f with timer := f.timer - 1 }
                 settle := s.arbiter.settle.map (· - 1) })
             ∧ (s.roof = .steady → t.roof = .steady)
             ∧ (∀ v, s.roof = .armed v → t.roof = .blinking true 0 ∧ t.pins.roof = true)
             ∧ ∀ on n, s.roof = .blinking on n → t.roof = .blinking on (min 5 (n + 1)) ∧ t.pins.roof = on))

/-- R20, R21, R186. SEAT_CHECK, ROOF_BLINK_TOGGLE and IGN_DEBOUNCE_END when due, and when not (log 5). R81, R129: what becomes
of the Offer Unit and the air link in every run state; the entries that lapse raise OFFER_CLOSED. -/
def Obligations.TickEventsTakeEffect : Prop :=
  ∀ s : State, s.monitor.holding = false →
    (∃ t, exec .seatCheck s = .next t
      ∧ (s.seat.due = false → OnlyChanges [.pins] s t)
      ∧ (s.seat.due = true → OnlyChanges [.seat, .events, .check, .pins] s t
          ∧ t.seat = { s.seat with reported := true, due := false }
          ∧ Raised (if s.mainRuns then [.seatCheck] else []) s t))
    ∧ (∃ t, exec .roofBlinkToggle s = .next t ∧ OnlyChanges [.roof, .check, .pins] s t
      ∧ (∀ on, s.roof = .blinking on 5 → t.roof = .blinking (!on) 0 ∧ t.pins.roof = !on)
      ∧ ((∀ on, s.roof ≠ .blinking on 5) → t.roof = s.roof))
    ∧ ∃ t, exec .ignDebounceEnd s = .next t
      ∧ (s.monitor.ignCount ≠ 20 → OnlyChanges [.pins] s t)
      ∧ (s.monitor.ignCount = 20 →
          OnlyChanges [.monitor, .link, .offers, .events, .check, .pins] s t
          ∧ t.monitor = { s.monitor with ignition := s.monitor.ignLevel, ignCount := 0 }
          ∧ (s.mainRuns = false → t.link = s.link ∧ t.offers = s.offers ∧ t.events = s.events)
          ∧ (s.mainRuns = true → t.flagged .condition = true
              ∧ (∀ k, k ≠ .condition → k ≠ .offerClosed → t.flagged k = s.flagged k)
              ∧ (s.monitor.ignLevel = true → Raised [.condition] s t
                  ∧ t.link = { s.link with run := .running } ∧ t.offers = { s.offers with run := .running })
              ∧ (s.monitor.ignLevel = false →
                  (s.settings.stopAir = false → t.link = s.link)
                  ∧ (s.settings.stopAir = true → s.link.run = .running →
                      t.link = { s.link with
                        run := if s.link.record = none then .stopped else .stopping })
                  ∧ (s.settings.stopAir = true → s.link.run ≠ .running → t.link = s.link)
                  ∧ (s.settings.stopOffers = false ∨ s.offers.run ≠ .running →
                      t.offers = s.offers ∧ Raised [.condition] s t)
                  ∧ (s.settings.stopOffers = true → s.offers.run = .running →
                      ((∃ e ∈ s.offers.entries, e.state = .bid) →
                        t.offers = { s.offers with run := .stopping } ∧ Raised [.condition] s t)
                      ∧ ((∀ e ∈ s.offers.entries, e.state ≠ .bid) →
                        t.offers = { s.offers with run := .stopped, entries := s.offers.entries.map OfferEntry.lapse }
                        ∧ Raised (if s.offers.entries.any fun e => e.state = .shown then [.condition, .offerClosed]
                                  else [.condition]) s t)))))

/-! ## The air link -/

/-- R119, R129: START_MARKER. R120 to R127: a frame that fails a check at its end marker, in every address mode and with the
identity set or unset. The model's choices: the bytes arrive with the end marker, so the record stands fresh until then (log
6); in the position of a payload's first bad field the estimate bytes of an OFFER count as a field whether or not there is an
estimate (log 33), and each option code of a MESSAGE counts (log 34). R195: that position, for every kind: the first field that
is not wholly there or not in range, or the number of fields plus 1 where bytes follow the last. -/
def Obligations.ReceptionBeginsAndFails : Prop :=
  (∀ s : State, s.mainRuns = true →
     ∃ t, exec .startMarker s = .next t ∧ OnlyChanges [.link, .pins] s t
       ∧ (s.link.record = none →
           t.link = { s.link with record := some { bytes := [], count := 0, crc := 0xFFFF#16 } })
       ∧ (s.link.record ≠ none →
           t.link = { s.link with
             record := some { bytes := [], count := 0, crc := 0xFFFF#16 }
             crcErrors := min 65535 (s.link.crcErrors + 1)
             run := if s.link.run = .stopping then .stopped else s.link.run }))
    ∧ (∀ (s : State) (bytes : List Byte), s.mainRuns = true → bytes.length ≤ 65535 →
         s.link.record = some { bytes := [], count := 0, crc := 0xFFFF#16 } →
         ∃ t, exec (.airFrameRejected bytes) s = .next t
           ∧ (bytes.length < 8 ∨ crc16 bytes ≠ 0#16 →
               OnlyChanges [.link, .pins] s t
               ∧ t.link = { s.received with crcErrors := min 65535 (s.link.crcErrors + 1) })
           ∧ (8 ≤ bytes.length → crc16 bytes = 0#16 →
               (200 < byteAt bytes 5 ∨ bytes.length ≠ 8 + byteAt bytes 5 →
                 Routed [.fault, .events] s t
                 ∧ FaultOffered .airMalformed .air (byteAt bytes 1) bytes.length s t)
               ∧ (byteAt bytes 5 ≤ 200 → bytes.length = 8 + byteAt bytes 5 → ∀ hdr : AirHeader,
                 hdr = { fleet := bytes.getD 0 0, mode := bytes.getD 2 0
                         addr := BitVec.ofNat 16 (beNat (slice bytes 3 2)) } →
                 (0x40 ≤ byteAt bytes 1 → byteAt bytes 1 ≤ 0x49 → Routed [] s t)
                 ∧ (DownKind.ofCode (byteAt bytes 1) = none → (byteAt bytes 1 < 0x40 ∨ 0x49 < byteAt bytes 1) →
                     (s.ToThisCab hdr →
                       Routed [.fault, .events] s t ∧ FaultOffered .airMalformed .air (byteAt bytes 1) 0 s t)
                     ∧ (¬ s.ToThisCab hdr → Routed [] s t))
                 ∧ ∀ k, DownKind.ofCode (byteAt bytes 1) = some k →
                     (¬ s.Addressed k hdr → Routed [] s t)
                     ∧ ∀ pos, s.Addressed k hdr → payloadFault k (slice bytes 6 (byteAt bytes 5)) = some pos →
                         Routed [.fault, .events] s t
                         ∧ FaultOffered .airMalformed .air (byteAt bytes 1) pos s t)))
    ∧ (∀ (k : DownKind) (p : List Byte) (fs : List (Nat × Nat × Nat)), fs = leadingFields k (byteAt p 3) →
         (∀ n, n < fs.length → FieldsHold (fs.take n) p → ¬ FieldsHold (fs.take (n + 1)) p →
           payloadFault k p = some (n + 1))
         ∧ (FieldsHold fs p → ∀ n rest, n = fs.length → rest = p.drop (fs.map Prod.fst).sum →
             (k ∉ [.offer, .message, .tableSegment, .pass] →
               payloadFault k p = if rest = [] then none else some (n + 1))
             ∧ (k = .tableSegment ∨ k = .pass → payloadFault k p = if rest = [] then some (n + 1) else none)
             ∧ (k = .message →
                 (¬ TextHolds 1 180 rest → payloadFault k p = some (n + 1))
                 ∧ (TextHolds 1 180 rest →
                     payloadFault k p = if rest.length = 1 + byteAt rest 0 then none else some (n + 2)))
             ∧ (k = .offer →
                 (¬ EstimateHolds (byteAt p 3) rest → payloadFault k p = some 4)
                 ∧ (EstimateHolds (byteAt p 3) rest →
                     (¬ TextHolds 0 120 (rest.drop 3) → payloadFault k p = some 5)
                     ∧ (TextHolds 0 120 (rest.drop 3) →
                         payloadFault k p = if rest.length = 4 + byteAt rest 3 then none else some 6)))))

/-- R122, R124 to R126: which kinds and addressings are accepted; R118, R194, R198: the codes of the kinds and the bits of their
classes. R119, R129: what reaches no owner all the same. -/
def Obligations.AddressCheckRoutes : Prop :=
  (∀ (s : State) (k : DownKind) (hdr : AirHeader) (payload : List Byte),
     s.screenFrame k.code hdr payload = .accepted k hdr payload ↔
       payloadFault k payload = none ∧ s.Addressed k hdr)
    ∧ (∀ (s : State) (k : DownKind) (hdr : AirHeader) (payload : List Byte),
         (s.link.record = none → ∃ t, exec (downCommand k hdr payload) s = .next t ∧ OnlyChanges [.pins] s t)
         ∧ (k ≠ .cycle → s.mainRuns = true → s.link.record ≠ none → s.link.run = .stopped →
             s.screenFrame k.code hdr payload = .accepted k hdr payload →
             ∃ t, exec (downCommand k hdr payload) s = .next t ∧ Routed [] s t))
    ∧ (let ks : List DownKind := [.offer, .offerWithdraw, .award, .refuse, .message, .messageRecall, .cycle, .statusPoll,
         .tableOpen, .tableSegment, .tableCommit, .tableAbort, .totalAck, .emergencyAck, .emergencyClear, .pass]
       (∀ k, k ∈ ks) ∧ ks.map DownKind.code = (List.range 16).map (· + 1)
         ∧ ks.map (fun k => k.cls.bit) = [0, 0, 0, 0, 1, 1, 2, 2, 3, 3, 3, 3, 3, 3, 3, 4]
         ∧ (∀ k, (k.cls = .management ↔ k.cls.bit = 3) ∧ DownKind.ofCode k.code = some k)
         ∧ ∀ n k, DownKind.ofCode n = some k → k.code = n)

/-- R130, R131, R135. CYCLE, whatever the run state. -/
def Obligations.CycleOpensOrRepeats : Prop :=
  ∀ (s : State) (hdr : AirHeader) (payload : List Byte) (f : CycleFields) (loaded : Nat),
    s.admits .cycle hdr payload = true → parseCycle payload = .ok f →
    loaded = (if f.quiet then 0 else f.allowance) →
    ∃ t, exec (.cycle hdr payload) s = .next t ∧ OnlyChanges [.time, .link, .events, .check, .pins] s t
      ∧ t.time = { clock := { day := f.day, second := f.second }, known := true }
      ∧ ((∀ now, s.link.cycle = some now → now.number ≠ f.number) →
          t.link = { s.received with
            state := .synced, cycle := some { number := f.number, loaded, quiet := f.quiet }, allowance := loaded
            lossTimer := some s.settings.linkLoss }
          ∧ Raised (if s.link.state = .synced then [] else [.linkState]) s t)
      ∧ (∀ now, s.link.cycle = some now → now.number = f.number →
          t.events = s.events
          ∧ (f.quiet = true → t.link = { s.received with
              state := .synced, cycle := some { now with loaded := 0, quiet := true }, allowance := 0
              lossTimer := some s.settings.linkLoss })
          ∧ (f.quiet = false → t.link = { s.received with
              state := .synced, lossTimer := some s.settings.linkLoss }))

/-! ## The Uplink Arbiter -/

/-- R126, R143: STATUS_POLL. R109, R111, R145, R146, R153: GRANT takes the slot first, else the head of the highest class;
it is charged, built and in flight. R194 to R196: the bytes of an uplink frame and of each payload. R139, R140: each entry's
class, and how entries are counted. -/
def Obligations.PollsAndGrants : Prop :=
  (∀ (s : State) (hdr : AirHeader) (payload : List Byte), s.admits .statusPoll hdr payload = true →
     ∃ t, exec (.statusPoll hdr payload) s = .next t
       ∧ (s.identity.cab = 0 ∨ .status ∈ s.arbiter.queue ∨ 6 ≤ sharedCount s.arbiter.queue → Routed [] s t)
       ∧ (s.identity.cab ≠ 0 → .status ∉ s.arbiter.queue → sharedCount s.arbiter.queue < 6 →
           Routed [.arbiter] s t ∧ t.arbiter = { s.arbiter with queue := s.arbiter.queue ++ [.status] }))
    ∧ (∀ s : State, ∃ t, exec .grant s = .next t
         ∧ (s.mainRuns = false ∨ s.identity.cab = 0 ∨ s.arbiter.inFlight ≠ none ∨ s.arbiter.settle ≠ none →
             OnlyChanges [.pins] s t)
         ∧ (s.mainRuns = true → s.identity.cab ≠ 0 → s.arbiter.inFlight = none → s.arbiter.settle = none →
             (s.arbiter.slot = true →
               OnlyChanges [.arbiter, .pins] s t
               ∧ t.arbiter = { s.arbiter with
                   slot := false
                   inFlight := some
                     { granted := .slot, kind := 0x49, cls := none, cycle := none, timer := 30
                       frame := uplinkFrame s.identity 0x49 s.reportPayload } })
             ∧ (s.arbiter.slot = false →
                 s.link.state ≠ .synced ∨ s.link.allowance = 0 ∨ s.arbiter.queue = []
                   ∨ (s.condition = .parked ∧ s.settings.stopAir = true) →
                 OnlyChanges [.pins] s t)
             ∧ ∀ as e bs, s.arbiter.slot = false → s.link.state = .synced → 1 ≤ s.link.allowance →
                 (s.condition ≠ .parked ∨ s.settings.stopAir = false) → s.arbiter.queue = as ++ e :: bs →
                 (∀ x ∈ as, e.cls < x.cls) → (∀ x ∈ bs, e.cls ≤ x.cls) →
                 OnlyChanges [.link, .arbiter, .offers, .messages, .pins] s t
                 ∧ t.link = { s.link with allowance := s.link.allowance - 1 }
                 ∧ t.arbiter.queue = s.arbiter.queue ∧ t.arbiter.slot = false ∧ t.arbiter.settle = none
                 ∧ (∃ f, t.arbiter.inFlight = some f ∧ f.granted = .entry e ∧ f.kind = e.code ∧ f.cls = some e.cls
                     ∧ f.cycle = s.link.cycle.map CycleNow.number ∧ f.timer = 30
                     ∧ (e ≠ .status → f.frame = uplinkFrame s.identity e.code (s.entryPayload e))
                     ∧ (e = .status → f.frame = uplinkFrame s.identity 0x45
                         (u8 s.link.state.code ++ u8 ((s.link.cycle.map CycleNow.number).getD 0)
                           ++ u8 (s.link.allowance - 1) ++ u16 s.link.crcErrors
                           ++ u8 (classCount s.arbiter.queue 1) ++ u8 (classCount s.arbiter.queue 2)
                           ++ u8 (classCount s.arbiter.queue 3) ++ u8 (classCount s.arbiter.queue 4)
                           ++ u8 (classCount s.arbiter.queue 5)
                           ++ flagByte [false, s.link.cycle.any CycleNow.quiet, s.fault.isSome]
                           ++ u8 s.meter.state.code ++ u8 s.condition.code
                           ++ u16 ((s.tariff.map Tariff.version).getD 0) ++ [0x45#8, 5#8])))
                 ∧ (∀ o, e = .bid o → t.messages = s.messages ∧ t.offers = { s.offers with
                     bid := s.offers.bid.map fun b => { b with stage := .inFlight } })
                 ∧ (∀ o r, e = .bidCancel o r → t.messages = s.messages ∧ t.offers = { s.offers with
                     cancels := s.offers.cancels.map fun c => if c.offer = o then { c with stage := .inFlight } else c })
                 ∧ (∀ id, e = .receipt id → t.offers = s.offers ∧ t.messages = { s.messages with
                     list := s.messages.list.map fun m =>
                       if m.id = id then { m with mark := m.mark.map fun k => { k with stage := .inFlight } } else m })
                 ∧ (e = .receiptRefusal → t.offers = s.offers ∧ t.messages = { s.messages with
                     refusal := s.messages.refusal.map fun r => { r with stage := .inFlight, replaced := false } })
                 ∧ (2 ≤ e.cls → e.isReceipt = false → t.offers = s.offers ∧ t.messages = s.messages)))
    ∧ (∀ (i : Identity) (kind : Nat) (payload : List Byte), ∀ body,
         body = u8 i.fleet ++ u8 kind ++ [0#8] ++ u16 i.cab ++ u8 payload.length ++ payload →
         uplinkFrame i kind payload = body ++ u16 (crc16 body).toNat)
    ∧ (∀ s : State,
         (∀ o z, s.offers.zone = some z → s.HoldsZone z → s.entryPayload (.bid o) = u16 o ++ u16 z)
         ∧ (∀ o, (∀ z, s.offers.zone = some z → ¬ s.HoldsZone z) → s.entryPayload (.bid o) = u16 o ++ [0#8, 0#8])
         ∧ (∀ o, s.entryPayload (.bidCancel o .driverCancel) = u16 o ++ [1#8]
             ∧ s.entryPayload (.bidCancel o .busy) = u16 o ++ [2#8]
             ∧ s.entryPayload (.bidCancel o .notBidding) = u16 o ++ [3#8])
         ∧ (∀ as r bs, s.store.records = as ++ r :: bs → (∀ x ∈ as, x.trip ≠ r.trip) →
             s.entryPayload (.total r.trip) =
               u16 r.trip ++ u16 r.shift ++ u16 (r.jobId.getD 0) ++ u8 r.band ++ u16 r.version
                 ++ u8 r.startClock.day ++ u24 r.startClock.second ++ u8 r.endClock.day ++ u24 r.endClock.second
                 ++ u32 r.distance ++ u32 r.gatedDistance ++ amount r.fare ++ amount r.extrasTotal ++ amount r.total
                 ++ flagByte [r.flags.fareCapped, r.flags.timeUnknown, r.flags.holdUsed, r.flags.emergencyDuring,
                     r.flags.distOverrate])
         ∧ (∀ as m bs k, s.messages.list = as ++ m :: bs → (∀ x ∈ as, x.id ≠ m.id) → m.mark = some k →
             (k.kind = .delivered → s.entryPayload (.receipt m.id) = u16 m.id ++ [1#8, 0#8])
             ∧ (k.kind = .read → s.entryPayload (.receipt m.id) = u16 m.id ++ [2#8, 0#8])
             ∧ ∀ c, k.kind = .answer c → s.entryPayload (.receipt m.id) = u16 m.id ++ [3#8] ++ u8 c)
         ∧ (∀ r, s.messages.refusal = some r → s.entryPayload .receiptRefusal = u16 r.id ++ [4#8, 0#8])
         ∧ (∀ n c, s.entryPayload (.driverMsg n (.code c)) = u8 n ++ u8 c ++ [0#8])
         ∧ (∀ n b, s.entryPayload (.driverMsg n (.text b)) = u8 n ++ [0#8] ++ u8 b.length ++ b)
         ∧ (∀ r, s.entryPayload (.tableResult r) =
             u8 r.table.code ++ u16 r.generation ++ u8 r.result.code ++ u8 (r.reason.elim 0 Reason.code) ++ u16 r.detail)
         ∧ (∀ n r, s.store.pendingReport = some r → s.entryPayload (.shift n) =
             u16 r.shift ++ u16 r.ended ++ shiftSum r.fareSum ++ shiftSum r.extrasSum ++ u32 r.hiredMetres
               ++ u32 r.totalMetres ++ u16 r.ackCount ++ shiftSum r.ackSum ++ u16 r.foldedCount ++ shiftSum r.foldedSum
               ++ u16 r.earlierCount ++ shiftSum r.earlierSum ++ u16 r.storedCount ++ shiftSum r.storedSum)
         ∧ (∀ n b, s.entryPayload (.passUp n b) = u8 n ++ b)
         ∧ (∀ a zone, s.emergency.activation = some a →
             (∀ z, s.offers.zone = some z → s.HoldsZone z → zone = u16 z) →
             ((∀ z, s.offers.zone = some z → ¬ s.HoldsZone z) → zone = [0#8, 0#8]) →
             s.reportPayload =
               u8 s.emergency.reports ++ u16 s.emergency.elapsed ++ u8 a.clock.day ++ u24 a.clock.second
                 ++ u8 s.emergency.state.code ++ u8 s.meter.state.code ++ (match s.meter.state, s.meter.jobId, s.meter.trip with
                     | .assigned, some j, _ => u16 j
                     | .hired, _, some x | .total, _, some x => u16 (x.jobId.getD 0)
                     | _, _, _ => [0#8, 0#8])
                 ++ (match s.meter.state, s.meter.trip with
                     | .hired, some x | .total, some x => amount x.fare ++ u32 (metres x.pulses s.identity.k)
                     | _, _ => [0#8, 0#8, 0#8, 0#8, 0#8, 0#8, 0#8])
                 ++ zone
                 ++ flagByte [s.monitor.seatLevel, s.monitor.ignLevel, a.known,
                     decide (s.meter.state = .hired ∨ s.meter.state = .total) && s.meter.trip.isSome]
                 ++ u8 s.condition.code ++ u8 s.link.state.code))
    ∧ (∀ o r n m d x b,
         [Entry.bid o, .bidCancel o r, .total n, .receipt m, .receiptRefusal, .driverMsg n d, .status, .tableResult x, .shift n,
           .passUp n b].map (fun e => (e.code, e.cls)) =
         [(0x40, 1), (0x41, 1), (0x42, 2), (0x43, 3), (0x43, 3), (0x44, 4), (0x45, 5), (0x46, 5), (0x47, 5), (0x48, 5)])
    ∧ (∀ (q : List Entry) (c : Nat),
         classCount q c = q.countP (fun e => e.cls = c)
           ∧ sharedCount q = q.countP (fun e => 3 ≤ e.cls) + if q.countP (fun e => e.cls = 1) = 2 then 1 else 0)

/-- R46, R55, R69, R94, R96, R110, R143, R148, R181. TX_DONE for the frame in flight: it ends, its entry leaves the
queue and its owner is told; what the owner places then stands at the newest end. -/
def Obligations.TxDoneEndsFrame : Prop :=
  ∀ (s : State) (f : InFlight), s.mainRuns = true → s.arbiter.inFlight = some f →
    ∃ t, exec .txDone s = .next t
      ∧ OnlyChanges [.arbiter, .offers, .store, .messages, .emergency, .terminal, .check, .pins] s t
      ∧ t.arbiter.inFlight = none ∧ t.arbiter.slot = s.arbiter.slot ∧ t.arbiter.settle = s.arbiter.settle
      ∧ (f.granted = .slot → OnlyChanges [.arbiter, .emergency, .check, .pins] s t
          ∧ t.arbiter = { s.arbiter with inFlight := none }
          ∧ t.emergency = { s.emergency with
              reports := min 255 (s.emergency.reports + 1), owed := s.emergency.owed && s.arbiter.slot })
      ∧ (f.granted = .detached → OnlyChanges [.arbiter, .pins] s t
          ∧ t.arbiter = { s.arbiter with inFlight := none })
      ∧ ∀ e, f.granted = .entry e →
          (e = .status ∨ e.isTableResult = true → OnlyChanges [.arbiter, .pins] s t
            ∧ t.arbiter = { s.arbiter with inFlight := none, queue := s.arbiter.queue.erase e })
          ∧ (∀ n, e = .total n → s.store.sender = .queued n → OnlyChanges [.arbiter, .store, .check, .pins] s t
              ∧ t.arbiter = { s.arbiter with inFlight := none, queue := s.arbiter.queue.erase e }
              ∧ t.store = { s.store with sender := .sent n s.settings.ackWait })
          ∧ (∀ n b, e = .driverMsg n b → OnlyChanges [.arbiter, .messages, .pins] s t
              ∧ t.arbiter = { s.arbiter with inFlight := none, queue := s.arbiter.queue.erase e }
              ∧ t.messages = { s.messages with outstanding := s.messages.outstanding - 1, delivered := n })
          ∧ (∀ n b, e = .passUp n b → OnlyChanges [.arbiter, .terminal, .pins] s t
              ∧ t.arbiter = { s.arbiter with inFlight := none, queue := s.arbiter.queue.erase e }
              ∧ t.terminal = { s.terminal with
                  upOutstanding := s.terminal.upOutstanding - 1, upDelivered := n })
          ∧ s.arbiter.queue.erase e <+: t.arbiter.queue
          ∧ (∀ n, e = .shift n → t.offers = s.offers ∧ t.messages = s.messages
              ∧ (s.store.pendingReport = none → t.store = s.store ∧ t.arbiter.queue = s.arbiter.queue.erase e)
              ∧ ∀ r, s.store.pendingReport = some r →
                  (r.shift = n → OnlyChanges [.arbiter, .store, .check, .pins] s t
                    ∧ t.store = { s.store with pendingReport := none }
                    ∧ t.arbiter.queue = s.arbiter.queue.erase e)
                  ∧ (r.shift ≠ n → OnlyChanges [.arbiter, .pins] s t
                    ∧ (((∀ x ∈ s.arbiter.queue.erase e, x.isShift = false)
                          ∧ sharedCount (s.arbiter.queue.erase e) < 6 →
                        t.arbiter.queue = s.arbiter.queue.erase e ++ [.shift r.shift])
                      ∧ ((∃ x ∈ s.arbiter.queue.erase e, x.isShift = true)
                          ∨ 6 ≤ sharedCount (s.arbiter.queue.erase e) →
                        t.arbiter.queue = s.arbiter.queue.erase e))))
          ∧ (e.cls = 1 → OnlyChanges [.arbiter, .offers, .pins] s t
              ∧ t.offers = { s.offers with
                  entries := t.offers.entries, bid := t.offers.bid, cancels := t.offers.cancels }
              ∧ ∀ new, t.arbiter.queue = s.arbiter.queue.erase e ++ new →
                  ∀ x ∈ new, ∃ c ∈ t.offers.cancels, c.stage = .queued ∧ x = .bidCancel c.offer c.reason)
          ∧ (∀ o b, e = .bid o → s.offers.bid = some b → b.offer = o → b.mark ≠ .cancelOnDone →
              t.offers.bid = some { b with stage := .sent, mark := .none }
              ∧ t.offers.entries = s.offers.entries.map (fun x =>
                  if x.id = o ∧ x.state = .bid then { x with waiting := some x.awardWait } else x)
              ∧ t.offers.cancels.map (fun c => (c.offer, c.reason))
                  = s.offers.cancels.map (fun c => (c.offer, c.reason))
              ∧ ((∀ c ∈ t.offers.cancels, c.stage ≠ .owed) ∨ Class1Full t.arbiter.queue))
          ∧ (∀ o b, e = .bid o → s.offers.bid = some b → b.offer = o → b.mark = .cancelOnDone →
              t.offers.bid = none ∧ t.offers.entries = s.offers.entries
              ∧ t.offers.cancels.map (fun c => (c.offer, c.reason))
                  = (oweInto s.offers.cancels { offer := o, reason := .busy, stage := .owed }).map
                      (fun c => (c.offer, c.reason))
              ∧ ((∀ c ∈ t.offers.cancels, c.stage ≠ .owed) ∨ Class1Full t.arbiter.queue))
          ∧ (∀ o r, e = .bidCancel o r → t.offers.entries = s.offers.entries ∧ t.offers.bid = s.offers.bid
              ∧ t.offers.cancels.map (fun c => (c.offer, c.reason))
                  = (s.offers.cancels.filter fun c => c.offer ≠ o).map (fun c => (c.offer, c.reason))
              ∧ ((∀ c ∈ t.offers.cancels, c.stage ≠ .owed) ∨ Class1Full t.arbiter.queue))
          ∧ (e.isReceipt = true → OnlyChanges [.arbiter, .messages, .pins] s t
              ∧ t.messages = { s.messages with
                  list := t.messages.list, owed := t.messages.owed, refusal := t.messages.refusal }
              ∧ ∀ new, t.arbiter.queue = s.arbiter.queue.erase e ++ new →
                  ∀ x ∈ new, ∃ i ∈ t.messages.owed, t.owedStage i = some .queued ∧ x = i.entry)
          ∧ (∀ as m bs k, e = .receipt m.id → (s.messages.list.map Message.id).Nodup →
              s.messages.list = as ++ m :: bs → m.mark = some k →
              t.unplaced = as.map Message.unplaced ++ { m with
                lastSent := some k.kind
                mark := k.next.map fun x => { kind := x, stage := .owed, next := none } } :: bs.map Message.unplaced
              ∧ t.messages.owed =
                  (if k.next = none then s.messages.owed.filter fun i => i ≠ .message m.id else s.messages.owed)
              ∧ t.messages.refusal.map (fun q => (q.id, q.replaced)) = s.messages.refusal.map (fun q => (q.id, q.replaced))
              ∧ (¬ t.ReceiptHeldBack ∨ ReceiptsFull t.arbiter.queue))
          ∧ (∀ r, e = .receiptRefusal → s.messages.refusal = some r → t.unplaced = s.unplaced
              ∧ (r.replaced = false → t.messages.refusal = none
                  ∧ t.messages.owed = s.messages.owed.filter fun i => i ≠ .refusal)
              ∧ (r.replaced = true → t.messages.owed = s.messages.owed
                  ∧ ∃ q, t.messages.refusal = some q ∧ q.id = r.id ∧ q.replaced = false)
              ∧ (¬ t.ReceiptHeldBack ∨ ReceiptsFull t.arbiter.queue))

/-- R134, R149. What a frame that ends unsent leaves of the allowance, and of its owner. R70, R77, R81: a marked bid is given
up, and a stop that waited for its entry takes effect. R55: a SHIFT entry then stands for the newest pending report (log 20). -/
def Obligations.UnsentFrameKept : Prop :=
  ∀ (s : State) (f : InFlight) (c : Instr), s.mainRuns = true → s.arbiter.inFlight = some f →
    (c = .txFail false ∨ c = .txFail true ∨ c = .responseTimerExpiry ∧ f.timer = 0) →
    ∃ t, exec c s = .next t ∧ OnlyChanges [.arbiter, .link, .offers, .messages, .fault, .events, .pins] s t
      ∧ t.arbiter.inFlight = none
      ∧ t.arbiter.settle = (if c = .responseTimerExpiry then some 2 else s.arbiter.settle)
      ∧ t.link = { s.link with
          allowance :=
            if s.link.allowance < ((s.link.cycle.map CycleNow.loaded).getD 0) ∧ f.cycle ≠ none
                ∧ f.cycle = s.link.cycle.map CycleNow.number then s.link.allowance + 1
            else s.link.allowance }
      ∧ t.events.enables = s.events.enables ∧ t.events.lines = s.events.lines
      ∧ (∀ k, k ≠ .offerClosed →
          t.flagged k = (s.flagged k || k = .fault && decide (c ≠ .txFail false) && s.fault.isNone))
      ∧ ((∀ b, s.offers.bid = some b → f.granted = .entry (.bid b.offer) → b.mark ≠ .expiryPending) →
          t.flagged .offerClosed = s.flagged .offerClosed)
      ∧ (f.granted = .detached → t.arbiter.queue = s.arbiter.queue ∧ t.arbiter.slot = s.arbiter.slot
          ∧ t.offers = s.offers ∧ t.messages = s.messages)
      ∧ (f.granted = .slot → t.arbiter.queue = s.arbiter.queue ∧ t.offers = s.offers ∧ t.messages = s.messages
          ∧ t.arbiter.slot = (s.arbiter.slot || s.emergency.owed && s.identity.cab != 0))
      ∧ ∀ e, f.granted = .entry e → t.arbiter.slot = s.arbiter.slot
          ∧ (e.cls = 2 ∨ e.cls = 4 ∨ e.cls = 5 ∧ e.isShift = false →
              t.arbiter.queue = s.arbiter.queue ∧ t.offers = s.offers ∧ t.messages = s.messages)
          ∧ (∀ n, e = .shift n → t.offers = s.offers ∧ t.messages = s.messages
              ∧ (s.store.pendingReport = none → t.arbiter.queue = s.arbiter.queue)
              ∧ ∀ r, s.store.pendingReport = some r → t.arbiter.queue =
                  s.arbiter.queue.map fun x => if x.isShift then .shift r.shift else x)
          ∧ (∀ o b, e = .bid o → s.offers.bid = some b → b.offer = o →
              (b.mark = .none → t.arbiter.queue = s.arbiter.queue
                ∧ t.offers = { s.offers with bid := some { b with stage := .queued } })
              ∧ (b.mark ≠ .none → t.offers.bid = none ∧ CancelsPlaced
                  { Arbiter.without (.bid o) s.arbiter with inFlight := none, settle := t.arbiter.settle } s.offers.cancels t)
              ∧ (b.mark = .cancelOnDone → t.offers = { s.offers with bid := none, cancels := t.offers.cancels })
              ∧ (b.mark = .expiryPending → t.flagged .offerClosed = true
                  ∧ (∀ x ∈ t.offers.entries, x.id = o → x.state = .expired)
                  ∧ ∀ as x bs, s.tableBounded = true → s.bidMatched = true → s.offers.entries = as ++ x :: bs → x.id = o →
                      t.offers = { s.offers.settled as { x with state := .expired, waiting := none } bs with
                        cancels := t.offers.cancels }))
          ∧ (e.cls = 1 → t.messages = s.messages)
          ∧ (e.cls = 3 → t.offers = s.offers)
          ∧ (∀ o r, e = .bidCancel o r → t.arbiter.queue = s.arbiter.queue ∧ t.offers = { s.offers with
              cancels := s.offers.cancels.map fun x => if x.offer = o then { x with stage := .queued } else x })
          ∧ (∀ id, e = .receipt id → t.arbiter.queue = s.arbiter.queue ∧ t.messages = { s.messages with
              list := s.messages.list.map fun m =>
                if m.id = id then
                  { m with mark := m.mark.map fun k => ReceiptMark.mk (k.next.getD k.kind) .queued none }
                else m })
          ∧ (e = .receiptRefusal → t.arbiter.queue = s.arbiter.queue ∧ t.messages = { s.messages with
              refusal := s.messages.refusal.map fun r => { r with stage := .queued, replaced := false } })

/-- R150, R151. The faults of results and timeouts. An expiry that is not due changes nothing (log 5), and a pair of results
during the settle time is ignored as a single one is (log 26): the model's choices. -/
def Obligations.ModemFaults : Prop :=
  ∀ s : State, s.mainRuns = true →
    (∀ f, s.arbiter.inFlight = some f →
      (∃ t, exec (.txFail true) s = .next t
        ∧ t.fault = s.faultAfter .modemProtocol .air f.kind 3)
      ∧ (∃ t, exec (.txFail false) s = .next t ∧ t.fault = s.fault)
      ∧ (f.timer = 0 → ∃ t, exec .responseTimerExpiry s = .next t
        ∧ t.fault = s.faultAfter .modemTimeout .air f.kind (f.cls.getD 0))
      ∧ (f.timer ≠ 0 → ∃ t, exec .responseTimerExpiry s = .next t ∧ OnlyChanges [.pins] s t))
    ∧ (s.arbiter.inFlight = none →
      (s.arbiter.settle = none →
        (∃ t, exec .txDone s = .next t ∧ OnlyChanges [.fault, .events, .pins] s t
          ∧ FaultOffered .modemProtocol .air 0 1 s t)
        ∧ (∃ t, exec (.txFail false) s = .next t ∧ OnlyChanges [.fault, .events, .pins] s t
          ∧ FaultOffered .modemProtocol .air 0 2 s t)
        ∧ ∃ t, exec (.txFail true) s = .next t ∧ OnlyChanges [.fault, .events, .pins] s t
          ∧ FaultOffered .modemProtocol .air 0 3 s t)
      ∧ (s.arbiter.settle ≠ none → ∀ c, c = .txDone ∨ c = .txFail false ∨ c = .txFail true →
          ∃ t, exec c s = .next t ∧ OnlyChanges [.pins] s t))
    ∧ ∃ t, exec .settleTimerExpiry s = .next t
      ∧ (s.arbiter.settle = some 0 → OnlyChanges [.arbiter, .pins] s t
          ∧ t.arbiter = { s.arbiter with settle := none } ∧ t.pins.txAbort = false)
      ∧ (s.arbiter.settle ≠ some 0 → OnlyChanges [.pins] s t)

/-- R45, R55, R76, R93, R141. After PLACE_APPEARS no owner that could be placed waits, and the queue has only grown at
its newest end, by entries of owners that waited: exactly those now stand QUEUED, the oldest of an owner first, and
nothing else of an owner differs. That this is a step of its own is log 3; it holds for every order of the owners (log 4). -/
def Obligations.PlacesRefilled : Prop :=
  ∀ (s : State) (order : OfferOrder), s.mainRuns = true →
    ∃ t new, exec (.placeAppears order) s = .next t
      ∧ OnlyChanges [.arbiter, .offers, .store, .messages, .check, .pins] s t
      ∧ t.arbiter = { s.arbiter with queue := s.arbiter.queue ++ new } ∧ new.Nodup
      ∧ (∀ e ∈ new, (∃ c ∈ s.offers.cancels, c.stage = .owed ∧ e = .bidCancel c.offer c.reason)
          ∨ (∃ r rest, s.store.records = r :: rest ∧ s.store.sender = .idle ∧ e = .total r.trip)
          ∨ (∃ r, s.store.pendingReport = some r ∧ e = .shift r.shift)
          ∨ ∃ i ∈ s.messages.owed, s.owedStage i = some .owed ∧ e = i.entry)
      ∧ t.offers = { s.offers with
          cancels := s.offers.cancels.map fun c =>
            if new.any (Entry.isCancelFor c.offer) then { c with stage := .queued } else c }
      ∧ t.store = { s.store with sender := t.store.sender }
      ∧ (∀ n, .total n ∈ new → t.store.sender = .queued n)
      ∧ ((∀ n, .total n ∉ new) → t.store.sender = s.store.sender)
      ∧ t.messages = { s.messages with
          list := s.messages.list.map fun m =>
            if Entry.receipt m.id ∈ new then { m with mark := m.mark.map fun k => { k with stage := .queued } } else m
          refusal := s.messages.refusal.map fun r =>
            if Entry.receiptRefusal ∈ new then { r with stage := .queued } else r }
      ∧ (s.cancelsBounded = true →
          new.filter Entry.isCancel <+:
            (s.offers.cancels.filter fun c => c.stage = .owed).map fun c => .bidCancel c.offer c.reason)
      ∧ (s.messages.owed.Nodup →
          new.filter Entry.isReceipt <+:
            (s.messages.owed.filter fun i => s.owedStage i = some .owed).map OwedItem.entry)
      ∧ ((∀ c ∈ t.offers.cancels, c.stage ≠ .owed) ∨ Class1Full t.arbiter.queue)
      ∧ (t.store.sender ≠ .idle ∨ t.store.records = [] ∨ 1 ≤ classCount t.arbiter.queue 2)
      ∧ (t.store.pendingReport = none ∨ (∃ e ∈ t.arbiter.queue, e.isShift = true)
          ∨ 6 ≤ sharedCount t.arbiter.queue)
      ∧ (¬ t.ReceiptHeldBack ∨ ReceiptsFull t.arbiter.queue)

/-! ## Table loading -/

/-- R156, R157. TABLE_OPEN from the terminal, and from dispatch, whose results are offered as R142 has it. The bytes of a local
reply, none or the result of the load that was ended, are the model's reading (log 17). -/
def Obligations.LoadsOpen : Prop :=
  (∀ (s : State) (svc : Bool) (tag : Byte) (payload : List Byte), s.mainRuns = true →
     ∃ t, exec (.localTableOpen svc tag payload) s = .next t
       ∧ ((∃ pos, parseOpen payload = .error pos) →
           OnlyReplied s t { kind := 0x9B#8, tag, code := .refusedRange, payload := [] })
       ∧ ∀ f, parseOpen payload = .ok f →
         (f.table = .address ∨ f.table = .tariff ∨ f.table = .settings ∨ f.table = .identity ∧ svc = false →
           OnlyReplied s t { kind := 0x9B#8, tag, code := .refusedAuthority, payload := [] })
         ∧ (f.table = .zone ∨ f.table = .identity ∧ svc = true →
           (s.loader.context = none →
             Answered [.loader] s t { kind := 0x9B#8, tag, code := .ok, payload := [] }
             ∧ t.loader = { s.loader with context := some (f.opened .terminal) })
           ∧ ∀ c, s.loader.context = some c →
             (c.port = .air → OnlyReplied s t { kind := 0x9B#8, tag, code := .refusedBusy, payload := [] })
             ∧ (c.port = .terminal → c.Same f →
                 Answered [.loader] s t { kind := 0x9B#8, tag, code := .ok, payload := [] }
                 ∧ t.loader = { s.loader with context := some { c with timer := 30 } })
             ∧ (c.port = .terminal → ¬ c.Same f → ∀ r, r = c.ends .abortedByNew f.generation →
                 Answered [.loader, .events] s t { kind := 0x9B#8, tag, code := .ok, payload := r.bytes }
                 ∧ t.loader = { context := some (f.opened .terminal), lastTerminal := some r }
                 ∧ Raised [.tableResult] s t)))
    ∧ (∀ (s : State) (hdr : AirHeader) (payload : List Byte) (f : OpenFields),
         s.admits .tableOpen hdr payload = true → parseOpen payload = .ok f →
         ∃ t, exec (.airTableOpen hdr payload) s = .next t
           ∧ (f.table = .identity → Routed [.arbiter, .terminal] s t
               ∧ ResultOffered (LoadResult.mk f.table f.generation .authority none 0) s t)
           ∧ (f.table ≠ .identity →
               (s.loader.context = none → Routed [.loader] s t
                 ∧ t.loader = { s.loader with context := some (f.opened .air) })
               ∧ ∀ c, s.loader.context = some c →
                 (c.port = .terminal → Routed [.arbiter, .terminal] s t
                   ∧ ResultOffered (LoadResult.mk f.table f.generation .busy none 0) s t)
                 ∧ (c.port = .air → c.Same f → Routed [.loader] s t
                     ∧ t.loader = { s.loader with context := some { c with timer := 30 } })
                 ∧ (c.port = .air → ¬ c.Same f → Routed [.loader, .arbiter, .terminal] s t
                     ∧ t.loader = { s.loader with context := some (f.opened .air) }
                     ∧ ResultOffered (c.ends .abortedByNew f.generation) s t)))

/-- R158: TABLE_SEGMENT of the open load, from either port. R159: TABLE_ABORT, and the inactivity timer, which rests at 0 until
its expiry (log 2), and whose expiry does nothing before (log 5). The bytes of a local reply are the model's reading
(log 17). -/
def Obligations.OpenLoadFed : Prop :=
  (∀ (s : State) (c : Load) (f : SegmentFields) (i : Instr) (payload : List Byte),
     s.loader.context = some c → c.table = f.table → c.generation = f.generation → parseSegment payload = .ok f →
     FromPort c.port s .tableSegment payload (.localTableSegment · payload) (.airTableSegment · payload) i →
     ∃ t, exec i s = .next t
       ∧ (c.buffer.length < f.offset → LoadEnded i c.port [] (c.ends .gap c.buffer.length) s t)
       ∧ (f.offset < c.buffer.length →
           ByPort c.port [.loader] s t ∧ RepliedOk i s t (u16 c.buffer.length)
           ∧ t.loader = { s.loader with context := some { c with timer := 30 } })
       ∧ (f.offset = c.buffer.length → c.length < f.offset + f.data.length →
           LoadEnded i c.port [] (c.ends .overlength c.buffer.length) s t)
       ∧ (f.offset = c.buffer.length → f.offset + f.data.length ≤ c.length →
           ByPort c.port [.loader] s t ∧ RepliedOk i s t (u16 (c.buffer.length + f.data.length))
           ∧ t.loader = { s.loader with context := some { c with timer := 30, buffer := c.buffer ++ f.data } }))
    ∧ (∀ (s : State) (c : Load), s.loader.context = some c →
         (∀ (f : AbortFields) (i : Instr) (payload : List Byte),
           c.table = f.table → c.generation = f.generation → parseAbort payload = .ok f →
           FromPort c.port s .tableAbort payload (.localTableAbort · payload) (.airTableAbort · payload) i →
           ∃ t, exec i s = .next t ∧ LoadEnded i c.port [] (c.ends .aborted 0) s t)
         ∧ (s.mainRuns = true → ∃ t, exec .inactivityTimerExpiry s = .next t
           ∧ (c.timer ≠ 0 → OnlyChanges [.pins] s t)
           ∧ (c.timer = 0 → Delivered c.port (c.ends .timeout c.buffer.length) s t
               ∧ match c.port with
                 | .terminal => OnlyChanges [.loader, .events, .pins] s t
                 | .air => OnlyChanges [.loader, .arbiter, .terminal, .pins] s t)))

/-- R160, R161, R163 to R169: TABLE_COMMIT of the open load, from either port, its steps in their order. R21, R81, R114,
R129, R167, R179: what a settings commit does at once; that an armed pattern leaves ROOF as it stands until the next tick is
the model's reading (log 13), as are the bytes of a local reply, the result's (log 17); an identity load of the air port is none
that a run reaches (log 28). -/
def Obligations.CommitTakesSteps : Prop :=
  (∀ (s : State) (c : Load) (f : CommitFields) (svc : Bool) (i : Instr) (payload : List Byte),
     s.loader.context = some c → c.table = f.table → c.generation = f.generation → parseCommit payload = .ok f →
     (c.port = .air → svc = false) →
     FromPort c.port s .tableCommit payload (.localTableCommit svc · payload) (.airTableCommit · payload) i →
     ∃ t, exec i s = .next t
       ∧ (c.buffer.length < c.length → LoadEnded i c.port [] (c.ends .short c.buffer.length) s t)
       ∧ (c.length ≤ c.buffer.length →
           ((crc16 c.buffer).toNat ≠ f.check →
             LoadEnded i c.port [] (c.ends .badCheck (crc16 c.buffer).toNat) s t)
           ∧ ((crc16 c.buffer).toNat = f.check →
             (c.table = .address →
               (∀ d, addressImage c.buffer = .error d → LoadEnded i c.port [] (c.rejects .badAddress d) s t)
               ∧ ∀ x, addressImage c.buffer = .ok x →
                   LoadEnded i c.port [.addresses] (c.ends .ok 0) s t ∧ t.addresses = x)
             ∧ (c.table = .zone →
               (∀ d, zoneImage c.buffer = .error d → LoadEnded i c.port [] (c.rejects .badZone d) s t)
               ∧ ∀ x, zoneImage c.buffer = .ok x →
                   LoadEnded i c.port [.zones] (c.ends .ok 0) s t ∧ t.zones = x)
             ∧ (c.table = .tariff →
               (∀ d, tariffImage c.buffer = .error d → LoadEnded i c.port [] (c.rejects .badTariff d) s t)
               ∧ ∀ x, tariffImage c.buffer = .ok x →
                   LoadEnded i c.port [.tariff, .check] (c.ends .ok 0) s t ∧ t.tariff = some x)
             ∧ (c.table = .settings →
               (∀ d, settingsImage c.buffer = .error d → LoadEnded i c.port [] (c.rejects .badSettings d) s t)
               ∧ ∀ x, settingsImage c.buffer = .ok x →
                   OnlyChanges [.settings, .roof, .offers, .link, .events, .loader, .arbiter, .terminal, .check, .pins] s t
                   ∧ RepliedOk i s t (c.ends .ok 0).bytes
                   ∧ ∀ u, u = State.applySettings x
                       (if c.port = .air then s.withLink { s.link with record := none } else s) →
                     t.settings = x ∧ t.roof = u.roof ∧ t.offers = u.offers
                     ∧ (c.port = .terminal → t.link = u.link ∧ t.arbiter = s.arbiter)
                     ∧ (c.port = .air → t.link = u.received)
                     ∧ Delivered c.port (c.ends .ok 0) u t)
             ∧ (c.table = .identity → svc = false → LoadEnded i c.port [] (c.ends .authority 0) s t)
             ∧ (c.table = .identity → svc = true →
               (∀ d, identityImage c.buffer = .error d → LoadEnded i c.port [] (c.rejects .badIdentity d) s t)
               ∧ ∀ x, identityImage c.buffer = .ok x →
                   (s.meter.state ≠ .off → LoadEnded i c.port [] (c.rejects .meterBusy 0) s t)
                   ∧ (s.meter.state = .off →
                       LoadEnded i c.port [.identity, .arbiter, .check] (c.ends .ok 0) s t ∧ t.identity = x
                       ∧ t.arbiter = { s.arbiter with slot := s.arbiter.slot || s.emergency.owed && !s.slotInFlight })))))
    ∧ (∀ (s : State) (x : Settings),
         let t := s.applySettings x
         OnlyChanges [.settings, .roof, .offers, .link, .events] s t ∧ t.settings = x
           ∧ (s.settings.visible = true → x.visible = false → t.flagged .emergency = false)
           ∧ (s.settings.visible = false ∨ x.visible = true → t.flagged .emergency = s.flagged .emergency)
           ∧ (∀ k, k ≠ .emergency → k ≠ .offerClosed → t.flagged k = s.flagged k)
           ∧ (s.flagged .offerClosed = true → t.flagged .offerClosed = true)
           ∧ (s.mainRuns = true → s.flagged .offerClosed = false →
               (t.flagged .offerClosed = true ↔ t.offers.entries ≠ s.offers.entries))
           ∧ t.events.enables = s.events.enables ∧ t.events.lines = s.events.lines
           ∧ (x.roofPattern = false → t.roof = .steady)
           ∧ (x.roofPattern = true → s.roof = .steady → s.emergency.state = .active ∨ s.emergency.state = .acked →
               t.roof = .armed s.roofLevel)
           ∧ (x.roofPattern = true → s.roof ≠ .steady → t.roof = s.roof)
           ∧ (s.emergency.state = .clear ∨ s.emergency.state = .pressing → s.roof = .steady → t.roof = .steady)
           ∧ (s.condition ≠ .parked → t.link = s.link ∧ t.offers = s.offers)
           ∧ (s.condition = .parked →
               (x.stopAir = false → t.link = { s.link with run := .running })
               ∧ (x.stopAir = true → s.link.run = .running →
                   t.link = { s.link with run := if s.link.record = none then .stopped else .stopping })
               ∧ (x.stopAir = true → s.link.run ≠ .running → t.link = s.link)
               ∧ (x.stopOffers = true → s.offers.run ≠ .running → t.offers = s.offers)
               ∧ (x.stopOffers = false → t.offers = { s.offers with run := .running })
               ∧ (x.stopOffers = true → s.offers.run = .running → (∃ e ∈ s.offers.entries, e.state = .bid) →
                   t.offers = { s.offers with run := .stopping })
               ∧ (x.stopOffers = true → s.offers.run = .running → (∀ e ∈ s.offers.entries, e.state ≠ .bid) →
                   t.offers = { s.offers with run := .stopped, entries := s.offers.entries.map OfferEntry.lapse })))

/-- R158 to R160: a segment, commit or abort that belongs to no open load. R142: a TABLE_RESULT that finds no shared place,
whatever its cause: here of a load that dispatch aborts, of a refused open and of a replaced load; `LoadsOpen`,
`OpenLoadFed` and `CommitTakesSteps` say the same of every other result by `ResultOffered`. -/
def Obligations.StrayFramesAndDisplacement : Prop :=
  (∀ (s : State) (table : TableId) (generation : Nat),
     (∀ (tag : Byte) (payload : List Byte) (i : Instr) (k : Byte), s.mainRuns = true →
       ((∃ f, parseSegment payload = .ok f ∧ f.table = table ∧ f.generation = generation
             ∧ i = .localTableSegment tag payload ∧ k = 0x9C#8)
         ∨ (∃ f svc, parseCommit payload = .ok f ∧ f.table = table ∧ f.generation = generation
             ∧ i = .localTableCommit svc tag payload ∧ k = 0x9D#8)
         ∨ ∃ f, parseAbort payload = .ok f ∧ f.table = table ∧ f.generation = generation
             ∧ i = .localTableAbort tag payload ∧ k = 0x9E#8) →
       ((∃ c, s.loader.context = some c ∧ c.port = .air) →
         ∃ t, exec i s = .next t ∧ OnlyReplied s t { kind := k, tag, code := .refusedBusy, payload := [] })
       ∧ ((∀ c, s.loader.context = some c → c.port = .terminal ∧ (c.table ≠ table ∨ c.generation ≠ generation)) →
         ∃ t, exec i s = .next t ∧ OnlyReplied s t { kind := k, tag, code := .refusedState, payload := [] }))
     ∧ ∀ (hdr : AirHeader) (payload : List Byte) (i : Instr),
       (∀ c, s.loader.context = some c → c.port = .terminal ∨ c.table ≠ table ∨ c.generation ≠ generation) →
       ((∃ f, parseSegment payload = .ok f ∧ f.table = table ∧ f.generation = generation
             ∧ i = .airTableSegment hdr payload ∧ s.admits .tableSegment hdr payload = true)
         ∨ (∃ f, parseCommit payload = .ok f ∧ f.table = table ∧ f.generation = generation
             ∧ i = .airTableCommit hdr payload ∧ s.admits .tableCommit hdr payload = true)
         ∨ ∃ f, parseAbort payload = .ok f ∧ f.table = table ∧ f.generation = generation
             ∧ i = .airTableAbort hdr payload ∧ s.admits .tableAbort hdr payload = true) →
       ∃ t, exec i s = .next t ∧ Routed [] s t)
    ∧ (∀ (s : State) (i : Instr) (r : LoadResult) (as : List Entry) (e : Entry) (bs : List Entry),
         ((∃ c hdr payload f, i = .airTableAbort hdr payload ∧ s.admits .tableAbort hdr payload = true
             ∧ parseAbort payload = .ok f ∧ s.loader.context = some c ∧ c.port = .air ∧ c.table = f.table
             ∧ c.generation = f.generation ∧ r = c.ends .aborted 0)
           ∨ (∃ c hdr payload f, i = .airTableSegment hdr payload ∧ s.admits .tableSegment hdr payload = true
             ∧ parseSegment payload = .ok f ∧ s.loader.context = some c ∧ c.port = .air ∧ c.table = f.table
             ∧ c.generation = f.generation ∧ c.buffer.length < f.offset ∧ r = c.ends .gap c.buffer.length)
           ∨ (∃ c hdr payload f, i = .airTableSegment hdr payload ∧ s.admits .tableSegment hdr payload = true
             ∧ parseSegment payload = .ok f ∧ s.loader.context = some c ∧ c.port = .air ∧ c.table = f.table
             ∧ c.generation = f.generation ∧ f.offset = c.buffer.length ∧ c.length < f.offset + f.data.length
             ∧ r = c.ends .overlength c.buffer.length)
           ∨ (∃ c hdr payload f, i = .airTableCommit hdr payload ∧ s.admits .tableCommit hdr payload = true
             ∧ parseCommit payload = .ok f ∧ s.loader.context = some c ∧ c.port = .air ∧ c.table = f.table
             ∧ c.generation = f.generation ∧ c.buffer.length < c.length ∧ r = c.ends .short c.buffer.length)
           ∨ (∃ c, i = .inactivityTimerExpiry ∧ s.mainRuns = true ∧ s.loader.context = some c ∧ c.port = .air
             ∧ c.timer = 0 ∧ r = c.ends .timeout c.buffer.length)
           ∨ (∃ hdr payload f, i = .airTableOpen hdr payload ∧ s.admits .tableOpen hdr payload = true
             ∧ parseOpen payload = .ok f
             ∧ (f.table = .identity ∧ r = LoadResult.mk f.table f.generation .authority none 0
               ∨ f.table ≠ .identity ∧ ∃ c, s.loader.context = some c
                 ∧ (c.port = .terminal ∧ r = LoadResult.mk f.table f.generation .busy none 0
                   ∨ c.port = .air ∧ ¬ c.Same f ∧ r = c.ends .abortedByNew f.generation)))) →
         6 ≤ sharedCount s.arbiter.queue →
         ∃ t, exec i s = .next t
           ∧ ((∀ x ∈ s.arbiter.queue, x.cls = 5 → x.isTableResult = true ∨ s.entryInFlight x = true) →
               t.arbiter = s.arbiter ∧ t.terminal = s.terminal)
           ∧ (s.arbiter.queue = as ++ e :: bs → e ∉ as → e.cls = 5 → e.isTableResult = false →
               s.entryInFlight e = false →
               (∀ x ∈ bs, x.cls = 5 → x.isTableResult = true ∨ s.entryInFlight x = true) →
               t.arbiter = { s.arbiter with queue := as ++ bs ++ [.tableResult r] }
               ∧ ((∃ n d, e = .passUp n d) → t.terminal = { s.terminal with
                   upOutstanding := s.terminal.upOutstanding - 1
                   upDisplaced := min 255 (s.terminal.upDisplaced + 1) })
               ∧ ((∀ n d, e ≠ .passUp n d) → t.terminal = s.terminal)))

/-- R162 to R164, R166, R168, R24 to R27. What a valid image holds, and which images are rejected with which detail
(R198: a count and the length are step 1). R198: an accepted image is the bytes of the table it gives, laid out record by
record, so every entry, neighbour, band field, window, attribute and extra stands where the image has it. -/
def Obligations.AppliedTablesValid : Prop :=
  (∀ img zs, zoneImage img = .ok zs →
    img = zoneTableBytes zs ∧ zs.length ≤ 32 ∧ (zs.map Zone.number).Nodup
      ∧ ∀ z ∈ zs, 1 ≤ z.number ∧ z.number ≤ 999 ∧ z.neighbours.length ≤ 6 ∧ z.neighbours.Nodup
          ∧ z.number ∉ z.neighbours ∧ ∀ n ∈ z.neighbours, ∃ x ∈ zs, x.number = n)
    ∧ (∀ img es, addressImage img = .ok es →
      img = u8 es.length ++ (es.map AddressEntry.image).flatten
        ∧ es.length ≤ 15 ∧ (es.map fun e => (e.fleet, e.value)).Nodup
        ∧ ∀ e ∈ es, (e.fleet = false → 1 ≤ e.value ∧ e.value ≤ 65534) ∧ e.value ≤ 65535
            ∧ e.classes ≠ 0#8 ∧ e.classes.toNat < 32)
    ∧ (∀ img t, tariffImage img = .ok t →
      img = u16 t.version ++ u8 t.bands.length ++ u8 t.extras.length ++ (t.bands.map Band.image).flatten
            ++ (t.extras.map Extra.image).flatten
        ∧ 1 ≤ t.version ∧ t.version ≤ 65535 ∧ 1 ≤ t.bands.length ∧ t.bands.length ≤ 8 ∧ t.extras.length ≤ 8
        ∧ (t.bands.map Band.number).Nodup ∧ (∃ b ∈ t.bands, b.number = 1 ∧ b.window = none)
        ∧ (∀ b ∈ t.bands, 1 ≤ b.number ∧ b.number ≤ 8 ∧ b.flagFall ≤ 99999 ∧ b.coverage ≤ 15
            ∧ 1 ≤ b.value1 ∧ b.value1 ≤ 9999 ∧ b.length1 ≤ 65535 ∧ b.value2 ≤ 999999
            ∧ (b.length1 ≠ 0 → 1 ≤ b.value2 ∧ b.value2 ≤ 9999)
            ∧ 10 ≤ b.metres ∧ b.metres ≤ 10000 ∧ 1 ≤ b.seconds ∧ b.seconds ≤ 3600
            ∧ ∀ w, b.window = some w → w.start ≤ 86399 ∧ w.stop ≤ 86399 ∧ w.days ≠ 0#8 ∧ w.days.toNat < 128)
        ∧ ∀ e ∈ t.extras, 1 ≤ e.amount ∧ e.amount ≤ 99999 ∧ 1 ≤ e.max ∧ e.max ≤ 9)
    ∧ (∀ img i, identityImage img = .ok i →
      1 ≤ i.cab ∧ i.cab ≤ 65534 ∧ 1 ≤ i.fleet ∧ i.fleet ≤ 255 ∧ 100 ≤ i.k ∧ i.k ≤ 60000)
    ∧ (∀ img x, settingsImage img = .ok x →
      x.reach ≤ 2 ∧ 5 ≤ x.awardWait ∧ x.awardWait ≤ 60 ∧ 5 ≤ x.linkLoss ∧ x.linkLoss ≤ 60 ∧ 10 ≤ x.ackWait
        ∧ x.ackWait ≤ 120 ∧ 5 ≤ x.hold ∧ x.hold ≤ 30 ∧ 2 ≤ x.activeInterval ∧ x.activeInterval ≤ 30
        ∧ 10 ≤ x.ackedInterval ∧ x.ackedInterval ≤ 120 ∧ 5 ≤ x.seatTime ∧ x.seatTime ≤ 60
        ∧ img = u8 x.reach ++ u8 x.awardWait ++ u8 x.linkLoss ++ u8 x.ackWait ++ u8 x.hold ++ u8 x.activeInterval
            ++ u8 x.ackedInterval ++ flag x.visible ++ flag x.roofPattern ++ u8 x.seatTime ++ flag x.stopAir
            ++ flag x.stopOffers)
    ∧ (∀ (img : List Byte) (d : Nat) (range : List (Nat × Nat)),
        range = [(0, 2), (5, 60), (5, 60), (10, 120), (5, 30), (2, 30), (10, 120), (0, 1), (0, 1), (5, 60), (0, 1), (0, 1)] →
        (settingsImage img = .error d ↔
          img.length ≠ 12 ∧ d = 0
            ∨ img.length = 12 ∧ 1 ≤ d ∧ d ≤ 12 ∧ ¬ SettingIn range img d ∧ ∀ j, 1 ≤ j → j < d → SettingIn range img j))
    ∧ (∀ img : List Byte, ∀ cab fleet k, cab = beNat (slice img 0 2) → fleet = byteAt img 2 → k = beNat (slice img 3 2) →
        identityImage img =
          if img.length ≠ 5 then .error 0
          else if cab = 0 ∨ 65534 < cab then .error 1
          else if fleet = 0 then .error 2
          else if k < 100 ∨ 60000 < k then .error 3
          else .ok { cab, fleet, k })
    ∧ (∀ (img : List Byte) (d : Nat),
        addressImage img = .error d ↔
          (15 < byteAt img 0 ∨ img.length ≠ 1 + 4 * byteAt img 0) ∧ d = 0
            ∨ byteAt img 0 ≤ 15 ∧ img.length = 1 + 4 * byteAt img 0 ∧ 1 ≤ d ∧ d ≤ byteAt img 0
              ∧ ¬ AddressRecordGood img d ∧ ∀ j, 1 ≤ j → j < d → AddressRecordGood img j)
    ∧ (∀ img : List Byte, (∀ zs, ZonesFit zs → img ≠ zoneTableBytes zs) → zoneImage img = .error 0)
    ∧ (∀ zs : List Zone, ZonesFit zs →
        (∀ as z bs, zs = as ++ z :: bs → (∀ bs' z' cs, as = bs' ++ z' :: cs → ZoneGood bs' z') → ¬ ZoneGood as z →
          zoneImage (zoneTableBytes zs) = .error z.number)
        ∧ ((∀ as z bs, zs = as ++ z :: bs → ZoneGood as z) →
            (∀ as z bs, zs = as ++ z :: bs → (∀ x ∈ as, ∀ n ∈ x.neighbours, ∃ y ∈ zs, y.number = n) →
              (∃ n ∈ z.neighbours, ∀ y ∈ zs, y.number ≠ n) → zoneImage (zoneTableBytes zs) = .error z.number)
            ∧ ((∀ z ∈ zs, ∀ n ∈ z.neighbours, ∃ y ∈ zs, y.number = n) → zoneImage (zoneTableBytes zs) = .ok zs)))
    ∧ (∀ (img : List Byte) (nb nx : Nat), nb = byteAt img 2 → nx = byteAt img 3 →
        (beNat (slice img 0 2) = 0 ∨ nb = 0 ∨ 8 < nb ∨ 8 < nx ∨ img.length ≠ 4 + 26 * nb + 4 * nx →
          tariffImage img = .error 0)
        ∧ (beNat (slice img 0 2) ≠ 0 → 1 ≤ nb → nb ≤ 8 → nx ≤ 8 → img.length = 4 + 26 * nb + 4 * nx →
            (∀ n, n < nb → (∀ j, j < n → BandRecordGood img j) → ¬ BandRecordGood img n →
              tariffImage img = .error (byteAt img (4 + 26 * n)))
            ∧ ((∀ j, j < nb → BandRecordGood img j) →
                ((∀ j, j < nb → byteAt img (4 + 26 * j) ≠ 1) → tariffImage img = .error 1)
                ∧ ((∃ j, j < nb ∧ byteAt img (4 + 26 * j) = 1) →
                    ((∃ j, j < nx ∧ ¬ ExtraRecordGood img (4 + 26 * nb + 4 * j)) → tariffImage img = .error 0)
                    ∧ ((∀ j, j < nx → ExtraRecordGood img (4 + 26 * nb + 4 * j)) →
                        ∃ x, tariffImage img = .ok x ∧ x.version = beNat (slice img 0 2) ∧ x.bands.length = nb
                          ∧ x.extras.length = nx)))))

/-! ## Resets and the supply -/

/-- R175, R50, R82, R98, R137, R154, R155, R184. SOFT_RESET. -/
def Obligations.SoftResetTakesValues : Prop :=
  ∀ (s : State) (tag : Byte), s.mainRuns = true →
    ∃ t, exec (.softReset tag []) s = .next t
      ∧ OnlyChanges [.store, .offers, .messages, .link, .arbiter, .loader, .terminal, .events, .check, .pins] s t
      ∧ t.terminal = { s.terminal with
          pass := [], upOutstanding := 0, reply := some { kind := 0x9F#8, tag, code := .ok, payload := [] } }
      ∧ Raised (if s.link.state = .search then [] else [.linkState]) s t
      ∧ t.link = { state := .search, cycle := none, allowance := 0, lossTimer := none, crcErrors := 0
                   record := none, run := s.runAtReset s.settings.stopAir }
      ∧ t.loader = { s.loader with context := none }
      ∧ t.offers = { s.offers with
          entries := [], bid := none, run := s.runAtReset s.settings.stopOffers, cancels := t.offers.cancels }
      ∧ t.offers.cancels.map (fun c => (c.offer, c.reason)) = s.offers.cancels.map (fun c => (c.offer, c.reason))
      ∧ t.messages = { s.messages with list := t.messages.list, refusal := t.messages.refusal, outstanding := 0 }
      ∧ t.messages.refusal.map (fun r => (r.id, r.replaced)) = s.messages.refusal.map (fun r => (r.id, false))
      ∧ t.unplaced = s.messages.list.map (fun m => { m with
          mark := m.mark.map fun k => ReceiptMark.mk (k.next.getD k.kind) .owed none })
      ∧ t.store = { s.store with sender := t.store.sender }
      ∧ t.store.sender = (match s.store.records with
          | [] => .idle
          | r :: _ => .queued r.trip)
      ∧ t.arbiter.inFlight = none ∧ t.arbiter.settle = some 2
      ∧ t.arbiter.slot = (s.emergency.owed && s.identity.cab != 0)
      ∧ (∀ e ∈ t.arbiter.queue, (∃ c ∈ s.offers.cancels, e = .bidCancel c.offer c.reason)
          ∨ (∃ r, s.store.records.head? = some r ∧ e = .total r.trip)
          ∨ (∃ r, s.store.pendingReport = some r ∧ e = .shift r.shift) ∨ e.isReceipt = true)
      ∧ (∀ r rest, s.store.records = r :: rest → .total r.trip ∈ t.arbiter.queue)
      ∧ (∀ r, s.store.pendingReport = some r → .shift r.shift ∈ t.arbiter.queue)
      ∧ (∀ c rest, s.offers.cancels = c :: rest → .bidCancel c.offer c.reason ∈ t.arbiter.queue)
      ∧ (s.cancelsBounded = true → s.messagesMatched = true →
          t.Reoffered s.offers.cancels s.store s.messages.owed
          ∧ t.offers.cancels =
              (s.offers.cancels.take 2).map (fun c => { c with stage := .queued })
                ++ (s.offers.cancels.drop 2).map (fun c => { c with stage := .owed })
          ∧ (∀ i ∈ s.messages.owed.take 3, t.owedStage i = some .queued)
          ∧ (∀ i ∈ s.messages.owed.drop 3, t.owedStage i = some .owed))

/-- R188, R191: SHED_ENTRY and POWER_UP; the main domain's state is lost (log 11), and TX_ABORT is held for a frame in flight, or
as it stands while a settle time runs (log 12). R14, R112, R113, R189, R190: SUPPLY_RETURN with a good retained check, with
RESET high, or low, when the main domain stays held (log 14). A SHED_ENTRY or SUPPLY_RETURN that is not due changes nothing
(log 5). -/
def Obligations.SupplyLostAndBack : Prop :=
  (∀ s : State,
     (∃ t, exec .shedEntry s = .next t
       ∧ (s.monitor.supplyUp = false ∨ s.monitor.supplyOk = true → OnlyChanges [.pins] s t)
       ∧ (s.monitor.supplyUp = true → s.monitor.supplyOk = false → ∀ abort,
           abort = (s.arbiter.inFlight.isSome || s.arbiter.settle.isSome) →
           t.condition = .shed
           ∧ t.monitor = { s.monitor with supplyUp := false, confirm := 0, abortHeld := abort }
           ∧ t.MainFresh ∧ t.arbiter.queue = [] ∧ t.events.flags = 0#18 ∧ t.fault = none
           ∧ (∀ b, b ∈ [.time, .pulses, .seat, .roof, .tariff, .emergency, .settings, .identity, .pending] →
               Block.same b s t)
           ∧ t.store = { s.store with sender := .idle }
           ∧ (s.meter.state ≠ .hired → t.meter = s.meter)
           ∧ (∀ x, s.meter.state = .hired → s.meter.trip = some x → t.meter = { s.meter with trip := some { x with
               gateOpen := false
               accumulator := if x.gateOpen && x.copy.gateClears then 0 else x.accumulator } })
           ∧ t.pins.txReq = false ∧ t.pins.txAbort = abort ∧ t.pins.attn = false ∧ t.pins.alert = false))
     ∧ ∃ t, exec .powerUp s = .next t ∧ t.condition = .shed ∧ t.checkFails = true
       ∧ t.monitor = { s.monitor with supplyUp := false, confirm := 0, holding := true, abortHeld := false }
       ∧ (∀ b, b ∈ [.time, .pulses, .meter, .seat, .roof, .tariff, .store, .emergency, .settings, .identity, .pending] →
           Block.same b s t)
       ∧ t.MainFresh ∧ t.pins.roof = false ∧ t.pins.txReq = false ∧ t.pins.txAbort = false
       ∧ t.pins.attn = false ∧ t.pins.alert = false)
    ∧ (∀ s : State,
         ∃ t, exec .supplyReturn s = .next t
           ∧ (s.monitor.supplyUp = true ∨ s.monitor.confirm ≠ 5 → OnlyChanges [.pins] s t)
           ∧ (s.monitor.supplyUp = false → s.monitor.confirm = 5 → s.checkFails = false →
               t.monitor = { s.monitor with supplyUp := true, confirm := 0, abortHeld := false }
               ∧ t.checkFails = false
               ∧ t.condition = (if s.monitor.ignition then .driving else .parked)
               ∧ t.MainFresh ∧ t.fault = none ∧ t.pins.txAbort = true
               ∧ (∀ k, t.flagged k = (k = .condition
                   || k = .emergency && s.settings.visible && s.emergency.state ≠ .clear))
               ∧ (∀ b, b ∈ [.time, .pulses, .seat, .roof, .tariff, .settings, .identity, .pending] → Block.same b s t)
               ∧ t.emergency = { s.emergency with owed := s.emergency.owed || s.emergency.state = .active
                   || s.emergency.state = .acked }
               ∧ t.store = { s.store with sender := t.store.sender }
               ∧ (s.meter.state ≠ .hired ∨ s.meter.hold = true → t.meter = s.meter)
               ∧ (∀ x, s.meter.state = .hired → s.meter.hold = false → s.meter.trip = some x →
                   t.meter = { s.meter with trip := some { x with gateOpen := true } })
               ∧ (s.monitor.resetLow = false →
                   t.arbiter.slot = (t.emergency.owed && s.identity.cab != 0)
                   ∧ t.Reoffered [] s.store []
                   ∧ t.store.sender = (match s.store.records with
                       | [] => .idle
                       | r :: _ => .queued r.trip))
               ∧ (s.monitor.resetLow = true →
                   t.mainRuns = false ∧ t.arbiter.slot = false ∧ t.arbiter.queue = [] ∧ t.store.sender = .idle)))

/-- R190: the RESET pin, with the supply UP; the pin's level is an operand and the events of the reset are set while RESET is low
(log 14), and the run states are worked out again at the release (log 27). R183, R189, R191: a main reset whose check has
failed gives the retained domain its backup-loss values, and the one that follows the supply's return leaves the reset
state, whatever the retained domain held; the values no rule gives are the model's (log 8, log 9). R185: the condition, and
when the main domain works; R82, R137: the run states at a reset. -/
def Obligations.ResetsTakeValues : Prop :=
  (∀ s : State,
     (∃ t, exec (.mainReset false) s = .next t
       ∧ (s.monitor.supplyUp = false → OnlyChanges [.monitor, .pins] s t
           ∧ t.monitor = { s.monitor with resetLow := true })
       ∧ (s.monitor.supplyUp = true → s.monitor.resetLow = false →
           t.mainRuns = false ∧ t.checkFails = false ∧ t.MainFresh ∧ t.arbiter.queue = [] ∧ t.arbiter.slot = false)
       ∧ (s.monitor.supplyUp = true → s.monitor.resetLow = false → s.checkFails = false →
           t.condition = s.condition ∧ t.fault = none
           ∧ (∀ k, t.flagged k = (k = .emergency && s.settings.visible && s.emergency.state ≠ .clear))
           ∧ (∀ b, b ∈ [.time, .pulses, .meter, .seat, .roof, .tariff, .emergency, .settings, .identity, .pending] →
               Block.same b s t)
           ∧ t.store = { s.store with sender := .idle })
       ∧ (s.monitor.supplyUp = true → s.monitor.resetLow = false → s.checkFails = true →
           t.retained = State.reset.retained ∧ t.fault = State.reset.fault ∧ ∀ k, t.flagged k = (k = .fault)))
     ∧ ∃ t, exec (.mainReset true) s = .next t
       ∧ (s.monitor.supplyUp = true → s.monitor.resetLow = true →
           OnlyChanges [.monitor, .offers, .link, .arbiter, .store, .messages, .check, .pins] s t
           ∧ t.monitor = { s.monitor with resetLow := false } ∧ t.mainRuns = true
           ∧ t.offers.run = s.runAtReset s.settings.stopOffers ∧ t.link.run = s.runAtReset s.settings.stopAir
           ∧ (s.arbiter.slot = false → t.arbiter.slot = (s.emergency.owed && s.identity.cab != 0))
           ∧ (s.MainFresh → s.arbiter.queue = [] → s.store.sender = .idle →
               t.Reoffered [] s.store []
               ∧ t.store.sender = (match s.store.records with
                   | [] => .idle
                   | r :: _ => .queued r.trip)))
       ∧ (s.monitor.supplyUp = false ∨ s.monitor.resetLow = false → OnlyChanges [.monitor, .pins] s t
           ∧ t.monitor = { s.monitor with resetLow := false }))
    ∧ (∀ s : State, s.monitor.supplyUp = false → s.monitor.confirm = 5 → s.checkFails = true →
         s.monitor.resetLow = false → s.pending = [] → exec .supplyReturn s = .next State.reset)
    ∧ (∀ s : State,
         (s.condition = .shed ↔ s.monitor.supplyUp = false)
         ∧ (s.condition = .driving ↔ s.monitor.supplyUp = true ∧ s.monitor.ignition = true)
         ∧ (s.condition = .parked ↔ s.monitor.supplyUp = true ∧ s.monitor.ignition = false)
         ∧ (s.mainRuns = true ↔ s.monitor.supplyUp = true ∧ s.monitor.resetLow = false)
         ∧ ∀ stop, s.runAtReset stop =
             if s.monitor.supplyUp = true ∧ s.monitor.ignition = false ∧ stop = true then .stopped else .running)

/-! ## Rules of the whole machine -/

/-- R140. The routine queue keeps its bounds. -/
def Obligations.QueueStaysBounded : Prop :=
  ∀ s t : State, s.queueBounded = true → step s = .next t → t.queueBounded = true

/-- R58, R69, R77. The Offer Table keeps its bounds, and the bid record its entry. R76: the cancel list keeps its bounds. R83,
R85: so does the Message Store, and its owed order the marks. -/
def Obligations.OffersStayMatched : Prop :=
  (∀ s t : State, s.tableBounded = true → s.bidMatched = true → step s = .next t →
     t.tableBounded = true ∧ t.bidMatched = true)
    ∧ (∀ s t : State, s.cancelsBounded = true → step s = .next t → t.cancelsBounded = true)
    ∧ (∀ s t : State, s.messagesMatched = true → step s = .next t → t.messagesMatched = true)
    ∧ (∀ (s : State) (id : Nat),
         OwedItem.entry (.message id) = .receipt id ∧ OwedItem.entry .refusal = .receiptRefusal
           ∧ s.owedStage .refusal = s.messages.refusal.map RefusalOwed.stage
           ∧ (∀ as m bs, s.messages.list = as ++ m :: bs → m.id = id → (∀ x ∈ as, x.id ≠ id) →
               s.owedStage (.message id) = m.mark.map ReceiptMark.stage)
           ∧ ((∀ m ∈ s.messages.list, m.id ≠ id) → s.owedStage (.message id) = none))

/-- R2, R12, R14. What belongs to each meter state stays with it. -/
def Obligations.MeterKeepsShape : Prop :=
  ∀ s t : State, s.meterShape = true → step s = .next t → t.meterShape = true

/-- R42, 3.3: the store keeps its size, and its sender serves the oldest record. R56: trips ended equals acknowledged plus
folded plus stored for the current shift; a shift number that returns after 65,535 shifts must find no record that carries
it. -/
def Obligations.StoreStaysBalanced : Prop :=
  (∀ s t : State, s.storeInOrder = true → step s = .next t → t.storeInOrder = true)
    ∧ (∀ s t : State, s.balanced = true → step s = .next t →
         (∀ tag payload rest, s.pending = .shiftOpen tag payload :: rest → ∀ r ∈ s.store.records,
           r.shift ≠ if s.store.totals.shift = 65535 then 1 else s.store.totals.shift + 1) →
         t.balanced = true)

/-- The reset state meets the conditions that steps keep. -/
def Obligations.ResetMeetsInvariants : Prop :=
  State.reset.queueBounded = true ∧ State.reset.tableBounded = true ∧ State.reset.bidMatched = true
    ∧ State.reset.cancelsBounded = true ∧ State.reset.messagesMatched = true ∧ State.reset.checkFails = false
    ∧ State.reset.meterShape = true ∧ State.reset.storeInOrder = true ∧ State.reset.balanced = true

/-- R10, R19. From HIRE to PAID a trip keeps what HIRE copied; its fare, extras, counts and flags only grow. -/
def Obligations.RunningTripOnlyGrows : Prop :=
  ∀ (c : Instr) (s t : State) (x y : Trip), exec c s = .next t →
    (s.meter.state = .hired ∨ s.meter.state = .total) → s.meter.trip = some x → t.meter.trip = some y →
    x.fare ≤ 999999 → x.extrasTotal ≤ 999999 → x.increments ≤ 999999 → x.pulses ≤ 4294967295 →
    x.gatedPulses ≤ 4294967295 →
    (t.meter.state = .hired ∨ t.meter.state = .total)
      ∧ y.number = x.number ∧ y.jobId = x.jobId ∧ y.band = x.band ∧ y.copy = x.copy ∧ y.version = x.version
      ∧ y.startClock = x.startClock ∧ y.extras.map TripExtra.amount = x.extras.map TripExtra.amount
      ∧ x.fare ≤ y.fare ∧ y.fare ≤ 999999 ∧ x.extrasTotal ≤ y.extrasTotal ∧ y.extrasTotal ≤ 999999
      ∧ x.increments ≤ y.increments ∧ x.pulses ≤ y.pulses ∧ x.gatedPulses ≤ y.gatedPulses
      ∧ (s.meter.state = .total → t.meter.state = .total ∧ y.fare = x.fare ∧ y.increments = x.increments)
      ∧ (∀ f ∈ [TripFlags.fareCapped, TripFlags.timeUnknown, TripFlags.holdUsed, TripFlags.emergencyDuring,
            TripFlags.distOverrate], f x.flags = true → f y.flags = true)

/-- R182: a HELD record keeps its captured fields under every command but RELEASE_FAULT and the steps that end in a main reset or
the loss of the main domain; at most one further fault is counted, and one of a kind of higher priority is marked. R156, R168: the identity changes only by a commit from
the terminal with SVC high and the meter OFF, or by a backup-loss reset. -/
def Obligations.GuardedStateKept : Prop :=
  (∀ (c : Instr) (s t : State) (r : FaultRecord), exec c s = .next t → s.fault = some r →
     (∀ tag payload, c ≠ .releaseFault tag payload) → (∀ level, c ≠ .mainReset level) →
     c ≠ .supplyReturn → c ≠ .shedEntry → c ≠ .powerUp →
     t.fault = some r ∨ ∃ kind : FaultKind, t.fault = some { r with
       further := min 255 (r.further + 1), higher := r.higher || decide (kind.priority < r.kind.priority) })
    ∧ (∀ (c : Instr) (s t : State), exec c s = .next t → t.identity ≠ s.identity →
         (s.meter.state = .off ∧ ∃ tag payload, c = .localTableCommit true tag payload)
           ∨ s.checkFails = true ∧ (c = .supplyReturn ∨ ∃ level, c = .mainReset level))
    ∧ [FaultKind.retainedLost, .distOverrate, .modemTimeout, .modemProtocol, .airMalformed, .terminalMalformed].map
        FaultKind.priority = [1, 2, 3, 4, 5, 6]

/-! ## Encodings -/

/-- R192, R193: fields read back as written, the check sequence bit by bit, and a receiver accepts what a sender's check
sequence closes. R171, R172, R197: the bytes of a local frame, of a reply and of the empty indication; every local request is
read back from its frame. R119 to R127, R194: so is every downlink frame that a state accepts. R195: a
downlink payload gives some fields exactly when they are in range and it is their bytes in the order of R195's table (the
estimate's three bytes are there whatever its flag: R192). -/
def Obligations.FramesReadBack : Prop :=
  ((∀ n, n < 256 → beNat (u8 n) = n)
     ∧ (∀ (bs : List Bool) (i : Nat), i < 8 → ∃ b, flagByte bs = [b] ∧ b.getLsbD i = bs.getD i false)
     ∧ (∀ n, n < 65536 → beNat (u16 n) = n) ∧ (∀ n, n < 16777216 → beNat (u24 n) = n)
     ∧ (∀ n, n < 4294967296 → beNat (u32 n) = n) ∧ (∀ n, n ≤ 999999 → bcdNat (amount n) = some n)
     ∧ (∀ n, n ≤ 99999999 → bcdNat (shiftSum n) = some n) ∧ ∀ bs : List Byte, crcGood (withCrc bs) = true)
    ∧ (crc16 [] = 0xFFFF#16
       ∧ (∀ (bs : List Byte) (b : Byte), crc16 (bs ++ [b]) =
           [7, 6, 5, 4, 3, 2, 1, 0].foldl
             (fun (reg : Word16) i => if reg.msb = b.getLsbD i then reg <<< 1 else (reg <<< 1) ^^^ 0x1021#16) (crc16 bs))
       ∧ ∀ bs : List Byte, withCrc bs = bs ++ u16 (crc16 bs).toNat ∧ (crcGood bs = true ↔ crc16 bs = 0#16))
    ∧ (∀ (kind : Nat) (tag : Byte) (k : DownKind) (hdr : AirHeader) (payload : List Byte) (r : Reply),
         localFrame kind tag payload = withCrc (u8 kind ++ [tag] ++ u8 payload.length ++ payload)
         ∧ downFrame k hdr payload =
             withCrc ([hdr.fleet] ++ u8 k.code ++ [hdr.mode] ++ u16 hdr.addr.toNat ++ u8 payload.length ++ payload)
         ∧ replyFrame none = withCrc [0#8, 0#8, 0#8, 0#8, 0#8]
         ∧ replyFrame (some r) = withCrc ([r.kind, r.tag] ++ u8 r.code.code ++ u16 r.payload.length ++ r.payload)
         ∧ [ReplyCode.ok, .refusedState, .refusedRange, .refusedFull, .refusedBusy, .refusedAuthority, .notFound,
             .unknownKind].map ReplyCode.code = List.range 8)
    ∧ (∀ (svc : Bool) (kind : Nat) (tag : Byte) (payload : List Byte), 0x80 ≤ kind → kind ≤ 0x9F →
         payload.length ≤ 255 →
         ∃ c, selectionCommand svc (localFrame kind tag payload) = some c ∧ requestParts c = some (kind, tag, payload)
           ∧ (∀ b tag' payload', c = .localTableOpen b tag' payload' ∨ c = .localTableCommit b tag' payload' → b = svc))
    ∧ (∀ (s : State) (k : DownKind) (hdr : AirHeader) (payload : List Byte), payload.length ≤ 200 →
         s.screenFrame k.code hdr payload = .accepted k hdr payload →
         s.airCommand (downFrame k hdr payload) = downCommand k hdr payload)
    ∧ (∀ (p : List Byte) (f : OfferFields), parseOffer p = .ok f ↔
         1 ≤ f.id ∧ f.id ≤ 65535 ∧ 5 ≤ f.lifetime ∧ f.lifetime ≤ 255 ∧ (∀ v, f.estimate = some v → v ≤ 999999)
           ∧ f.text.length ≤ 120
           ∧ p = u16 f.id ++ u8 f.lifetime ++ flagByte [f.account, f.estimate.isSome]
               ++ (match f.estimate with
                   | none => [0#8, 0#8, 0#8]
                   | some v => amount v)
               ++ u8 f.text.length ++ f.text)
    ∧ (∀ (p : List Byte) (id : Nat), parseId p = .ok id ↔ 1 ≤ id ∧ id ≤ 65535 ∧ p = u16 id)
    ∧ (∀ (p : List Byte) (f : MessageFields), parseMessage p = .ok f ↔
         1 ≤ f.id ∧ f.id ≤ 65535 ∧ f.options.length ≤ 4 ∧ (∀ c ∈ f.options, 1 ≤ c ∧ c ≤ 255)
           ∧ 1 ≤ f.text.length ∧ f.text.length ≤ 180
           ∧ p = u16 f.id ++ flagByte [f.urgent, f.wanted] ++ u8 f.options.length ++ (f.options.map u8).flatten
               ++ u8 f.text.length ++ f.text)
    ∧ (∀ (p : List Byte) (f : CycleFields), parseCycle p = .ok f ↔
         f.day ≤ 6 ∧ f.second ≤ 86399 ∧ f.number ≤ 255 ∧ f.allowance ≤ 7
           ∧ p = u8 f.day ++ u24 f.second ++ u8 f.number ++ u8 f.allowance ++ flag f.quiet)
    ∧ (∀ p : List Byte, (parseNone p = .ok () ↔ p = []) ∧ ∀ d, parseData p = .ok d ↔ p ≠ [] ∧ d = p)
    ∧ (∀ (p : List Byte) (f : OpenFields), parseOpen p = .ok f ↔
         1 ≤ f.generation ∧ f.generation ≤ 65535 ∧ 1 ≤ f.length ∧ f.length ≤ 4096
           ∧ p = u8 f.table.code ++ u16 f.generation ++ u16 f.length)
    ∧ (∀ (p : List Byte) (f : SegmentFields), parseSegment p = .ok f ↔
         1 ≤ f.generation ∧ f.generation ≤ 65535 ∧ f.offset ≤ 4095 ∧ f.data ≠ []
           ∧ p = u8 f.table.code ++ u16 f.generation ++ u16 f.offset ++ f.data)
    ∧ (∀ (p : List Byte) (f : CommitFields), parseCommit p = .ok f ↔
         1 ≤ f.generation ∧ f.generation ≤ 65535 ∧ f.check ≤ 65535
           ∧ p = u8 f.table.code ++ u16 f.generation ++ u16 f.check)
    ∧ (∀ (p : List Byte) (f : AbortFields), parseAbort p = .ok f ↔
         1 ≤ f.generation ∧ f.generation ≤ 65535 ∧ p = u8 f.table.code ++ u16 f.generation)
    ∧ [TableId.address, .zone, .tariff, .settings, .identity].map TableId.code = [1, 2, 3, 4, 5]
end

