-- ==== Sys2Proof/Laws/State.lean ====
section
/-! SUPPORT. The lemmas of the block updates: an update sets its own field and keeps every other. -/

namespace Sys2Proof.Machine

variable (s : State)

@[simp] theorem State.withTime_time (v : Time) : (s.withTime v).time = v := rfl
@[simp] theorem State.withTime_pulses (v : Time) : (s.withTime v).pulses = s.pulses := rfl
@[simp] theorem State.withTime_meter (v : Time) : (s.withTime v).meter = s.meter := rfl
@[simp] theorem State.withTime_seat (v : Time) : (s.withTime v).seat = s.seat := rfl
@[simp] theorem State.withTime_roof (v : Time) : (s.withTime v).roof = s.roof := rfl
@[simp] theorem State.withTime_tariff (v : Time) : (s.withTime v).tariff = s.tariff := rfl
@[simp] theorem State.withTime_store (v : Time) : (s.withTime v).store = s.store := rfl
@[simp] theorem State.withTime_emergency (v : Time) : (s.withTime v).emergency = s.emergency := rfl
@[simp] theorem State.withTime_settings (v : Time) : (s.withTime v).settings = s.settings := rfl
@[simp] theorem State.withTime_identity (v : Time) : (s.withTime v).identity = s.identity := rfl
@[simp] theorem State.withTime_monitor (v : Time) : (s.withTime v).monitor = s.monitor := rfl
@[simp] theorem State.withTime_offers (v : Time) : (s.withTime v).offers = s.offers := rfl
@[simp] theorem State.withTime_messages (v : Time) : (s.withTime v).messages = s.messages := rfl
@[simp] theorem State.withTime_link (v : Time) : (s.withTime v).link = s.link := rfl
@[simp] theorem State.withTime_arbiter (v : Time) : (s.withTime v).arbiter = s.arbiter := rfl
@[simp] theorem State.withTime_loader (v : Time) : (s.withTime v).loader = s.loader := rfl
@[simp] theorem State.withTime_addresses (v : Time) : (s.withTime v).addresses = s.addresses := rfl
@[simp] theorem State.withTime_zones (v : Time) : (s.withTime v).zones = s.zones := rfl
@[simp] theorem State.withTime_events (v : Time) : (s.withTime v).events = s.events := rfl
@[simp] theorem State.withTime_fault (v : Time) : (s.withTime v).fault = s.fault := rfl
@[simp] theorem State.withTime_terminal (v : Time) : (s.withTime v).terminal = s.terminal := rfl
@[simp] theorem State.withTime_pins (v : Time) : (s.withTime v).pins = s.pins := rfl
@[simp] theorem State.withTime_pending (v : Time) : (s.withTime v).pending = s.pending := rfl
@[simp] theorem State.withTime_check (v : Time) : (s.withTime v).check = s.check := rfl

@[simp] theorem State.withPulses_time (v : Nat) : (s.withPulses v).time = s.time := rfl
@[simp] theorem State.withPulses_pulses (v : Nat) : (s.withPulses v).pulses = v := rfl
@[simp] theorem State.withPulses_meter (v : Nat) : (s.withPulses v).meter = s.meter := rfl
@[simp] theorem State.withPulses_seat (v : Nat) : (s.withPulses v).seat = s.seat := rfl
@[simp] theorem State.withPulses_roof (v : Nat) : (s.withPulses v).roof = s.roof := rfl
@[simp] theorem State.withPulses_tariff (v : Nat) : (s.withPulses v).tariff = s.tariff := rfl
@[simp] theorem State.withPulses_store (v : Nat) : (s.withPulses v).store = s.store := rfl
@[simp] theorem State.withPulses_emergency (v : Nat) : (s.withPulses v).emergency = s.emergency := rfl
@[simp] theorem State.withPulses_settings (v : Nat) : (s.withPulses v).settings = s.settings := rfl
@[simp] theorem State.withPulses_identity (v : Nat) : (s.withPulses v).identity = s.identity := rfl
@[simp] theorem State.withPulses_monitor (v : Nat) : (s.withPulses v).monitor = s.monitor := rfl
@[simp] theorem State.withPulses_offers (v : Nat) : (s.withPulses v).offers = s.offers := rfl
@[simp] theorem State.withPulses_messages (v : Nat) : (s.withPulses v).messages = s.messages := rfl
@[simp] theorem State.withPulses_link (v : Nat) : (s.withPulses v).link = s.link := rfl
@[simp] theorem State.withPulses_arbiter (v : Nat) : (s.withPulses v).arbiter = s.arbiter := rfl
@[simp] theorem State.withPulses_loader (v : Nat) : (s.withPulses v).loader = s.loader := rfl
@[simp] theorem State.withPulses_addresses (v : Nat) : (s.withPulses v).addresses = s.addresses := rfl
@[simp] theorem State.withPulses_zones (v : Nat) : (s.withPulses v).zones = s.zones := rfl
@[simp] theorem State.withPulses_events (v : Nat) : (s.withPulses v).events = s.events := rfl
@[simp] theorem State.withPulses_fault (v : Nat) : (s.withPulses v).fault = s.fault := rfl
@[simp] theorem State.withPulses_terminal (v : Nat) : (s.withPulses v).terminal = s.terminal := rfl
@[simp] theorem State.withPulses_pins (v : Nat) : (s.withPulses v).pins = s.pins := rfl
@[simp] theorem State.withPulses_pending (v : Nat) : (s.withPulses v).pending = s.pending := rfl
@[simp] theorem State.withPulses_check (v : Nat) : (s.withPulses v).check = s.check := rfl

@[simp] theorem State.withMeter_time (v : Meter) : (s.withMeter v).time = s.time := rfl
@[simp] theorem State.withMeter_pulses (v : Meter) : (s.withMeter v).pulses = s.pulses := rfl
@[simp] theorem State.withMeter_meter (v : Meter) : (s.withMeter v).meter = v := rfl
@[simp] theorem State.withMeter_seat (v : Meter) : (s.withMeter v).seat = s.seat := rfl
@[simp] theorem State.withMeter_roof (v : Meter) : (s.withMeter v).roof = s.roof := rfl
@[simp] theorem State.withMeter_tariff (v : Meter) : (s.withMeter v).tariff = s.tariff := rfl
@[simp] theorem State.withMeter_store (v : Meter) : (s.withMeter v).store = s.store := rfl
@[simp] theorem State.withMeter_emergency (v : Meter) : (s.withMeter v).emergency = s.emergency := rfl
@[simp] theorem State.withMeter_settings (v : Meter) : (s.withMeter v).settings = s.settings := rfl
@[simp] theorem State.withMeter_identity (v : Meter) : (s.withMeter v).identity = s.identity := rfl
@[simp] theorem State.withMeter_monitor (v : Meter) : (s.withMeter v).monitor = s.monitor := rfl
@[simp] theorem State.withMeter_offers (v : Meter) : (s.withMeter v).offers = s.offers := rfl
@[simp] theorem State.withMeter_messages (v : Meter) : (s.withMeter v).messages = s.messages := rfl
@[simp] theorem State.withMeter_link (v : Meter) : (s.withMeter v).link = s.link := rfl
@[simp] theorem State.withMeter_arbiter (v : Meter) : (s.withMeter v).arbiter = s.arbiter := rfl
@[simp] theorem State.withMeter_loader (v : Meter) : (s.withMeter v).loader = s.loader := rfl
@[simp] theorem State.withMeter_addresses (v : Meter) : (s.withMeter v).addresses = s.addresses := rfl
@[simp] theorem State.withMeter_zones (v : Meter) : (s.withMeter v).zones = s.zones := rfl
@[simp] theorem State.withMeter_events (v : Meter) : (s.withMeter v).events = s.events := rfl
@[simp] theorem State.withMeter_fault (v : Meter) : (s.withMeter v).fault = s.fault := rfl
@[simp] theorem State.withMeter_terminal (v : Meter) : (s.withMeter v).terminal = s.terminal := rfl
@[simp] theorem State.withMeter_pins (v : Meter) : (s.withMeter v).pins = s.pins := rfl
@[simp] theorem State.withMeter_pending (v : Meter) : (s.withMeter v).pending = s.pending := rfl
@[simp] theorem State.withMeter_check (v : Meter) : (s.withMeter v).check = s.check := rfl

@[simp] theorem State.withSeat_time (v : Seat) : (s.withSeat v).time = s.time := rfl
@[simp] theorem State.withSeat_pulses (v : Seat) : (s.withSeat v).pulses = s.pulses := rfl
@[simp] theorem State.withSeat_meter (v : Seat) : (s.withSeat v).meter = s.meter := rfl
@[simp] theorem State.withSeat_seat (v : Seat) : (s.withSeat v).seat = v := rfl
@[simp] theorem State.withSeat_roof (v : Seat) : (s.withSeat v).roof = s.roof := rfl
@[simp] theorem State.withSeat_tariff (v : Seat) : (s.withSeat v).tariff = s.tariff := rfl
@[simp] theorem State.withSeat_store (v : Seat) : (s.withSeat v).store = s.store := rfl
@[simp] theorem State.withSeat_emergency (v : Seat) : (s.withSeat v).emergency = s.emergency := rfl
@[simp] theorem State.withSeat_settings (v : Seat) : (s.withSeat v).settings = s.settings := rfl
@[simp] theorem State.withSeat_identity (v : Seat) : (s.withSeat v).identity = s.identity := rfl
@[simp] theorem State.withSeat_monitor (v : Seat) : (s.withSeat v).monitor = s.monitor := rfl
@[simp] theorem State.withSeat_offers (v : Seat) : (s.withSeat v).offers = s.offers := rfl
@[simp] theorem State.withSeat_messages (v : Seat) : (s.withSeat v).messages = s.messages := rfl
@[simp] theorem State.withSeat_link (v : Seat) : (s.withSeat v).link = s.link := rfl
@[simp] theorem State.withSeat_arbiter (v : Seat) : (s.withSeat v).arbiter = s.arbiter := rfl
@[simp] theorem State.withSeat_loader (v : Seat) : (s.withSeat v).loader = s.loader := rfl
@[simp] theorem State.withSeat_addresses (v : Seat) : (s.withSeat v).addresses = s.addresses := rfl
@[simp] theorem State.withSeat_zones (v : Seat) : (s.withSeat v).zones = s.zones := rfl
@[simp] theorem State.withSeat_events (v : Seat) : (s.withSeat v).events = s.events := rfl
@[simp] theorem State.withSeat_fault (v : Seat) : (s.withSeat v).fault = s.fault := rfl
@[simp] theorem State.withSeat_terminal (v : Seat) : (s.withSeat v).terminal = s.terminal := rfl
@[simp] theorem State.withSeat_pins (v : Seat) : (s.withSeat v).pins = s.pins := rfl
@[simp] theorem State.withSeat_pending (v : Seat) : (s.withSeat v).pending = s.pending := rfl
@[simp] theorem State.withSeat_check (v : Seat) : (s.withSeat v).check = s.check := rfl

@[simp] theorem State.withRoof_time (v : RoofPhase) : (s.withRoof v).time = s.time := rfl
@[simp] theorem State.withRoof_pulses (v : RoofPhase) : (s.withRoof v).pulses = s.pulses := rfl
@[simp] theorem State.withRoof_meter (v : RoofPhase) : (s.withRoof v).meter = s.meter := rfl
@[simp] theorem State.withRoof_seat (v : RoofPhase) : (s.withRoof v).seat = s.seat := rfl
@[simp] theorem State.withRoof_roof (v : RoofPhase) : (s.withRoof v).roof = v := rfl
@[simp] theorem State.withRoof_tariff (v : RoofPhase) : (s.withRoof v).tariff = s.tariff := rfl
@[simp] theorem State.withRoof_store (v : RoofPhase) : (s.withRoof v).store = s.store := rfl
@[simp] theorem State.withRoof_emergency (v : RoofPhase) : (s.withRoof v).emergency = s.emergency := rfl
@[simp] theorem State.withRoof_settings (v : RoofPhase) : (s.withRoof v).settings = s.settings := rfl
@[simp] theorem State.withRoof_identity (v : RoofPhase) : (s.withRoof v).identity = s.identity := rfl
@[simp] theorem State.withRoof_monitor (v : RoofPhase) : (s.withRoof v).monitor = s.monitor := rfl
@[simp] theorem State.withRoof_offers (v : RoofPhase) : (s.withRoof v).offers = s.offers := rfl
@[simp] theorem State.withRoof_messages (v : RoofPhase) : (s.withRoof v).messages = s.messages := rfl
@[simp] theorem State.withRoof_link (v : RoofPhase) : (s.withRoof v).link = s.link := rfl
@[simp] theorem State.withRoof_arbiter (v : RoofPhase) : (s.withRoof v).arbiter = s.arbiter := rfl
@[simp] theorem State.withRoof_loader (v : RoofPhase) : (s.withRoof v).loader = s.loader := rfl
@[simp] theorem State.withRoof_addresses (v : RoofPhase) : (s.withRoof v).addresses = s.addresses := rfl
@[simp] theorem State.withRoof_zones (v : RoofPhase) : (s.withRoof v).zones = s.zones := rfl
@[simp] theorem State.withRoof_events (v : RoofPhase) : (s.withRoof v).events = s.events := rfl
@[simp] theorem State.withRoof_fault (v : RoofPhase) : (s.withRoof v).fault = s.fault := rfl
@[simp] theorem State.withRoof_terminal (v : RoofPhase) : (s.withRoof v).terminal = s.terminal := rfl
@[simp] theorem State.withRoof_pins (v : RoofPhase) : (s.withRoof v).pins = s.pins := rfl
@[simp] theorem State.withRoof_pending (v : RoofPhase) : (s.withRoof v).pending = s.pending := rfl
@[simp] theorem State.withRoof_check (v : RoofPhase) : (s.withRoof v).check = s.check := rfl

@[simp] theorem State.withTariff_time (v : Option Tariff) : (s.withTariff v).time = s.time := rfl
@[simp] theorem State.withTariff_pulses (v : Option Tariff) : (s.withTariff v).pulses = s.pulses := rfl
@[simp] theorem State.withTariff_meter (v : Option Tariff) : (s.withTariff v).meter = s.meter := rfl
@[simp] theorem State.withTariff_seat (v : Option Tariff) : (s.withTariff v).seat = s.seat := rfl
@[simp] theorem State.withTariff_roof (v : Option Tariff) : (s.withTariff v).roof = s.roof := rfl
@[simp] theorem State.withTariff_tariff (v : Option Tariff) : (s.withTariff v).tariff = v := rfl
@[simp] theorem State.withTariff_store (v : Option Tariff) : (s.withTariff v).store = s.store := rfl
@[simp] theorem State.withTariff_emergency (v : Option Tariff) : (s.withTariff v).emergency = s.emergency := rfl
@[simp] theorem State.withTariff_settings (v : Option Tariff) : (s.withTariff v).settings = s.settings := rfl
@[simp] theorem State.withTariff_identity (v : Option Tariff) : (s.withTariff v).identity = s.identity := rfl
@[simp] theorem State.withTariff_monitor (v : Option Tariff) : (s.withTariff v).monitor = s.monitor := rfl
@[simp] theorem State.withTariff_offers (v : Option Tariff) : (s.withTariff v).offers = s.offers := rfl
@[simp] theorem State.withTariff_messages (v : Option Tariff) : (s.withTariff v).messages = s.messages := rfl
@[simp] theorem State.withTariff_link (v : Option Tariff) : (s.withTariff v).link = s.link := rfl
@[simp] theorem State.withTariff_arbiter (v : Option Tariff) : (s.withTariff v).arbiter = s.arbiter := rfl
@[simp] theorem State.withTariff_loader (v : Option Tariff) : (s.withTariff v).loader = s.loader := rfl
@[simp] theorem State.withTariff_addresses (v : Option Tariff) : (s.withTariff v).addresses = s.addresses := rfl
@[simp] theorem State.withTariff_zones (v : Option Tariff) : (s.withTariff v).zones = s.zones := rfl
@[simp] theorem State.withTariff_events (v : Option Tariff) : (s.withTariff v).events = s.events := rfl
@[simp] theorem State.withTariff_fault (v : Option Tariff) : (s.withTariff v).fault = s.fault := rfl
@[simp] theorem State.withTariff_terminal (v : Option Tariff) : (s.withTariff v).terminal = s.terminal := rfl
@[simp] theorem State.withTariff_pins (v : Option Tariff) : (s.withTariff v).pins = s.pins := rfl
@[simp] theorem State.withTariff_pending (v : Option Tariff) : (s.withTariff v).pending = s.pending := rfl
@[simp] theorem State.withTariff_check (v : Option Tariff) : (s.withTariff v).check = s.check := rfl

@[simp] theorem State.withStore_time (v : Store) : (s.withStore v).time = s.time := rfl
@[simp] theorem State.withStore_pulses (v : Store) : (s.withStore v).pulses = s.pulses := rfl
@[simp] theorem State.withStore_meter (v : Store) : (s.withStore v).meter = s.meter := rfl
@[simp] theorem State.withStore_seat (v : Store) : (s.withStore v).seat = s.seat := rfl
@[simp] theorem State.withStore_roof (v : Store) : (s.withStore v).roof = s.roof := rfl
@[simp] theorem State.withStore_tariff (v : Store) : (s.withStore v).tariff = s.tariff := rfl
@[simp] theorem State.withStore_store (v : Store) : (s.withStore v).store = v := rfl
@[simp] theorem State.withStore_emergency (v : Store) : (s.withStore v).emergency = s.emergency := rfl
@[simp] theorem State.withStore_settings (v : Store) : (s.withStore v).settings = s.settings := rfl
@[simp] theorem State.withStore_identity (v : Store) : (s.withStore v).identity = s.identity := rfl
@[simp] theorem State.withStore_monitor (v : Store) : (s.withStore v).monitor = s.monitor := rfl
@[simp] theorem State.withStore_offers (v : Store) : (s.withStore v).offers = s.offers := rfl
@[simp] theorem State.withStore_messages (v : Store) : (s.withStore v).messages = s.messages := rfl
@[simp] theorem State.withStore_link (v : Store) : (s.withStore v).link = s.link := rfl
@[simp] theorem State.withStore_arbiter (v : Store) : (s.withStore v).arbiter = s.arbiter := rfl
@[simp] theorem State.withStore_loader (v : Store) : (s.withStore v).loader = s.loader := rfl
@[simp] theorem State.withStore_addresses (v : Store) : (s.withStore v).addresses = s.addresses := rfl
@[simp] theorem State.withStore_zones (v : Store) : (s.withStore v).zones = s.zones := rfl
@[simp] theorem State.withStore_events (v : Store) : (s.withStore v).events = s.events := rfl
@[simp] theorem State.withStore_fault (v : Store) : (s.withStore v).fault = s.fault := rfl
@[simp] theorem State.withStore_terminal (v : Store) : (s.withStore v).terminal = s.terminal := rfl
@[simp] theorem State.withStore_pins (v : Store) : (s.withStore v).pins = s.pins := rfl
@[simp] theorem State.withStore_pending (v : Store) : (s.withStore v).pending = s.pending := rfl
@[simp] theorem State.withStore_check (v : Store) : (s.withStore v).check = s.check := rfl

@[simp] theorem State.withEmergency_time (v : Emergency) : (s.withEmergency v).time = s.time := rfl
@[simp] theorem State.withEmergency_pulses (v : Emergency) : (s.withEmergency v).pulses = s.pulses := rfl
@[simp] theorem State.withEmergency_meter (v : Emergency) : (s.withEmergency v).meter = s.meter := rfl
@[simp] theorem State.withEmergency_seat (v : Emergency) : (s.withEmergency v).seat = s.seat := rfl
@[simp] theorem State.withEmergency_roof (v : Emergency) : (s.withEmergency v).roof = s.roof := rfl
@[simp] theorem State.withEmergency_tariff (v : Emergency) : (s.withEmergency v).tariff = s.tariff := rfl
@[simp] theorem State.withEmergency_store (v : Emergency) : (s.withEmergency v).store = s.store := rfl
@[simp] theorem State.withEmergency_emergency (v : Emergency) : (s.withEmergency v).emergency = v := rfl
@[simp] theorem State.withEmergency_settings (v : Emergency) : (s.withEmergency v).settings = s.settings := rfl
@[simp] theorem State.withEmergency_identity (v : Emergency) : (s.withEmergency v).identity = s.identity := rfl
@[simp] theorem State.withEmergency_monitor (v : Emergency) : (s.withEmergency v).monitor = s.monitor := rfl
@[simp] theorem State.withEmergency_offers (v : Emergency) : (s.withEmergency v).offers = s.offers := rfl
@[simp] theorem State.withEmergency_messages (v : Emergency) : (s.withEmergency v).messages = s.messages := rfl
@[simp] theorem State.withEmergency_link (v : Emergency) : (s.withEmergency v).link = s.link := rfl
@[simp] theorem State.withEmergency_arbiter (v : Emergency) : (s.withEmergency v).arbiter = s.arbiter := rfl
@[simp] theorem State.withEmergency_loader (v : Emergency) : (s.withEmergency v).loader = s.loader := rfl
@[simp] theorem State.withEmergency_addresses (v : Emergency) : (s.withEmergency v).addresses = s.addresses := rfl
@[simp] theorem State.withEmergency_zones (v : Emergency) : (s.withEmergency v).zones = s.zones := rfl
@[simp] theorem State.withEmergency_events (v : Emergency) : (s.withEmergency v).events = s.events := rfl
@[simp] theorem State.withEmergency_fault (v : Emergency) : (s.withEmergency v).fault = s.fault := rfl
@[simp] theorem State.withEmergency_terminal (v : Emergency) : (s.withEmergency v).terminal = s.terminal := rfl
@[simp] theorem State.withEmergency_pins (v : Emergency) : (s.withEmergency v).pins = s.pins := rfl
@[simp] theorem State.withEmergency_pending (v : Emergency) : (s.withEmergency v).pending = s.pending := rfl
@[simp] theorem State.withEmergency_check (v : Emergency) : (s.withEmergency v).check = s.check := rfl

@[simp] theorem State.withSettings_time (v : Settings) : (s.withSettings v).time = s.time := rfl
@[simp] theorem State.withSettings_pulses (v : Settings) : (s.withSettings v).pulses = s.pulses := rfl
@[simp] theorem State.withSettings_meter (v : Settings) : (s.withSettings v).meter = s.meter := rfl
@[simp] theorem State.withSettings_seat (v : Settings) : (s.withSettings v).seat = s.seat := rfl
@[simp] theorem State.withSettings_roof (v : Settings) : (s.withSettings v).roof = s.roof := rfl
@[simp] theorem State.withSettings_tariff (v : Settings) : (s.withSettings v).tariff = s.tariff := rfl
@[simp] theorem State.withSettings_store (v : Settings) : (s.withSettings v).store = s.store := rfl
@[simp] theorem State.withSettings_emergency (v : Settings) : (s.withSettings v).emergency = s.emergency := rfl
@[simp] theorem State.withSettings_settings (v : Settings) : (s.withSettings v).settings = v := rfl
@[simp] theorem State.withSettings_identity (v : Settings) : (s.withSettings v).identity = s.identity := rfl
@[simp] theorem State.withSettings_monitor (v : Settings) : (s.withSettings v).monitor = s.monitor := rfl
@[simp] theorem State.withSettings_offers (v : Settings) : (s.withSettings v).offers = s.offers := rfl
@[simp] theorem State.withSettings_messages (v : Settings) : (s.withSettings v).messages = s.messages := rfl
@[simp] theorem State.withSettings_link (v : Settings) : (s.withSettings v).link = s.link := rfl
@[simp] theorem State.withSettings_arbiter (v : Settings) : (s.withSettings v).arbiter = s.arbiter := rfl
@[simp] theorem State.withSettings_loader (v : Settings) : (s.withSettings v).loader = s.loader := rfl
@[simp] theorem State.withSettings_addresses (v : Settings) : (s.withSettings v).addresses = s.addresses := rfl
@[simp] theorem State.withSettings_zones (v : Settings) : (s.withSettings v).zones = s.zones := rfl
@[simp] theorem State.withSettings_events (v : Settings) : (s.withSettings v).events = s.events := rfl
@[simp] theorem State.withSettings_fault (v : Settings) : (s.withSettings v).fault = s.fault := rfl
@[simp] theorem State.withSettings_terminal (v : Settings) : (s.withSettings v).terminal = s.terminal := rfl
@[simp] theorem State.withSettings_pins (v : Settings) : (s.withSettings v).pins = s.pins := rfl
@[simp] theorem State.withSettings_pending (v : Settings) : (s.withSettings v).pending = s.pending := rfl
@[simp] theorem State.withSettings_check (v : Settings) : (s.withSettings v).check = s.check := rfl

@[simp] theorem State.withIdentity_time (v : Identity) : (s.withIdentity v).time = s.time := rfl
@[simp] theorem State.withIdentity_pulses (v : Identity) : (s.withIdentity v).pulses = s.pulses := rfl
@[simp] theorem State.withIdentity_meter (v : Identity) : (s.withIdentity v).meter = s.meter := rfl
@[simp] theorem State.withIdentity_seat (v : Identity) : (s.withIdentity v).seat = s.seat := rfl
@[simp] theorem State.withIdentity_roof (v : Identity) : (s.withIdentity v).roof = s.roof := rfl
@[simp] theorem State.withIdentity_tariff (v : Identity) : (s.withIdentity v).tariff = s.tariff := rfl
@[simp] theorem State.withIdentity_store (v : Identity) : (s.withIdentity v).store = s.store := rfl
@[simp] theorem State.withIdentity_emergency (v : Identity) : (s.withIdentity v).emergency = s.emergency := rfl
@[simp] theorem State.withIdentity_settings (v : Identity) : (s.withIdentity v).settings = s.settings := rfl
@[simp] theorem State.withIdentity_identity (v : Identity) : (s.withIdentity v).identity = v := rfl
@[simp] theorem State.withIdentity_monitor (v : Identity) : (s.withIdentity v).monitor = s.monitor := rfl
@[simp] theorem State.withIdentity_offers (v : Identity) : (s.withIdentity v).offers = s.offers := rfl
@[simp] theorem State.withIdentity_messages (v : Identity) : (s.withIdentity v).messages = s.messages := rfl
@[simp] theorem State.withIdentity_link (v : Identity) : (s.withIdentity v).link = s.link := rfl
@[simp] theorem State.withIdentity_arbiter (v : Identity) : (s.withIdentity v).arbiter = s.arbiter := rfl
@[simp] theorem State.withIdentity_loader (v : Identity) : (s.withIdentity v).loader = s.loader := rfl
@[simp] theorem State.withIdentity_addresses (v : Identity) : (s.withIdentity v).addresses = s.addresses := rfl
@[simp] theorem State.withIdentity_zones (v : Identity) : (s.withIdentity v).zones = s.zones := rfl
@[simp] theorem State.withIdentity_events (v : Identity) : (s.withIdentity v).events = s.events := rfl
@[simp] theorem State.withIdentity_fault (v : Identity) : (s.withIdentity v).fault = s.fault := rfl
@[simp] theorem State.withIdentity_terminal (v : Identity) : (s.withIdentity v).terminal = s.terminal := rfl
@[simp] theorem State.withIdentity_pins (v : Identity) : (s.withIdentity v).pins = s.pins := rfl
@[simp] theorem State.withIdentity_pending (v : Identity) : (s.withIdentity v).pending = s.pending := rfl
@[simp] theorem State.withIdentity_check (v : Identity) : (s.withIdentity v).check = s.check := rfl

@[simp] theorem State.withMonitor_time (v : Monitor) : (s.withMonitor v).time = s.time := rfl
@[simp] theorem State.withMonitor_pulses (v : Monitor) : (s.withMonitor v).pulses = s.pulses := rfl
@[simp] theorem State.withMonitor_meter (v : Monitor) : (s.withMonitor v).meter = s.meter := rfl
@[simp] theorem State.withMonitor_seat (v : Monitor) : (s.withMonitor v).seat = s.seat := rfl
@[simp] theorem State.withMonitor_roof (v : Monitor) : (s.withMonitor v).roof = s.roof := rfl
@[simp] theorem State.withMonitor_tariff (v : Monitor) : (s.withMonitor v).tariff = s.tariff := rfl
@[simp] theorem State.withMonitor_store (v : Monitor) : (s.withMonitor v).store = s.store := rfl
@[simp] theorem State.withMonitor_emergency (v : Monitor) : (s.withMonitor v).emergency = s.emergency := rfl
@[simp] theorem State.withMonitor_settings (v : Monitor) : (s.withMonitor v).settings = s.settings := rfl
@[simp] theorem State.withMonitor_identity (v : Monitor) : (s.withMonitor v).identity = s.identity := rfl
@[simp] theorem State.withMonitor_monitor (v : Monitor) : (s.withMonitor v).monitor = v := rfl
@[simp] theorem State.withMonitor_offers (v : Monitor) : (s.withMonitor v).offers = s.offers := rfl
@[simp] theorem State.withMonitor_messages (v : Monitor) : (s.withMonitor v).messages = s.messages := rfl
@[simp] theorem State.withMonitor_link (v : Monitor) : (s.withMonitor v).link = s.link := rfl
@[simp] theorem State.withMonitor_arbiter (v : Monitor) : (s.withMonitor v).arbiter = s.arbiter := rfl
@[simp] theorem State.withMonitor_loader (v : Monitor) : (s.withMonitor v).loader = s.loader := rfl
@[simp] theorem State.withMonitor_addresses (v : Monitor) : (s.withMonitor v).addresses = s.addresses := rfl
@[simp] theorem State.withMonitor_zones (v : Monitor) : (s.withMonitor v).zones = s.zones := rfl
@[simp] theorem State.withMonitor_events (v : Monitor) : (s.withMonitor v).events = s.events := rfl
@[simp] theorem State.withMonitor_fault (v : Monitor) : (s.withMonitor v).fault = s.fault := rfl
@[simp] theorem State.withMonitor_terminal (v : Monitor) : (s.withMonitor v).terminal = s.terminal := rfl
@[simp] theorem State.withMonitor_pins (v : Monitor) : (s.withMonitor v).pins = s.pins := rfl
@[simp] theorem State.withMonitor_pending (v : Monitor) : (s.withMonitor v).pending = s.pending := rfl
@[simp] theorem State.withMonitor_check (v : Monitor) : (s.withMonitor v).check = s.check := rfl

@[simp] theorem State.withOffers_time (v : Offers) : (s.withOffers v).time = s.time := rfl
@[simp] theorem State.withOffers_pulses (v : Offers) : (s.withOffers v).pulses = s.pulses := rfl
@[simp] theorem State.withOffers_meter (v : Offers) : (s.withOffers v).meter = s.meter := rfl
@[simp] theorem State.withOffers_seat (v : Offers) : (s.withOffers v).seat = s.seat := rfl
@[simp] theorem State.withOffers_roof (v : Offers) : (s.withOffers v).roof = s.roof := rfl
@[simp] theorem State.withOffers_tariff (v : Offers) : (s.withOffers v).tariff = s.tariff := rfl
@[simp] theorem State.withOffers_store (v : Offers) : (s.withOffers v).store = s.store := rfl
@[simp] theorem State.withOffers_emergency (v : Offers) : (s.withOffers v).emergency = s.emergency := rfl
@[simp] theorem State.withOffers_settings (v : Offers) : (s.withOffers v).settings = s.settings := rfl
@[simp] theorem State.withOffers_identity (v : Offers) : (s.withOffers v).identity = s.identity := rfl
@[simp] theorem State.withOffers_monitor (v : Offers) : (s.withOffers v).monitor = s.monitor := rfl
@[simp] theorem State.withOffers_offers (v : Offers) : (s.withOffers v).offers = v := rfl
@[simp] theorem State.withOffers_messages (v : Offers) : (s.withOffers v).messages = s.messages := rfl
@[simp] theorem State.withOffers_link (v : Offers) : (s.withOffers v).link = s.link := rfl
@[simp] theorem State.withOffers_arbiter (v : Offers) : (s.withOffers v).arbiter = s.arbiter := rfl
@[simp] theorem State.withOffers_loader (v : Offers) : (s.withOffers v).loader = s.loader := rfl
@[simp] theorem State.withOffers_addresses (v : Offers) : (s.withOffers v).addresses = s.addresses := rfl
@[simp] theorem State.withOffers_zones (v : Offers) : (s.withOffers v).zones = s.zones := rfl
@[simp] theorem State.withOffers_events (v : Offers) : (s.withOffers v).events = s.events := rfl
@[simp] theorem State.withOffers_fault (v : Offers) : (s.withOffers v).fault = s.fault := rfl
@[simp] theorem State.withOffers_terminal (v : Offers) : (s.withOffers v).terminal = s.terminal := rfl
@[simp] theorem State.withOffers_pins (v : Offers) : (s.withOffers v).pins = s.pins := rfl
@[simp] theorem State.withOffers_pending (v : Offers) : (s.withOffers v).pending = s.pending := rfl
@[simp] theorem State.withOffers_check (v : Offers) : (s.withOffers v).check = s.check := rfl

@[simp] theorem State.withMessages_time (v : Messages) : (s.withMessages v).time = s.time := rfl
@[simp] theorem State.withMessages_pulses (v : Messages) : (s.withMessages v).pulses = s.pulses := rfl
@[simp] theorem State.withMessages_meter (v : Messages) : (s.withMessages v).meter = s.meter := rfl
@[simp] theorem State.withMessages_seat (v : Messages) : (s.withMessages v).seat = s.seat := rfl
@[simp] theorem State.withMessages_roof (v : Messages) : (s.withMessages v).roof = s.roof := rfl
@[simp] theorem State.withMessages_tariff (v : Messages) : (s.withMessages v).tariff = s.tariff := rfl
@[simp] theorem State.withMessages_store (v : Messages) : (s.withMessages v).store = s.store := rfl
@[simp] theorem State.withMessages_emergency (v : Messages) : (s.withMessages v).emergency = s.emergency := rfl
@[simp] theorem State.withMessages_settings (v : Messages) : (s.withMessages v).settings = s.settings := rfl
@[simp] theorem State.withMessages_identity (v : Messages) : (s.withMessages v).identity = s.identity := rfl
@[simp] theorem State.withMessages_monitor (v : Messages) : (s.withMessages v).monitor = s.monitor := rfl
@[simp] theorem State.withMessages_offers (v : Messages) : (s.withMessages v).offers = s.offers := rfl
@[simp] theorem State.withMessages_messages (v : Messages) : (s.withMessages v).messages = v := rfl
@[simp] theorem State.withMessages_link (v : Messages) : (s.withMessages v).link = s.link := rfl
@[simp] theorem State.withMessages_arbiter (v : Messages) : (s.withMessages v).arbiter = s.arbiter := rfl
@[simp] theorem State.withMessages_loader (v : Messages) : (s.withMessages v).loader = s.loader := rfl
@[simp] theorem State.withMessages_addresses (v : Messages) : (s.withMessages v).addresses = s.addresses := rfl
@[simp] theorem State.withMessages_zones (v : Messages) : (s.withMessages v).zones = s.zones := rfl
@[simp] theorem State.withMessages_events (v : Messages) : (s.withMessages v).events = s.events := rfl
@[simp] theorem State.withMessages_fault (v : Messages) : (s.withMessages v).fault = s.fault := rfl
@[simp] theorem State.withMessages_terminal (v : Messages) : (s.withMessages v).terminal = s.terminal := rfl
@[simp] theorem State.withMessages_pins (v : Messages) : (s.withMessages v).pins = s.pins := rfl
@[simp] theorem State.withMessages_pending (v : Messages) : (s.withMessages v).pending = s.pending := rfl
@[simp] theorem State.withMessages_check (v : Messages) : (s.withMessages v).check = s.check := rfl

@[simp] theorem State.withLink_time (v : Link) : (s.withLink v).time = s.time := rfl
@[simp] theorem State.withLink_pulses (v : Link) : (s.withLink v).pulses = s.pulses := rfl
@[simp] theorem State.withLink_meter (v : Link) : (s.withLink v).meter = s.meter := rfl
@[simp] theorem State.withLink_seat (v : Link) : (s.withLink v).seat = s.seat := rfl
@[simp] theorem State.withLink_roof (v : Link) : (s.withLink v).roof = s.roof := rfl
@[simp] theorem State.withLink_tariff (v : Link) : (s.withLink v).tariff = s.tariff := rfl
@[simp] theorem State.withLink_store (v : Link) : (s.withLink v).store = s.store := rfl
@[simp] theorem State.withLink_emergency (v : Link) : (s.withLink v).emergency = s.emergency := rfl
@[simp] theorem State.withLink_settings (v : Link) : (s.withLink v).settings = s.settings := rfl
@[simp] theorem State.withLink_identity (v : Link) : (s.withLink v).identity = s.identity := rfl
@[simp] theorem State.withLink_monitor (v : Link) : (s.withLink v).monitor = s.monitor := rfl
@[simp] theorem State.withLink_offers (v : Link) : (s.withLink v).offers = s.offers := rfl
@[simp] theorem State.withLink_messages (v : Link) : (s.withLink v).messages = s.messages := rfl
@[simp] theorem State.withLink_link (v : Link) : (s.withLink v).link = v := rfl
@[simp] theorem State.withLink_arbiter (v : Link) : (s.withLink v).arbiter = s.arbiter := rfl
@[simp] theorem State.withLink_loader (v : Link) : (s.withLink v).loader = s.loader := rfl
@[simp] theorem State.withLink_addresses (v : Link) : (s.withLink v).addresses = s.addresses := rfl
@[simp] theorem State.withLink_zones (v : Link) : (s.withLink v).zones = s.zones := rfl
@[simp] theorem State.withLink_events (v : Link) : (s.withLink v).events = s.events := rfl
@[simp] theorem State.withLink_fault (v : Link) : (s.withLink v).fault = s.fault := rfl
@[simp] theorem State.withLink_terminal (v : Link) : (s.withLink v).terminal = s.terminal := rfl
@[simp] theorem State.withLink_pins (v : Link) : (s.withLink v).pins = s.pins := rfl
@[simp] theorem State.withLink_pending (v : Link) : (s.withLink v).pending = s.pending := rfl
@[simp] theorem State.withLink_check (v : Link) : (s.withLink v).check = s.check := rfl

@[simp] theorem State.withArbiter_time (v : Arbiter) : (s.withArbiter v).time = s.time := rfl
@[simp] theorem State.withArbiter_pulses (v : Arbiter) : (s.withArbiter v).pulses = s.pulses := rfl
@[simp] theorem State.withArbiter_meter (v : Arbiter) : (s.withArbiter v).meter = s.meter := rfl
@[simp] theorem State.withArbiter_seat (v : Arbiter) : (s.withArbiter v).seat = s.seat := rfl
@[simp] theorem State.withArbiter_roof (v : Arbiter) : (s.withArbiter v).roof = s.roof := rfl
@[simp] theorem State.withArbiter_tariff (v : Arbiter) : (s.withArbiter v).tariff = s.tariff := rfl
@[simp] theorem State.withArbiter_store (v : Arbiter) : (s.withArbiter v).store = s.store := rfl
@[simp] theorem State.withArbiter_emergency (v : Arbiter) : (s.withArbiter v).emergency = s.emergency := rfl
@[simp] theorem State.withArbiter_settings (v : Arbiter) : (s.withArbiter v).settings = s.settings := rfl
@[simp] theorem State.withArbiter_identity (v : Arbiter) : (s.withArbiter v).identity = s.identity := rfl
@[simp] theorem State.withArbiter_monitor (v : Arbiter) : (s.withArbiter v).monitor = s.monitor := rfl
@[simp] theorem State.withArbiter_offers (v : Arbiter) : (s.withArbiter v).offers = s.offers := rfl
@[simp] theorem State.withArbiter_messages (v : Arbiter) : (s.withArbiter v).messages = s.messages := rfl
@[simp] theorem State.withArbiter_link (v : Arbiter) : (s.withArbiter v).link = s.link := rfl
@[simp] theorem State.withArbiter_arbiter (v : Arbiter) : (s.withArbiter v).arbiter = v := rfl
@[simp] theorem State.withArbiter_loader (v : Arbiter) : (s.withArbiter v).loader = s.loader := rfl
@[simp] theorem State.withArbiter_addresses (v : Arbiter) : (s.withArbiter v).addresses = s.addresses := rfl
@[simp] theorem State.withArbiter_zones (v : Arbiter) : (s.withArbiter v).zones = s.zones := rfl
@[simp] theorem State.withArbiter_events (v : Arbiter) : (s.withArbiter v).events = s.events := rfl
@[simp] theorem State.withArbiter_fault (v : Arbiter) : (s.withArbiter v).fault = s.fault := rfl
@[simp] theorem State.withArbiter_terminal (v : Arbiter) : (s.withArbiter v).terminal = s.terminal := rfl
@[simp] theorem State.withArbiter_pins (v : Arbiter) : (s.withArbiter v).pins = s.pins := rfl
@[simp] theorem State.withArbiter_pending (v : Arbiter) : (s.withArbiter v).pending = s.pending := rfl
@[simp] theorem State.withArbiter_check (v : Arbiter) : (s.withArbiter v).check = s.check := rfl

@[simp] theorem State.withLoader_time (v : Loader) : (s.withLoader v).time = s.time := rfl
@[simp] theorem State.withLoader_pulses (v : Loader) : (s.withLoader v).pulses = s.pulses := rfl
@[simp] theorem State.withLoader_meter (v : Loader) : (s.withLoader v).meter = s.meter := rfl
@[simp] theorem State.withLoader_seat (v : Loader) : (s.withLoader v).seat = s.seat := rfl
@[simp] theorem State.withLoader_roof (v : Loader) : (s.withLoader v).roof = s.roof := rfl
@[simp] theorem State.withLoader_tariff (v : Loader) : (s.withLoader v).tariff = s.tariff := rfl
@[simp] theorem State.withLoader_store (v : Loader) : (s.withLoader v).store = s.store := rfl
@[simp] theorem State.withLoader_emergency (v : Loader) : (s.withLoader v).emergency = s.emergency := rfl
@[simp] theorem State.withLoader_settings (v : Loader) : (s.withLoader v).settings = s.settings := rfl
@[simp] theorem State.withLoader_identity (v : Loader) : (s.withLoader v).identity = s.identity := rfl
@[simp] theorem State.withLoader_monitor (v : Loader) : (s.withLoader v).monitor = s.monitor := rfl
@[simp] theorem State.withLoader_offers (v : Loader) : (s.withLoader v).offers = s.offers := rfl
@[simp] theorem State.withLoader_messages (v : Loader) : (s.withLoader v).messages = s.messages := rfl
@[simp] theorem State.withLoader_link (v : Loader) : (s.withLoader v).link = s.link := rfl
@[simp] theorem State.withLoader_arbiter (v : Loader) : (s.withLoader v).arbiter = s.arbiter := rfl
@[simp] theorem State.withLoader_loader (v : Loader) : (s.withLoader v).loader = v := rfl
@[simp] theorem State.withLoader_addresses (v : Loader) : (s.withLoader v).addresses = s.addresses := rfl
@[simp] theorem State.withLoader_zones (v : Loader) : (s.withLoader v).zones = s.zones := rfl
@[simp] theorem State.withLoader_events (v : Loader) : (s.withLoader v).events = s.events := rfl
@[simp] theorem State.withLoader_fault (v : Loader) : (s.withLoader v).fault = s.fault := rfl
@[simp] theorem State.withLoader_terminal (v : Loader) : (s.withLoader v).terminal = s.terminal := rfl
@[simp] theorem State.withLoader_pins (v : Loader) : (s.withLoader v).pins = s.pins := rfl
@[simp] theorem State.withLoader_pending (v : Loader) : (s.withLoader v).pending = s.pending := rfl
@[simp] theorem State.withLoader_check (v : Loader) : (s.withLoader v).check = s.check := rfl

@[simp] theorem State.withAddresses_time (v : List AddressEntry) : (s.withAddresses v).time = s.time := rfl
@[simp] theorem State.withAddresses_pulses (v : List AddressEntry) : (s.withAddresses v).pulses = s.pulses := rfl
@[simp] theorem State.withAddresses_meter (v : List AddressEntry) : (s.withAddresses v).meter = s.meter := rfl
@[simp] theorem State.withAddresses_seat (v : List AddressEntry) : (s.withAddresses v).seat = s.seat := rfl
@[simp] theorem State.withAddresses_roof (v : List AddressEntry) : (s.withAddresses v).roof = s.roof := rfl
@[simp] theorem State.withAddresses_tariff (v : List AddressEntry) : (s.withAddresses v).tariff = s.tariff := rfl
@[simp] theorem State.withAddresses_store (v : List AddressEntry) : (s.withAddresses v).store = s.store := rfl
@[simp] theorem State.withAddresses_emergency (v : List AddressEntry) : (s.withAddresses v).emergency = s.emergency := rfl
@[simp] theorem State.withAddresses_settings (v : List AddressEntry) : (s.withAddresses v).settings = s.settings := rfl
@[simp] theorem State.withAddresses_identity (v : List AddressEntry) : (s.withAddresses v).identity = s.identity := rfl
@[simp] theorem State.withAddresses_monitor (v : List AddressEntry) : (s.withAddresses v).monitor = s.monitor := rfl
@[simp] theorem State.withAddresses_offers (v : List AddressEntry) : (s.withAddresses v).offers = s.offers := rfl
@[simp] theorem State.withAddresses_messages (v : List AddressEntry) : (s.withAddresses v).messages = s.messages := rfl
@[simp] theorem State.withAddresses_link (v : List AddressEntry) : (s.withAddresses v).link = s.link := rfl
@[simp] theorem State.withAddresses_arbiter (v : List AddressEntry) : (s.withAddresses v).arbiter = s.arbiter := rfl
@[simp] theorem State.withAddresses_loader (v : List AddressEntry) : (s.withAddresses v).loader = s.loader := rfl
@[simp] theorem State.withAddresses_addresses (v : List AddressEntry) : (s.withAddresses v).addresses = v := rfl
@[simp] theorem State.withAddresses_zones (v : List AddressEntry) : (s.withAddresses v).zones = s.zones := rfl
@[simp] theorem State.withAddresses_events (v : List AddressEntry) : (s.withAddresses v).events = s.events := rfl
@[simp] theorem State.withAddresses_fault (v : List AddressEntry) : (s.withAddresses v).fault = s.fault := rfl
@[simp] theorem State.withAddresses_terminal (v : List AddressEntry) : (s.withAddresses v).terminal = s.terminal := rfl
@[simp] theorem State.withAddresses_pins (v : List AddressEntry) : (s.withAddresses v).pins = s.pins := rfl
@[simp] theorem State.withAddresses_pending (v : List AddressEntry) : (s.withAddresses v).pending = s.pending := rfl
@[simp] theorem State.withAddresses_check (v : List AddressEntry) : (s.withAddresses v).check = s.check := rfl

@[simp] theorem State.withZones_time (v : List Zone) : (s.withZones v).time = s.time := rfl
@[simp] theorem State.withZones_pulses (v : List Zone) : (s.withZones v).pulses = s.pulses := rfl
@[simp] theorem State.withZones_meter (v : List Zone) : (s.withZones v).meter = s.meter := rfl
@[simp] theorem State.withZones_seat (v : List Zone) : (s.withZones v).seat = s.seat := rfl
@[simp] theorem State.withZones_roof (v : List Zone) : (s.withZones v).roof = s.roof := rfl
@[simp] theorem State.withZones_tariff (v : List Zone) : (s.withZones v).tariff = s.tariff := rfl
@[simp] theorem State.withZones_store (v : List Zone) : (s.withZones v).store = s.store := rfl
@[simp] theorem State.withZones_emergency (v : List Zone) : (s.withZones v).emergency = s.emergency := rfl
@[simp] theorem State.withZones_settings (v : List Zone) : (s.withZones v).settings = s.settings := rfl
@[simp] theorem State.withZones_identity (v : List Zone) : (s.withZones v).identity = s.identity := rfl
@[simp] theorem State.withZones_monitor (v : List Zone) : (s.withZones v).monitor = s.monitor := rfl
@[simp] theorem State.withZones_offers (v : List Zone) : (s.withZones v).offers = s.offers := rfl
@[simp] theorem State.withZones_messages (v : List Zone) : (s.withZones v).messages = s.messages := rfl
@[simp] theorem State.withZones_link (v : List Zone) : (s.withZones v).link = s.link := rfl
@[simp] theorem State.withZones_arbiter (v : List Zone) : (s.withZones v).arbiter = s.arbiter := rfl
@[simp] theorem State.withZones_loader (v : List Zone) : (s.withZones v).loader = s.loader := rfl
@[simp] theorem State.withZones_addresses (v : List Zone) : (s.withZones v).addresses = s.addresses := rfl
@[simp] theorem State.withZones_zones (v : List Zone) : (s.withZones v).zones = v := rfl
@[simp] theorem State.withZones_events (v : List Zone) : (s.withZones v).events = s.events := rfl
@[simp] theorem State.withZones_fault (v : List Zone) : (s.withZones v).fault = s.fault := rfl
@[simp] theorem State.withZones_terminal (v : List Zone) : (s.withZones v).terminal = s.terminal := rfl
@[simp] theorem State.withZones_pins (v : List Zone) : (s.withZones v).pins = s.pins := rfl
@[simp] theorem State.withZones_pending (v : List Zone) : (s.withZones v).pending = s.pending := rfl
@[simp] theorem State.withZones_check (v : List Zone) : (s.withZones v).check = s.check := rfl

@[simp] theorem State.withEvents_time (v : Events) : (s.withEvents v).time = s.time := rfl
@[simp] theorem State.withEvents_pulses (v : Events) : (s.withEvents v).pulses = s.pulses := rfl
@[simp] theorem State.withEvents_meter (v : Events) : (s.withEvents v).meter = s.meter := rfl
@[simp] theorem State.withEvents_seat (v : Events) : (s.withEvents v).seat = s.seat := rfl
@[simp] theorem State.withEvents_roof (v : Events) : (s.withEvents v).roof = s.roof := rfl
@[simp] theorem State.withEvents_tariff (v : Events) : (s.withEvents v).tariff = s.tariff := rfl
@[simp] theorem State.withEvents_store (v : Events) : (s.withEvents v).store = s.store := rfl
@[simp] theorem State.withEvents_emergency (v : Events) : (s.withEvents v).emergency = s.emergency := rfl
@[simp] theorem State.withEvents_settings (v : Events) : (s.withEvents v).settings = s.settings := rfl
@[simp] theorem State.withEvents_identity (v : Events) : (s.withEvents v).identity = s.identity := rfl
@[simp] theorem State.withEvents_monitor (v : Events) : (s.withEvents v).monitor = s.monitor := rfl
@[simp] theorem State.withEvents_offers (v : Events) : (s.withEvents v).offers = s.offers := rfl
@[simp] theorem State.withEvents_messages (v : Events) : (s.withEvents v).messages = s.messages := rfl
@[simp] theorem State.withEvents_link (v : Events) : (s.withEvents v).link = s.link := rfl
@[simp] theorem State.withEvents_arbiter (v : Events) : (s.withEvents v).arbiter = s.arbiter := rfl
@[simp] theorem State.withEvents_loader (v : Events) : (s.withEvents v).loader = s.loader := rfl
@[simp] theorem State.withEvents_addresses (v : Events) : (s.withEvents v).addresses = s.addresses := rfl
@[simp] theorem State.withEvents_zones (v : Events) : (s.withEvents v).zones = s.zones := rfl
@[simp] theorem State.withEvents_events (v : Events) : (s.withEvents v).events = v := rfl
@[simp] theorem State.withEvents_fault (v : Events) : (s.withEvents v).fault = s.fault := rfl
@[simp] theorem State.withEvents_terminal (v : Events) : (s.withEvents v).terminal = s.terminal := rfl
@[simp] theorem State.withEvents_pins (v : Events) : (s.withEvents v).pins = s.pins := rfl
@[simp] theorem State.withEvents_pending (v : Events) : (s.withEvents v).pending = s.pending := rfl
@[simp] theorem State.withEvents_check (v : Events) : (s.withEvents v).check = s.check := rfl

@[simp] theorem State.withFault_time (v : Option FaultRecord) : (s.withFault v).time = s.time := rfl
@[simp] theorem State.withFault_pulses (v : Option FaultRecord) : (s.withFault v).pulses = s.pulses := rfl
@[simp] theorem State.withFault_meter (v : Option FaultRecord) : (s.withFault v).meter = s.meter := rfl
@[simp] theorem State.withFault_seat (v : Option FaultRecord) : (s.withFault v).seat = s.seat := rfl
@[simp] theorem State.withFault_roof (v : Option FaultRecord) : (s.withFault v).roof = s.roof := rfl
@[simp] theorem State.withFault_tariff (v : Option FaultRecord) : (s.withFault v).tariff = s.tariff := rfl
@[simp] theorem State.withFault_store (v : Option FaultRecord) : (s.withFault v).store = s.store := rfl
@[simp] theorem State.withFault_emergency (v : Option FaultRecord) : (s.withFault v).emergency = s.emergency := rfl
@[simp] theorem State.withFault_settings (v : Option FaultRecord) : (s.withFault v).settings = s.settings := rfl
@[simp] theorem State.withFault_identity (v : Option FaultRecord) : (s.withFault v).identity = s.identity := rfl
@[simp] theorem State.withFault_monitor (v : Option FaultRecord) : (s.withFault v).monitor = s.monitor := rfl
@[simp] theorem State.withFault_offers (v : Option FaultRecord) : (s.withFault v).offers = s.offers := rfl
@[simp] theorem State.withFault_messages (v : Option FaultRecord) : (s.withFault v).messages = s.messages := rfl
@[simp] theorem State.withFault_link (v : Option FaultRecord) : (s.withFault v).link = s.link := rfl
@[simp] theorem State.withFault_arbiter (v : Option FaultRecord) : (s.withFault v).arbiter = s.arbiter := rfl
@[simp] theorem State.withFault_loader (v : Option FaultRecord) : (s.withFault v).loader = s.loader := rfl
@[simp] theorem State.withFault_addresses (v : Option FaultRecord) : (s.withFault v).addresses = s.addresses := rfl
@[simp] theorem State.withFault_zones (v : Option FaultRecord) : (s.withFault v).zones = s.zones := rfl
@[simp] theorem State.withFault_events (v : Option FaultRecord) : (s.withFault v).events = s.events := rfl
@[simp] theorem State.withFault_fault (v : Option FaultRecord) : (s.withFault v).fault = v := rfl
@[simp] theorem State.withFault_terminal (v : Option FaultRecord) : (s.withFault v).terminal = s.terminal := rfl
@[simp] theorem State.withFault_pins (v : Option FaultRecord) : (s.withFault v).pins = s.pins := rfl
@[simp] theorem State.withFault_pending (v : Option FaultRecord) : (s.withFault v).pending = s.pending := rfl
@[simp] theorem State.withFault_check (v : Option FaultRecord) : (s.withFault v).check = s.check := rfl

@[simp] theorem State.withTerminal_time (v : Terminal) : (s.withTerminal v).time = s.time := rfl
@[simp] theorem State.withTerminal_pulses (v : Terminal) : (s.withTerminal v).pulses = s.pulses := rfl
@[simp] theorem State.withTerminal_meter (v : Terminal) : (s.withTerminal v).meter = s.meter := rfl
@[simp] theorem State.withTerminal_seat (v : Terminal) : (s.withTerminal v).seat = s.seat := rfl
@[simp] theorem State.withTerminal_roof (v : Terminal) : (s.withTerminal v).roof = s.roof := rfl
@[simp] theorem State.withTerminal_tariff (v : Terminal) : (s.withTerminal v).tariff = s.tariff := rfl
@[simp] theorem State.withTerminal_store (v : Terminal) : (s.withTerminal v).store = s.store := rfl
@[simp] theorem State.withTerminal_emergency (v : Terminal) : (s.withTerminal v).emergency = s.emergency := rfl
@[simp] theorem State.withTerminal_settings (v : Terminal) : (s.withTerminal v).settings = s.settings := rfl
@[simp] theorem State.withTerminal_identity (v : Terminal) : (s.withTerminal v).identity = s.identity := rfl
@[simp] theorem State.withTerminal_monitor (v : Terminal) : (s.withTerminal v).monitor = s.monitor := rfl
@[simp] theorem State.withTerminal_offers (v : Terminal) : (s.withTerminal v).offers = s.offers := rfl
@[simp] theorem State.withTerminal_messages (v : Terminal) : (s.withTerminal v).messages = s.messages := rfl
@[simp] theorem State.withTerminal_link (v : Terminal) : (s.withTerminal v).link = s.link := rfl
@[simp] theorem State.withTerminal_arbiter (v : Terminal) : (s.withTerminal v).arbiter = s.arbiter := rfl
@[simp] theorem State.withTerminal_loader (v : Terminal) : (s.withTerminal v).loader = s.loader := rfl
@[simp] theorem State.withTerminal_addresses (v : Terminal) : (s.withTerminal v).addresses = s.addresses := rfl
@[simp] theorem State.withTerminal_zones (v : Terminal) : (s.withTerminal v).zones = s.zones := rfl
@[simp] theorem State.withTerminal_events (v : Terminal) : (s.withTerminal v).events = s.events := rfl
@[simp] theorem State.withTerminal_fault (v : Terminal) : (s.withTerminal v).fault = s.fault := rfl
@[simp] theorem State.withTerminal_terminal (v : Terminal) : (s.withTerminal v).terminal = v := rfl
@[simp] theorem State.withTerminal_pins (v : Terminal) : (s.withTerminal v).pins = s.pins := rfl
@[simp] theorem State.withTerminal_pending (v : Terminal) : (s.withTerminal v).pending = s.pending := rfl
@[simp] theorem State.withTerminal_check (v : Terminal) : (s.withTerminal v).check = s.check := rfl

@[simp] theorem State.withPins_time (v : Pins) : (s.withPins v).time = s.time := rfl
@[simp] theorem State.withPins_pulses (v : Pins) : (s.withPins v).pulses = s.pulses := rfl
@[simp] theorem State.withPins_meter (v : Pins) : (s.withPins v).meter = s.meter := rfl
@[simp] theorem State.withPins_seat (v : Pins) : (s.withPins v).seat = s.seat := rfl
@[simp] theorem State.withPins_roof (v : Pins) : (s.withPins v).roof = s.roof := rfl
@[simp] theorem State.withPins_tariff (v : Pins) : (s.withPins v).tariff = s.tariff := rfl
@[simp] theorem State.withPins_store (v : Pins) : (s.withPins v).store = s.store := rfl
@[simp] theorem State.withPins_emergency (v : Pins) : (s.withPins v).emergency = s.emergency := rfl
@[simp] theorem State.withPins_settings (v : Pins) : (s.withPins v).settings = s.settings := rfl
@[simp] theorem State.withPins_identity (v : Pins) : (s.withPins v).identity = s.identity := rfl
@[simp] theorem State.withPins_monitor (v : Pins) : (s.withPins v).monitor = s.monitor := rfl
@[simp] theorem State.withPins_offers (v : Pins) : (s.withPins v).offers = s.offers := rfl
@[simp] theorem State.withPins_messages (v : Pins) : (s.withPins v).messages = s.messages := rfl
@[simp] theorem State.withPins_link (v : Pins) : (s.withPins v).link = s.link := rfl
@[simp] theorem State.withPins_arbiter (v : Pins) : (s.withPins v).arbiter = s.arbiter := rfl
@[simp] theorem State.withPins_loader (v : Pins) : (s.withPins v).loader = s.loader := rfl
@[simp] theorem State.withPins_addresses (v : Pins) : (s.withPins v).addresses = s.addresses := rfl
@[simp] theorem State.withPins_zones (v : Pins) : (s.withPins v).zones = s.zones := rfl
@[simp] theorem State.withPins_events (v : Pins) : (s.withPins v).events = s.events := rfl
@[simp] theorem State.withPins_fault (v : Pins) : (s.withPins v).fault = s.fault := rfl
@[simp] theorem State.withPins_terminal (v : Pins) : (s.withPins v).terminal = s.terminal := rfl
@[simp] theorem State.withPins_pins (v : Pins) : (s.withPins v).pins = v := rfl
@[simp] theorem State.withPins_pending (v : Pins) : (s.withPins v).pending = s.pending := rfl
@[simp] theorem State.withPins_check (v : Pins) : (s.withPins v).check = s.check := rfl

@[simp] theorem State.withPending_time (v : List Instr) : (s.withPending v).time = s.time := rfl
@[simp] theorem State.withPending_pulses (v : List Instr) : (s.withPending v).pulses = s.pulses := rfl
@[simp] theorem State.withPending_meter (v : List Instr) : (s.withPending v).meter = s.meter := rfl
@[simp] theorem State.withPending_seat (v : List Instr) : (s.withPending v).seat = s.seat := rfl
@[simp] theorem State.withPending_roof (v : List Instr) : (s.withPending v).roof = s.roof := rfl
@[simp] theorem State.withPending_tariff (v : List Instr) : (s.withPending v).tariff = s.tariff := rfl
@[simp] theorem State.withPending_store (v : List Instr) : (s.withPending v).store = s.store := rfl
@[simp] theorem State.withPending_emergency (v : List Instr) : (s.withPending v).emergency = s.emergency := rfl
@[simp] theorem State.withPending_settings (v : List Instr) : (s.withPending v).settings = s.settings := rfl
@[simp] theorem State.withPending_identity (v : List Instr) : (s.withPending v).identity = s.identity := rfl
@[simp] theorem State.withPending_monitor (v : List Instr) : (s.withPending v).monitor = s.monitor := rfl
@[simp] theorem State.withPending_offers (v : List Instr) : (s.withPending v).offers = s.offers := rfl
@[simp] theorem State.withPending_messages (v : List Instr) : (s.withPending v).messages = s.messages := rfl
@[simp] theorem State.withPending_link (v : List Instr) : (s.withPending v).link = s.link := rfl
@[simp] theorem State.withPending_arbiter (v : List Instr) : (s.withPending v).arbiter = s.arbiter := rfl
@[simp] theorem State.withPending_loader (v : List Instr) : (s.withPending v).loader = s.loader := rfl
@[simp] theorem State.withPending_addresses (v : List Instr) : (s.withPending v).addresses = s.addresses := rfl
@[simp] theorem State.withPending_zones (v : List Instr) : (s.withPending v).zones = s.zones := rfl
@[simp] theorem State.withPending_events (v : List Instr) : (s.withPending v).events = s.events := rfl
@[simp] theorem State.withPending_fault (v : List Instr) : (s.withPending v).fault = s.fault := rfl
@[simp] theorem State.withPending_terminal (v : List Instr) : (s.withPending v).terminal = s.terminal := rfl
@[simp] theorem State.withPending_pins (v : List Instr) : (s.withPending v).pins = s.pins := rfl
@[simp] theorem State.withPending_pending (v : List Instr) : (s.withPending v).pending = v := rfl
@[simp] theorem State.withPending_check (v : List Instr) : (s.withPending v).check = s.check := rfl
@[simp] theorem State.withCheck_time (v : Word16) : (s.withCheck v).time = s.time := rfl
@[simp] theorem State.withCheck_pulses (v : Word16) : (s.withCheck v).pulses = s.pulses := rfl
@[simp] theorem State.withCheck_meter (v : Word16) : (s.withCheck v).meter = s.meter := rfl
@[simp] theorem State.withCheck_seat (v : Word16) : (s.withCheck v).seat = s.seat := rfl
@[simp] theorem State.withCheck_roof (v : Word16) : (s.withCheck v).roof = s.roof := rfl
@[simp] theorem State.withCheck_tariff (v : Word16) : (s.withCheck v).tariff = s.tariff := rfl
@[simp] theorem State.withCheck_store (v : Word16) : (s.withCheck v).store = s.store := rfl
@[simp] theorem State.withCheck_emergency (v : Word16) : (s.withCheck v).emergency = s.emergency := rfl
@[simp] theorem State.withCheck_settings (v : Word16) : (s.withCheck v).settings = s.settings := rfl
@[simp] theorem State.withCheck_identity (v : Word16) : (s.withCheck v).identity = s.identity := rfl
@[simp] theorem State.withCheck_monitor (v : Word16) : (s.withCheck v).monitor = s.monitor := rfl
@[simp] theorem State.withCheck_offers (v : Word16) : (s.withCheck v).offers = s.offers := rfl
@[simp] theorem State.withCheck_messages (v : Word16) : (s.withCheck v).messages = s.messages := rfl
@[simp] theorem State.withCheck_link (v : Word16) : (s.withCheck v).link = s.link := rfl
@[simp] theorem State.withCheck_arbiter (v : Word16) : (s.withCheck v).arbiter = s.arbiter := rfl
@[simp] theorem State.withCheck_loader (v : Word16) : (s.withCheck v).loader = s.loader := rfl
@[simp] theorem State.withCheck_addresses (v : Word16) : (s.withCheck v).addresses = s.addresses := rfl
@[simp] theorem State.withCheck_zones (v : Word16) : (s.withCheck v).zones = s.zones := rfl
@[simp] theorem State.withCheck_events (v : Word16) : (s.withCheck v).events = s.events := rfl
@[simp] theorem State.withCheck_fault (v : Word16) : (s.withCheck v).fault = s.fault := rfl
@[simp] theorem State.withCheck_terminal (v : Word16) : (s.withCheck v).terminal = s.terminal := rfl
@[simp] theorem State.withCheck_pins (v : Word16) : (s.withCheck v).pins = s.pins := rfl
@[simp] theorem State.withCheck_pending (v : Word16) : (s.withCheck v).pending = s.pending := rfl
@[simp] theorem State.withCheck_check (v : Word16) : (s.withCheck v).check = v := rfl

end Sys2Proof.Machine
end

