-- ==== Sys2Proof/Laws/Frames.lean ====
section
/-! SUPPORT. For each shared operation, the blocks it can change: one lemma an operation, composed by `trans` and
`mono`. A field of any other block is read off with `OnlyChanges.keep`. -/

namespace Sys2Proof.Machine

/-! ## Composition -/

theorem OnlyChanges.refl {bs : List Block} (s : State) : OnlyChanges bs s s := by
  intro b; right; cases b <;> rfl

theorem Block.same_trans {b : Block} {s t u : State} (h : b.same s t) (k : b.same t u) : b.same s u := by
  cases b <;> exact Eq.trans k h

theorem OnlyChanges.trans {as bs : List Block} {s t u : State} (h : OnlyChanges as s t) (k : OnlyChanges bs t u) :
    OnlyChanges (as ++ bs) s u := by
  intro b
  rcases h b with h | h
  · exact .inl (List.mem_append_left _ h)
  · rcases k b with k | k
    · exact .inl (List.mem_append_right _ k)
    · exact .inr (Block.same_trans h k)

theorem OnlyChanges.mono {as bs : List Block} {s t : State} (h : OnlyChanges as s t) (k : ∀ b ∈ as, b ∈ bs) :
    OnlyChanges bs s t := fun b => (h b).imp (k b) id

theorem OnlyChanges.keep {bs : List Block} {s t : State} (h : OnlyChanges bs s t) (b : Block) (k : b ∉ bs) :
    b.same s t := (h b).resolve_left k

/-- Two steps, both within the same blocks. -/
theorem OnlyChanges.andThen {bs : List Block} {s t u : State} (h : OnlyChanges bs s t) (k : OnlyChanges bs t u) :
    OnlyChanges bs s u := (h.trans k).mono fun _ m => (List.mem_append.mp m).elim id id

/-! ## Updates of one block -/

theorem OnlyChanges.withTime {bs : List Block} {s t : State} {v} (h : OnlyChanges bs s t) (m : Block.time ∈ bs) :
    OnlyChanges bs s (t.withTime v) := by
  refine h.andThen fun b => ?_
  cases b <;> first | exact .inr rfl | exact .inl m

theorem OnlyChanges.withPulses {bs : List Block} {s t : State} {v} (h : OnlyChanges bs s t) (m : Block.pulses ∈ bs) :
    OnlyChanges bs s (t.withPulses v) := by
  refine h.andThen fun b => ?_
  cases b <;> first | exact .inr rfl | exact .inl m

theorem OnlyChanges.withMeter {bs : List Block} {s t : State} {v} (h : OnlyChanges bs s t) (m : Block.meter ∈ bs) :
    OnlyChanges bs s (t.withMeter v) := by
  refine h.andThen fun b => ?_
  cases b <;> first | exact .inr rfl | exact .inl m

theorem OnlyChanges.withSeat {bs : List Block} {s t : State} {v} (h : OnlyChanges bs s t) (m : Block.seat ∈ bs) :
    OnlyChanges bs s (t.withSeat v) := by
  refine h.andThen fun b => ?_
  cases b <;> first | exact .inr rfl | exact .inl m

theorem OnlyChanges.withRoof {bs : List Block} {s t : State} {v} (h : OnlyChanges bs s t) (m : Block.roof ∈ bs) :
    OnlyChanges bs s (t.withRoof v) := by
  refine h.andThen fun b => ?_
  cases b <;> first | exact .inr rfl | exact .inl m

theorem OnlyChanges.withTariff {bs : List Block} {s t : State} {v} (h : OnlyChanges bs s t) (m : Block.tariff ∈ bs) :
    OnlyChanges bs s (t.withTariff v) := by
  refine h.andThen fun b => ?_
  cases b <;> first | exact .inr rfl | exact .inl m

theorem OnlyChanges.withStore {bs : List Block} {s t : State} {v} (h : OnlyChanges bs s t) (m : Block.store ∈ bs) :
    OnlyChanges bs s (t.withStore v) := by
  refine h.andThen fun b => ?_
  cases b <;> first | exact .inr rfl | exact .inl m

theorem OnlyChanges.withEmergency {bs : List Block} {s t : State} {v} (h : OnlyChanges bs s t) (m : Block.emergency ∈ bs) :
    OnlyChanges bs s (t.withEmergency v) := by
  refine h.andThen fun b => ?_
  cases b <;> first | exact .inr rfl | exact .inl m

theorem OnlyChanges.withSettings {bs : List Block} {s t : State} {v} (h : OnlyChanges bs s t) (m : Block.settings ∈ bs) :
    OnlyChanges bs s (t.withSettings v) := by
  refine h.andThen fun b => ?_
  cases b <;> first | exact .inr rfl | exact .inl m

theorem OnlyChanges.withIdentity {bs : List Block} {s t : State} {v} (h : OnlyChanges bs s t) (m : Block.identity ∈ bs) :
    OnlyChanges bs s (t.withIdentity v) := by
  refine h.andThen fun b => ?_
  cases b <;> first | exact .inr rfl | exact .inl m

theorem OnlyChanges.withMonitor {bs : List Block} {s t : State} {v} (h : OnlyChanges bs s t) (m : Block.monitor ∈ bs) :
    OnlyChanges bs s (t.withMonitor v) := by
  refine h.andThen fun b => ?_
  cases b <;> first | exact .inr rfl | exact .inl m

theorem OnlyChanges.withOffers {bs : List Block} {s t : State} {v} (h : OnlyChanges bs s t) (m : Block.offers ∈ bs) :
    OnlyChanges bs s (t.withOffers v) := by
  refine h.andThen fun b => ?_
  cases b <;> first | exact .inr rfl | exact .inl m

theorem OnlyChanges.withMessages {bs : List Block} {s t : State} {v} (h : OnlyChanges bs s t) (m : Block.messages ∈ bs) :
    OnlyChanges bs s (t.withMessages v) := by
  refine h.andThen fun b => ?_
  cases b <;> first | exact .inr rfl | exact .inl m

theorem OnlyChanges.withLink {bs : List Block} {s t : State} {v} (h : OnlyChanges bs s t) (m : Block.link ∈ bs) :
    OnlyChanges bs s (t.withLink v) := by
  refine h.andThen fun b => ?_
  cases b <;> first | exact .inr rfl | exact .inl m

theorem OnlyChanges.withArbiter {bs : List Block} {s t : State} {v} (h : OnlyChanges bs s t) (m : Block.arbiter ∈ bs) :
    OnlyChanges bs s (t.withArbiter v) := by
  refine h.andThen fun b => ?_
  cases b <;> first | exact .inr rfl | exact .inl m

theorem OnlyChanges.withLoader {bs : List Block} {s t : State} {v} (h : OnlyChanges bs s t) (m : Block.loader ∈ bs) :
    OnlyChanges bs s (t.withLoader v) := by
  refine h.andThen fun b => ?_
  cases b <;> first | exact .inr rfl | exact .inl m

theorem OnlyChanges.withAddresses {bs : List Block} {s t : State} {v} (h : OnlyChanges bs s t) (m : Block.addresses ∈ bs) :
    OnlyChanges bs s (t.withAddresses v) := by
  refine h.andThen fun b => ?_
  cases b <;> first | exact .inr rfl | exact .inl m

theorem OnlyChanges.withZones {bs : List Block} {s t : State} {v} (h : OnlyChanges bs s t) (m : Block.zones ∈ bs) :
    OnlyChanges bs s (t.withZones v) := by
  refine h.andThen fun b => ?_
  cases b <;> first | exact .inr rfl | exact .inl m

theorem OnlyChanges.withEvents {bs : List Block} {s t : State} {v} (h : OnlyChanges bs s t) (m : Block.events ∈ bs) :
    OnlyChanges bs s (t.withEvents v) := by
  refine h.andThen fun b => ?_
  cases b <;> first | exact .inr rfl | exact .inl m

theorem OnlyChanges.withFault {bs : List Block} {s t : State} {v} (h : OnlyChanges bs s t) (m : Block.fault ∈ bs) :
    OnlyChanges bs s (t.withFault v) := by
  refine h.andThen fun b => ?_
  cases b <;> first | exact .inr rfl | exact .inl m

theorem OnlyChanges.withTerminal {bs : List Block} {s t : State} {v} (h : OnlyChanges bs s t) (m : Block.terminal ∈ bs) :
    OnlyChanges bs s (t.withTerminal v) := by
  refine h.andThen fun b => ?_
  cases b <;> first | exact .inr rfl | exact .inl m

theorem OnlyChanges.withPins {bs : List Block} {s t : State} {v} (h : OnlyChanges bs s t) (m : Block.pins ∈ bs) :
    OnlyChanges bs s (t.withPins v) := by
  refine h.andThen fun b => ?_
  cases b <;> first | exact .inr rfl | exact .inl m

theorem OnlyChanges.withPending {bs : List Block} {s t : State} {v} (h : OnlyChanges bs s t) (m : Block.pending ∈ bs) :
    OnlyChanges bs s (t.withPending v) := by
  refine h.andThen fun b => ?_
  cases b <;> first | exact .inr rfl | exact .inl m

theorem OnlyChanges.withCheck {bs : List Block} {s t : State} {v} (h : OnlyChanges bs s t) (m : Block.check ∈ bs) :
    OnlyChanges bs s (t.withCheck v) := by
  refine h.andThen fun b => ?_
  cases b <;> first | exact .inr rfl | exact .inl m

/-! ## Operations -/

theorem State.only_raise (e : EventKind) (t : State) : OnlyChanges [.events] t (t.raise e) := by
  unfold State.raise
  repeat first | with_reducible exact OnlyChanges.refl _ | decide | with_reducible apply OnlyChanges.withEvents | dsimp only | split

theorem OnlyChanges.raise {bs : List Block} {s t : State} (e : EventKind) (h : OnlyChanges bs s t)
    (m : ∀ b ∈ [Block.events], b ∈ bs) : OnlyChanges bs s (t.raise e) :=
  h.andThen ((State.only_raise e t).mono m)

theorem State.only_offerFault (k : FaultKind) (p : FaultPort) (b d : Nat) (t : State) : OnlyChanges [.fault, .events] t (t.offerFault k p b d) := by
  unfold State.offerFault
  repeat first | with_reducible exact OnlyChanges.refl _ | decide | with_reducible apply OnlyChanges.raise | with_reducible apply OnlyChanges.withFault | dsimp only | split

theorem OnlyChanges.offerFault {bs : List Block} {s t : State} (k : FaultKind) (p : FaultPort) (b d : Nat) (h : OnlyChanges bs s t)
    (m : ∀ b ∈ [Block.fault, Block.events], b ∈ bs) : OnlyChanges bs s (t.offerFault k p b d) :=
  h.andThen ((State.only_offerFault k p b d t).mono m)

theorem State.only_drive (t : State) : OnlyChanges [.pins] t (t.drive) := by
  unfold State.drive
  repeat first | with_reducible exact OnlyChanges.refl _ | decide | with_reducible apply OnlyChanges.withPins | dsimp only | split

theorem OnlyChanges.drive {bs : List Block} {s t : State} (h : OnlyChanges bs s t)
    (m : ∀ b ∈ [Block.pins], b ∈ bs) : OnlyChanges bs s (t.drive) :=
  h.andThen ((State.only_drive t).mono m)

theorem State.only_withQueue (q : List Entry) (t : State) : OnlyChanges [.arbiter] t (t.withQueue q) := by
  unfold State.withQueue
  repeat first | with_reducible exact OnlyChanges.refl _ | decide | with_reducible apply OnlyChanges.withArbiter | dsimp only | split

theorem OnlyChanges.withQueue {bs : List Block} {s t : State} (q : List Entry) (h : OnlyChanges bs s t)
    (m : ∀ b ∈ [Block.arbiter], b ∈ bs) : OnlyChanges bs s (t.withQueue q) :=
  h.andThen ((State.only_withQueue q t).mono m)

theorem State.only_enqueue (e : Entry) (t : State) : OnlyChanges [.arbiter] t (t.enqueue e) := by
  unfold State.enqueue
  repeat first | with_reducible exact OnlyChanges.refl _ | decide | with_reducible apply OnlyChanges.withQueue | dsimp only | split

theorem OnlyChanges.enqueue {bs : List Block} {s t : State} (e : Entry) (h : OnlyChanges bs s t)
    (m : ∀ b ∈ [Block.arbiter], b ∈ bs) : OnlyChanges bs s (t.enqueue e) :=
  h.andThen ((State.only_enqueue e t).mono m)

theorem State.only_dequeue (e : Entry) (t : State) : OnlyChanges [.arbiter] t (t.dequeue e) := by
  unfold State.dequeue
  repeat first | with_reducible exact OnlyChanges.refl _ | decide | with_reducible apply OnlyChanges.withQueue | dsimp only | split

theorem OnlyChanges.dequeue {bs : List Block} {s t : State} (e : Entry) (h : OnlyChanges bs s t)
    (m : ∀ b ∈ [Block.arbiter], b ∈ bs) : OnlyChanges bs s (t.dequeue e) :=
  h.andThen ((State.only_dequeue e t).mono m)

theorem State.only_withdraw (e : Entry) (t : State) : OnlyChanges [.arbiter] t (t.withdraw e) := by
  unfold State.withdraw
  repeat first | with_reducible exact OnlyChanges.refl _ | decide | with_reducible apply OnlyChanges.withArbiter | dsimp only | split

theorem OnlyChanges.withdraw {bs : List Block} {s t : State} (e : Entry) (h : OnlyChanges bs s t)
    (m : ∀ b ∈ [Block.arbiter], b ∈ bs) : OnlyChanges bs s (t.withdraw e) :=
  h.andThen ((State.only_withdraw e t).mono m)

theorem State.only_withdrawSlot (t : State) : OnlyChanges [.arbiter] t (t.withdrawSlot) := by
  unfold State.withdrawSlot
  repeat first | with_reducible exact OnlyChanges.refl _ | decide | with_reducible apply OnlyChanges.withArbiter | dsimp only | split

theorem OnlyChanges.withdrawSlot {bs : List Block} {s t : State} (h : OnlyChanges bs s t)
    (m : ∀ b ∈ [Block.arbiter], b ∈ bs) : OnlyChanges bs s (t.withdrawSlot) :=
  h.andThen ((State.only_withdrawSlot t).mono m)

theorem State.only_fillSlot (t : State) : OnlyChanges [.arbiter] t (t.fillSlot) := by
  unfold State.fillSlot
  repeat first | with_reducible exact OnlyChanges.refl _ | decide | with_reducible apply OnlyChanges.withArbiter | dsimp only | split

theorem OnlyChanges.fillSlot {bs : List Block} {s t : State} (h : OnlyChanges bs s t)
    (m : ∀ b ∈ [Block.arbiter], b ∈ bs) : OnlyChanges bs s (t.fillSlot) :=
  h.andThen ((State.only_fillSlot t).mono m)

theorem State.only_mapTrip (f : Trip → Trip) (t : State) : OnlyChanges [.meter] t (t.mapTrip f) := by
  unfold State.mapTrip
  repeat first | with_reducible exact OnlyChanges.refl _ | decide | with_reducible apply OnlyChanges.withMeter | dsimp only | split

theorem OnlyChanges.mapTrip {bs : List Block} {s t : State} (f : Trip → Trip) (h : OnlyChanges bs s t)
    (m : ∀ b ∈ [Block.meter], b ∈ bs) : OnlyChanges bs s (t.mapTrip f) :=
  h.andThen ((State.only_mapTrip f t).mono m)

theorem State.only_closePulses (t : State) : OnlyChanges [.pulses, .meter, .store, .events, .fault] t (t.closePulses) := by
  unfold State.closePulses
  repeat first | with_reducible exact OnlyChanges.refl _ | decide | with_reducible apply OnlyChanges.offerFault | with_reducible apply OnlyChanges.mapTrip | with_reducible apply OnlyChanges.withPulses | with_reducible apply OnlyChanges.withStore | dsimp only | split

theorem OnlyChanges.closePulses {bs : List Block} {s t : State} (h : OnlyChanges bs s t)
    (m : ∀ b ∈ [Block.pulses, Block.meter, Block.store, Block.events, Block.fault], b ∈ bs) : OnlyChanges bs s (t.closePulses) :=
  h.andThen ((State.only_closePulses t).mono m)

theorem State.only_fareSecond (d : Nat) (t : State) : OnlyChanges [.meter] t (t.fareSecond d) := by
  unfold State.fareSecond
  repeat first | with_reducible exact OnlyChanges.refl _ | decide | with_reducible apply OnlyChanges.mapTrip | dsimp only | split

theorem OnlyChanges.fareSecond {bs : List Block} {s t : State} (d : Nat) (h : OnlyChanges bs s t)
    (m : ∀ b ∈ [Block.meter], b ∈ bs) : OnlyChanges bs s (t.fareSecond d) :=
  h.andThen ((State.only_fareSecond d t).mono m)

theorem State.only_withSender (x : Sender) (t : State) : OnlyChanges [.store] t (t.withSender x) := by
  unfold State.withSender
  repeat first | with_reducible exact OnlyChanges.refl _ | decide | with_reducible apply OnlyChanges.withStore | dsimp only | split

theorem OnlyChanges.withSender {bs : List Block} {s t : State} (x : Sender) (h : OnlyChanges bs s t)
    (m : ∀ b ∈ [Block.store], b ∈ bs) : OnlyChanges bs s (t.withSender x) :=
  h.andThen ((State.only_withSender x t).mono m)

theorem State.only_placeTotal (t : State) : OnlyChanges [.store, .arbiter] t (t.placeTotal) := by
  unfold State.placeTotal
  repeat first | with_reducible exact OnlyChanges.refl _ | decide | with_reducible apply OnlyChanges.enqueue | with_reducible apply OnlyChanges.withSender | dsimp only | split

theorem OnlyChanges.placeTotal {bs : List Block} {s t : State} (h : OnlyChanges bs s t)
    (m : ∀ b ∈ [Block.store, Block.arbiter], b ∈ bs) : OnlyChanges bs s (t.placeTotal) :=
  h.andThen ((State.only_placeTotal t).mono m)

theorem State.only_releaseServed (n : Nat) (t : State) : OnlyChanges [.store, .arbiter] t (t.releaseServed n) := by
  unfold State.releaseServed
  repeat first | with_reducible exact OnlyChanges.refl _ | decide | with_reducible apply OnlyChanges.withdraw | with_reducible apply OnlyChanges.withSender | with_reducible apply OnlyChanges.placeTotal | dsimp only | split

theorem OnlyChanges.releaseServed {bs : List Block} {s t : State} (n : Nat) (h : OnlyChanges bs s t)
    (m : ∀ b ∈ [Block.store, Block.arbiter], b ∈ bs) : OnlyChanges bs s (t.releaseServed n) :=
  h.andThen ((State.only_releaseServed n t).mono m)

theorem State.only_foldOldest (t : State) : OnlyChanges [.store, .arbiter, .events] t (t.foldOldest) := by
  unfold State.foldOldest
  repeat first | with_reducible exact OnlyChanges.refl _ | decide | with_reducible apply OnlyChanges.raise | with_reducible apply OnlyChanges.releaseServed | with_reducible apply OnlyChanges.withStore | dsimp only | split

theorem OnlyChanges.foldOldest {bs : List Block} {s t : State} (h : OnlyChanges bs s t)
    (m : ∀ b ∈ [Block.store, Block.arbiter, Block.events], b ∈ bs) : OnlyChanges bs s (t.foldOldest) :=
  h.andThen ((State.only_foldOldest t).mono m)

theorem State.only_enterRecord (r : TripRecord) (t : State) : OnlyChanges [.store, .arbiter, .events] t (t.enterRecord r) := by
  unfold State.enterRecord
  repeat first | with_reducible exact OnlyChanges.refl _ | decide | with_reducible apply OnlyChanges.raise | with_reducible apply OnlyChanges.placeTotal | with_reducible apply OnlyChanges.foldOldest | with_reducible apply OnlyChanges.withStore | dsimp only | split

theorem OnlyChanges.enterRecord {bs : List Block} {s t : State} (r : TripRecord) (h : OnlyChanges bs s t)
    (m : ∀ b ∈ [Block.store, Block.arbiter, Block.events], b ∈ bs) : OnlyChanges bs s (t.enterRecord r) :=
  h.andThen ((State.only_enterRecord r t).mono m)

theorem State.only_acknowledge (n : Nat) (t : State) : OnlyChanges [.store, .arbiter, .events] t (t.acknowledge n) := by
  unfold State.acknowledge
  repeat first | with_reducible exact OnlyChanges.refl _ | decide | with_reducible apply OnlyChanges.raise | with_reducible apply OnlyChanges.releaseServed | with_reducible apply OnlyChanges.withStore | dsimp only | split

theorem OnlyChanges.acknowledge {bs : List Block} {s t : State} (n : Nat) (h : OnlyChanges bs s t)
    (m : ∀ b ∈ [Block.store, Block.arbiter, Block.events], b ∈ bs) : OnlyChanges bs s (t.acknowledge n) :=
  h.andThen ((State.only_acknowledge n t).mono m)

theorem State.only_placeShift (t : State) : OnlyChanges [.arbiter] t (t.placeShift) := by
  unfold State.placeShift
  repeat first | with_reducible exact OnlyChanges.refl _ | decide | with_reducible apply OnlyChanges.enqueue | dsimp only | split

theorem OnlyChanges.placeShift {bs : List Block} {s t : State} (h : OnlyChanges bs s t)
    (m : ∀ b ∈ [Block.arbiter], b ∈ bs) : OnlyChanges bs s (t.placeShift) :=
  h.andThen ((State.only_placeShift t).mono m)

theorem State.only_rewriteShift (n : Nat) (t : State) : OnlyChanges [.arbiter] t (t.rewriteShift n) := by
  unfold State.rewriteShift
  repeat first | with_reducible exact OnlyChanges.refl _ | decide | with_reducible apply OnlyChanges.withQueue | dsimp only | split

theorem OnlyChanges.rewriteShift {bs : List Block} {s t : State} (n : Nat) (h : OnlyChanges bs s t)
    (m : ∀ b ∈ [Block.arbiter], b ∈ bs) : OnlyChanges bs s (t.rewriteShift n) :=
  h.andThen ((State.only_rewriteShift n t).mono m)

theorem State.only_pendReport (r : ShiftReport) (t : State) : OnlyChanges [.store, .arbiter] t (t.pendReport r) := by
  unfold State.pendReport
  repeat first | with_reducible exact OnlyChanges.refl _ | decide | with_reducible apply OnlyChanges.placeShift | with_reducible apply OnlyChanges.rewriteShift | with_reducible apply OnlyChanges.withStore | dsimp only | split

theorem OnlyChanges.pendReport {bs : List Block} {s t : State} (r : ShiftReport) (h : OnlyChanges bs s t)
    (m : ∀ b ∈ [Block.store, Block.arbiter], b ∈ bs) : OnlyChanges bs s (t.pendReport r) :=
  h.andThen ((State.only_pendReport r t).mono m)

theorem State.only_totalSent (n : Nat) (t : State) : OnlyChanges [.store] t (t.totalSent n) := by
  unfold State.totalSent
  repeat first | with_reducible exact OnlyChanges.refl _ | decide | with_reducible apply OnlyChanges.withSender | dsimp only | split

theorem OnlyChanges.totalSent {bs : List Block} {s t : State} (n : Nat) (h : OnlyChanges bs s t)
    (m : ∀ b ∈ [Block.store], b ∈ bs) : OnlyChanges bs s (t.totalSent n) :=
  h.andThen ((State.only_totalSent n t).mono m)

theorem State.only_shiftSent (n : Nat) (t : State) : OnlyChanges [.store, .arbiter] t (t.shiftSent n) := by
  unfold State.shiftSent
  repeat first | with_reducible exact OnlyChanges.refl _ | decide | with_reducible apply OnlyChanges.placeShift | with_reducible apply OnlyChanges.withStore | dsimp only | split

theorem OnlyChanges.shiftSent {bs : List Block} {s t : State} (n : Nat) (h : OnlyChanges bs s t)
    (m : ∀ b ∈ [Block.store, Block.arbiter], b ∈ bs) : OnlyChanges bs s (t.shiftSent n) :=
  h.andThen ((State.only_shiftSent n t).mono m)

theorem State.only_shiftFailed (t : State) : OnlyChanges [.arbiter] t (t.shiftFailed) := by
  unfold State.shiftFailed
  repeat first | with_reducible exact OnlyChanges.refl _ | decide | with_reducible apply OnlyChanges.rewriteShift | dsimp only | split

theorem OnlyChanges.shiftFailed {bs : List Block} {s t : State} (h : OnlyChanges bs s t)
    (m : ∀ b ∈ [Block.arbiter], b ∈ bs) : OnlyChanges bs s (t.shiftFailed) :=
  h.andThen ((State.only_shiftFailed t).mono m)

theorem State.only_idleSender (t : State) : OnlyChanges [.store] t (t.idleSender) := by
  unfold State.idleSender
  repeat first | with_reducible exact OnlyChanges.refl _ | decide | with_reducible apply OnlyChanges.withSender | dsimp only | split

theorem OnlyChanges.idleSender {bs : List Block} {s t : State} (h : OnlyChanges bs s t)
    (m : ∀ b ∈ [Block.store], b ∈ bs) : OnlyChanges bs s (t.idleSender) :=
  h.andThen ((State.only_idleSender t).mono m)

theorem State.only_withEntries (x : List OfferEntry) (t : State) : OnlyChanges [.offers] t (t.withEntries x) := by
  unfold State.withEntries
  repeat first | with_reducible exact OnlyChanges.refl _ | decide | with_reducible apply OnlyChanges.withOffers | dsimp only | split

theorem OnlyChanges.withEntries {bs : List Block} {s t : State} (x : List OfferEntry) (h : OnlyChanges bs s t)
    (m : ∀ b ∈ [Block.offers], b ∈ bs) : OnlyChanges bs s (t.withEntries x) :=
  h.andThen ((State.only_withEntries x t).mono m)

theorem State.only_withBid (x : Option BidRecord) (t : State) : OnlyChanges [.offers] t (t.withBid x) := by
  unfold State.withBid
  repeat first | with_reducible exact OnlyChanges.refl _ | decide | with_reducible apply OnlyChanges.withOffers | dsimp only | split

theorem OnlyChanges.withBid {bs : List Block} {s t : State} (x : Option BidRecord) (h : OnlyChanges bs s t)
    (m : ∀ b ∈ [Block.offers], b ∈ bs) : OnlyChanges bs s (t.withBid x) :=
  h.andThen ((State.only_withBid x t).mono m)

theorem State.only_withCancels (x : List Cancel) (t : State) : OnlyChanges [.offers] t (t.withCancels x) := by
  unfold State.withCancels
  repeat first | with_reducible exact OnlyChanges.refl _ | decide | with_reducible apply OnlyChanges.withOffers | dsimp only | split

theorem OnlyChanges.withCancels {bs : List Block} {s t : State} (x : List Cancel) (h : OnlyChanges bs s t)
    (m : ∀ b ∈ [Block.offers], b ∈ bs) : OnlyChanges bs s (t.withCancels x) :=
  h.andThen ((State.only_withCancels x t).mono m)

theorem State.only_setEntry (id : Nat) (st : OfferState) (t : State) : OnlyChanges [.offers] t (t.setEntry id st) := by
  unfold State.setEntry
  repeat first | with_reducible exact OnlyChanges.refl _ | decide | with_reducible apply OnlyChanges.withEntries | dsimp only | split

theorem OnlyChanges.setEntry {bs : List Block} {s t : State} (id : Nat) (st : OfferState) (h : OnlyChanges bs s t)
    (m : ∀ b ∈ [Block.offers], b ∈ bs) : OnlyChanges bs s (t.setEntry id st) :=
  h.andThen ((State.only_setEntry id st t).mono m)

theorem State.only_closeEntry (id : Nat) (st : OfferState) (t : State) : OnlyChanges [.offers, .events] t (t.closeEntry id st) := by
  unfold State.closeEntry
  repeat first | with_reducible exact OnlyChanges.refl _ | decide | with_reducible apply OnlyChanges.raise | with_reducible apply OnlyChanges.setEntry | dsimp only | split

theorem OnlyChanges.closeEntry {bs : List Block} {s t : State} (id : Nat) (st : OfferState) (h : OnlyChanges bs s t)
    (m : ∀ b ∈ [Block.offers, Block.events], b ∈ bs) : OnlyChanges bs s (t.closeEntry id st) :=
  h.andThen ((State.only_closeEntry id st t).mono m)

theorem State.only_lapseShown (t : State) : OnlyChanges [.offers, .events] t (t.lapseShown) := by
  unfold State.lapseShown
  repeat first | with_reducible exact OnlyChanges.refl _ | decide | with_reducible apply OnlyChanges.raise | with_reducible apply OnlyChanges.withEntries | dsimp only | split

theorem OnlyChanges.lapseShown {bs : List Block} {s t : State} (h : OnlyChanges bs s t)
    (m : ∀ b ∈ [Block.offers, Block.events], b ∈ bs) : OnlyChanges bs s (t.lapseShown) :=
  h.andThen ((State.only_lapseShown t).mono m)

theorem State.only_offerBoundary (t : State) : OnlyChanges [.offers, .events] t (t.offerBoundary) := by
  unfold State.offerBoundary
  repeat first | with_reducible exact OnlyChanges.refl _ | decide | with_reducible apply OnlyChanges.lapseShown | with_reducible apply OnlyChanges.withOffers | dsimp only | split

theorem OnlyChanges.offerBoundary {bs : List Block} {s t : State} (h : OnlyChanges bs s t)
    (m : ∀ b ∈ [Block.offers, Block.events], b ∈ bs) : OnlyChanges bs s (t.offerBoundary) :=
  h.andThen ((State.only_offerBoundary t).mono m)

theorem State.only_stopOffers (t : State) : OnlyChanges [.offers, .events] t (t.stopOffers) := by
  unfold State.stopOffers
  repeat first | with_reducible exact OnlyChanges.refl _ | decide | with_reducible apply OnlyChanges.offerBoundary | with_reducible apply OnlyChanges.withOffers | dsimp only | split

theorem OnlyChanges.stopOffers {bs : List Block} {s t : State} (h : OnlyChanges bs s t)
    (m : ∀ b ∈ [Block.offers, Block.events], b ∈ bs) : OnlyChanges bs s (t.stopOffers) :=
  h.andThen ((State.only_stopOffers t).mono m)

theorem State.only_runOffers (t : State) : OnlyChanges [.offers] t (t.runOffers) := by
  unfold State.runOffers
  repeat first | with_reducible exact OnlyChanges.refl _ | decide | with_reducible apply OnlyChanges.withOffers | dsimp only | split

theorem OnlyChanges.runOffers {bs : List Block} {s t : State} (h : OnlyChanges bs s t)
    (m : ∀ b ∈ [Block.offers], b ∈ bs) : OnlyChanges bs s (t.runOffers) :=
  h.andThen ((State.only_runOffers t).mono m)

theorem State.only_setCancel (id : Nat) (st : OwedStage) (t : State) : OnlyChanges [.offers] t (t.setCancel id st) := by
  unfold State.setCancel
  repeat first | with_reducible exact OnlyChanges.refl _ | decide | with_reducible apply OnlyChanges.withCancels | dsimp only | split

theorem OnlyChanges.setCancel {bs : List Block} {s t : State} (id : Nat) (st : OwedStage) (h : OnlyChanges bs s t)
    (m : ∀ b ∈ [Block.offers], b ∈ bs) : OnlyChanges bs s (t.setCancel id st) :=
  h.andThen ((State.only_setCancel id st t).mono m)

theorem State.only_placeCancel (t : State) : OnlyChanges [.offers, .arbiter] t (t.placeCancel) := by
  unfold State.placeCancel
  repeat first | with_reducible exact OnlyChanges.refl _ | decide | with_reducible apply OnlyChanges.enqueue | with_reducible apply OnlyChanges.setCancel | dsimp only | split

theorem OnlyChanges.placeCancel {bs : List Block} {s t : State} (h : OnlyChanges bs s t)
    (m : ∀ b ∈ [Block.offers, Block.arbiter], b ∈ bs) : OnlyChanges bs s (t.placeCancel) :=
  h.andThen ((State.only_placeCancel t).mono m)

theorem State.only_placeCancels (t : State) : OnlyChanges [.offers, .arbiter] t (t.placeCancels) := by
  unfold State.placeCancels
  repeat first | with_reducible exact OnlyChanges.refl _ | decide | with_reducible apply OnlyChanges.placeCancel | dsimp only | split

theorem OnlyChanges.placeCancels {bs : List Block} {s t : State} (h : OnlyChanges bs s t)
    (m : ∀ b ∈ [Block.offers, Block.arbiter], b ∈ bs) : OnlyChanges bs s (t.placeCancels) :=
  h.andThen ((State.only_placeCancels t).mono m)

theorem State.only_oweCancel (id : Nat) (r : CancelReason) (t : State) : OnlyChanges [.offers, .arbiter] t (t.oweCancel id r) := by
  unfold State.oweCancel
  repeat first | with_reducible exact OnlyChanges.refl _ | decide | with_reducible apply OnlyChanges.withCancels | with_reducible apply OnlyChanges.placeCancels | dsimp only | split

theorem OnlyChanges.oweCancel {bs : List Block} {s t : State} (id : Nat) (r : CancelReason) (h : OnlyChanges bs s t)
    (m : ∀ b ∈ [Block.offers, Block.arbiter], b ∈ bs) : OnlyChanges bs s (t.oweCancel id r) :=
  h.andThen ((State.only_oweCancel id r t).mono m)

theorem State.only_dropBid (t : State) : OnlyChanges [.offers, .arbiter] t (t.dropBid) := by
  unfold State.dropBid
  repeat first | with_reducible exact OnlyChanges.refl _ | decide | with_reducible apply OnlyChanges.withdraw | with_reducible apply OnlyChanges.withBid | dsimp only | split

theorem OnlyChanges.dropBid {bs : List Block} {s t : State} (h : OnlyChanges bs s t)
    (m : ∀ b ∈ [Block.offers, Block.arbiter], b ∈ bs) : OnlyChanges bs s (t.dropBid) :=
  h.andThen ((State.only_dropBid t).mono m)

theorem State.only_bidGranted (t : State) : OnlyChanges [.offers] t (t.bidGranted) := by
  unfold State.bidGranted
  repeat first | with_reducible exact OnlyChanges.refl _ | decide | with_reducible apply OnlyChanges.withBid | dsimp only | split

theorem OnlyChanges.bidGranted {bs : List Block} {s t : State} (h : OnlyChanges bs s t)
    (m : ∀ b ∈ [Block.offers], b ∈ bs) : OnlyChanges bs s (t.bidGranted) :=
  h.andThen ((State.only_bidGranted t).mono m)

theorem State.only_bidDone (id : Nat) (t : State) : OnlyChanges [.offers, .arbiter] t (t.bidDone id) := by
  unfold State.bidDone
  repeat first | with_reducible exact OnlyChanges.refl _ | decide | with_reducible apply OnlyChanges.withEntries | with_reducible apply OnlyChanges.withBid | with_reducible apply OnlyChanges.placeCancels | with_reducible apply OnlyChanges.oweCancel | dsimp only | split

theorem OnlyChanges.bidDone {bs : List Block} {s t : State} (id : Nat) (h : OnlyChanges bs s t)
    (m : ∀ b ∈ [Block.offers, Block.arbiter], b ∈ bs) : OnlyChanges bs s (t.bidDone id) :=
  h.andThen ((State.only_bidDone id t).mono m)

theorem State.only_bidFailed (id : Nat) (t : State) : OnlyChanges [.offers, .arbiter, .events] t (t.bidFailed id) := by
  unfold State.bidFailed
  repeat first | with_reducible exact OnlyChanges.refl _ | decide | with_reducible apply OnlyChanges.withdraw | with_reducible apply OnlyChanges.withBid | with_reducible apply OnlyChanges.closeEntry | with_reducible apply OnlyChanges.offerBoundary | with_reducible apply OnlyChanges.placeCancels | dsimp only | split

theorem OnlyChanges.bidFailed {bs : List Block} {s t : State} (id : Nat) (h : OnlyChanges bs s t)
    (m : ∀ b ∈ [Block.offers, Block.arbiter, Block.events], b ∈ bs) : OnlyChanges bs s (t.bidFailed id) :=
  h.andThen ((State.only_bidFailed id t).mono m)

theorem State.only_cancelDone (id : Nat) (t : State) : OnlyChanges [.offers, .arbiter] t (t.cancelDone id) := by
  unfold State.cancelDone
  repeat first | with_reducible exact OnlyChanges.refl _ | decide | with_reducible apply OnlyChanges.withCancels | with_reducible apply OnlyChanges.placeCancels | dsimp only | split

theorem OnlyChanges.cancelDone {bs : List Block} {s t : State} (id : Nat) (h : OnlyChanges bs s t)
    (m : ∀ b ∈ [Block.offers, Block.arbiter], b ∈ bs) : OnlyChanges bs s (t.cancelDone id) :=
  h.andThen ((State.only_cancelDone id t).mono m)

theorem State.only_placeOffer (z : Option Nat) (f : OfferFields) (t : State) : OnlyChanges [.offers, .events] t (t.placeOffer z f) := by
  unfold State.placeOffer
  repeat first | with_reducible exact OnlyChanges.refl _ | decide | with_reducible apply OnlyChanges.raise | with_reducible apply OnlyChanges.withOffers | dsimp only | split

theorem OnlyChanges.placeOffer {bs : List Block} {s t : State} (z : Option Nat) (f : OfferFields) (h : OnlyChanges bs s t)
    (m : ∀ b ∈ [Block.offers, Block.events], b ∈ bs) : OnlyChanges bs s (t.placeOffer z f) :=
  h.andThen ((State.only_placeOffer z f t).mono m)

theorem State.only_placeOrDisplace (z : Option Nat) (f : OfferFields) (t : State) : OnlyChanges [.offers, .events] t (t.placeOrDisplace z f) := by
  unfold State.placeOrDisplace
  repeat first | with_reducible exact OnlyChanges.refl _ | decide | with_reducible apply OnlyChanges.raise | with_reducible apply OnlyChanges.withEntries | with_reducible apply OnlyChanges.placeOffer | dsimp only | split

theorem OnlyChanges.placeOrDisplace {bs : List Block} {s t : State} (z : Option Nat) (f : OfferFields) (h : OnlyChanges bs s t)
    (m : ∀ b ∈ [Block.offers, Block.events], b ∈ bs) : OnlyChanges bs s (t.placeOrDisplace z f) :=
  h.andThen ((State.only_placeOrDisplace z f t).mono m)

theorem State.only_refreshOffer (f : OfferFields) (t : State) : OnlyChanges [.offers] t (t.refreshOffer f) := by
  unfold State.refreshOffer
  repeat first | with_reducible exact OnlyChanges.refl _ | decide | with_reducible apply OnlyChanges.withEntries | dsimp only | split

theorem OnlyChanges.refreshOffer {bs : List Block} {s t : State} (f : OfferFields) (h : OnlyChanges bs s t)
    (m : ∀ b ∈ [Block.offers], b ∈ bs) : OnlyChanges bs s (t.refreshOffer f) :=
  h.andThen ((State.only_refreshOffer f t).mono m)

theorem State.only_offerArrives (z : Option Nat) (f : OfferFields) (t : State) : OnlyChanges [.offers, .events] t (t.offerArrives z f) := by
  unfold State.offerArrives
  repeat first | with_reducible exact OnlyChanges.refl _ | decide | with_reducible apply OnlyChanges.placeOrDisplace | with_reducible apply OnlyChanges.refreshOffer | dsimp only | split

theorem OnlyChanges.offerArrives {bs : List Block} {s t : State} (z : Option Nat) (f : OfferFields) (h : OnlyChanges bs s t)
    (m : ∀ b ∈ [Block.offers, Block.events], b ∈ bs) : OnlyChanges bs s (t.offerArrives z f) :=
  h.andThen ((State.only_offerArrives z f t).mono m)

theorem State.only_takeAward (id : Nat) (t : State) : OnlyChanges [.meter, .offers, .events] t (t.takeAward id) := by
  unfold State.takeAward
  repeat first | with_reducible exact OnlyChanges.refl _ | decide | with_reducible apply OnlyChanges.raise | with_reducible apply OnlyChanges.withBid | with_reducible apply OnlyChanges.setEntry | with_reducible apply OnlyChanges.lapseShown | with_reducible apply OnlyChanges.offerBoundary | with_reducible apply OnlyChanges.withMeter | dsimp only | split

theorem OnlyChanges.takeAward {bs : List Block} {s t : State} (id : Nat) (h : OnlyChanges bs s t)
    (m : ∀ b ∈ [Block.meter, Block.offers, Block.events], b ∈ bs) : OnlyChanges bs s (t.takeAward id) :=
  h.andThen ((State.only_takeAward id t).mono m)

theorem State.only_awardArrives (id : Nat) (t : State) : OnlyChanges [.meter, .offers, .arbiter, .events] t (t.awardArrives id) := by
  unfold State.awardArrives
  repeat first | with_reducible exact OnlyChanges.refl _ | decide | with_reducible apply OnlyChanges.oweCancel | with_reducible apply OnlyChanges.takeAward | dsimp only | split

theorem OnlyChanges.awardArrives {bs : List Block} {s t : State} (id : Nat) (h : OnlyChanges bs s t)
    (m : ∀ b ∈ [Block.meter, Block.offers, Block.arbiter, Block.events], b ∈ bs) : OnlyChanges bs s (t.awardArrives id) :=
  h.andThen ((State.only_awardArrives id t).mono m)

theorem State.only_refuseArrives (id : Nat) (t : State) : OnlyChanges [.offers, .arbiter, .events] t (t.refuseArrives id) := by
  unfold State.refuseArrives
  repeat first | with_reducible exact OnlyChanges.refl _ | decide | with_reducible apply OnlyChanges.closeEntry | with_reducible apply OnlyChanges.offerBoundary | with_reducible apply OnlyChanges.dropBid | dsimp only | split

theorem OnlyChanges.refuseArrives {bs : List Block} {s t : State} (id : Nat) (h : OnlyChanges bs s t)
    (m : ∀ b ∈ [Block.offers, Block.arbiter, Block.events], b ∈ bs) : OnlyChanges bs s (t.refuseArrives id) :=
  h.andThen ((State.only_refuseArrives id t).mono m)

theorem State.only_withdrawJob (id : Nat) (t : State) : OnlyChanges [.meter, .events] t (t.withdrawJob id) := by
  unfold State.withdrawJob
  repeat first | with_reducible exact OnlyChanges.refl _ | decide | with_reducible apply OnlyChanges.raise | with_reducible apply OnlyChanges.withMeter | dsimp only | split

theorem OnlyChanges.withdrawJob {bs : List Block} {s t : State} (id : Nat) (h : OnlyChanges bs s t)
    (m : ∀ b ∈ [Block.meter, Block.events], b ∈ bs) : OnlyChanges bs s (t.withdrawJob id) :=
  h.andThen ((State.only_withdrawJob id t).mono m)

theorem State.only_withdrawArrives (id : Nat) (t : State) : OnlyChanges [.meter, .offers, .arbiter, .events] t (t.withdrawArrives id) := by
  unfold State.withdrawArrives
  repeat first | with_reducible exact OnlyChanges.refl _ | decide | with_reducible apply OnlyChanges.closeEntry | with_reducible apply OnlyChanges.offerBoundary | with_reducible apply OnlyChanges.dropBid | with_reducible apply OnlyChanges.withdrawJob | dsimp only | split

theorem OnlyChanges.withdrawArrives {bs : List Block} {s t : State} (id : Nat) (h : OnlyChanges bs s t)
    (m : ∀ b ∈ [Block.meter, Block.offers, Block.arbiter, Block.events], b ∈ bs) : OnlyChanges bs s (t.withdrawArrives id) :=
  h.andThen ((State.only_withdrawArrives id t).mono m)

theorem State.only_lapseBid (id : Nat) (t : State) : OnlyChanges [.offers, .arbiter] t (t.lapseBid id) := by
  unfold State.lapseBid
  repeat first | with_reducible exact OnlyChanges.refl _ | decide | with_reducible apply OnlyChanges.withBid | with_reducible apply OnlyChanges.oweCancel | with_reducible apply OnlyChanges.dropBid | dsimp only | split

theorem OnlyChanges.lapseBid {bs : List Block} {s t : State} (id : Nat) (h : OnlyChanges bs s t)
    (m : ∀ b ∈ [Block.offers, Block.arbiter], b ∈ bs) : OnlyChanges bs s (t.lapseBid id) :=
  h.andThen ((State.only_lapseBid id t).mono m)

theorem State.only_lapseOffers (t : State) : OnlyChanges [.offers, .arbiter, .events] t (t.lapseOffers) := by
  unfold State.lapseOffers
  repeat first | with_reducible exact OnlyChanges.refl _ | decide | with_reducible apply OnlyChanges.closeEntry | with_reducible apply OnlyChanges.lapseShown | with_reducible apply OnlyChanges.offerBoundary | with_reducible apply OnlyChanges.lapseBid | dsimp only | split

theorem OnlyChanges.lapseOffers {bs : List Block} {s t : State} (h : OnlyChanges bs s t)
    (m : ∀ b ∈ [Block.offers, Block.arbiter, Block.events], b ∈ bs) : OnlyChanges bs s (t.lapseOffers) :=
  h.andThen ((State.only_lapseOffers t).mono m)

theorem State.only_closeAwarded (id : Option Nat) (st : OfferState) (t : State) : OnlyChanges [.offers, .events] t (t.closeAwarded id st) := by
  unfold State.closeAwarded
  repeat first | with_reducible exact OnlyChanges.refl _ | decide | with_reducible apply OnlyChanges.raise | with_reducible apply OnlyChanges.withEntries | dsimp only | split

theorem OnlyChanges.closeAwarded {bs : List Block} {s t : State} (id : Option Nat) (st : OfferState) (h : OnlyChanges bs s t)
    (m : ∀ b ∈ [Block.offers, Block.events], b ∈ bs) : OnlyChanges bs s (t.closeAwarded id st) :=
  h.andThen ((State.only_closeAwarded id st t).mono m)

theorem State.only_offersSecond (t : State) : OnlyChanges [.offers] t (t.offersSecond) := by
  unfold State.offersSecond
  repeat first | with_reducible exact OnlyChanges.refl _ | decide | with_reducible apply OnlyChanges.withEntries | with_reducible apply OnlyChanges.second | dsimp only | split

theorem OnlyChanges.offersSecond {bs : List Block} {s t : State} (h : OnlyChanges bs s t)
    (m : ∀ b ∈ [Block.offers], b ∈ bs) : OnlyChanges bs s (t.offersSecond) :=
  h.andThen ((State.only_offersSecond t).mono m)

theorem State.only_expireShown (id : Nat) (t : State) : OnlyChanges [.offers, .events] t (t.expireShown id) := by
  unfold State.expireShown
  repeat first | with_reducible exact OnlyChanges.refl _ | decide | with_reducible apply OnlyChanges.closeEntry | dsimp only | split

theorem OnlyChanges.expireShown {bs : List Block} {s t : State} (id : Nat) (h : OnlyChanges bs s t)
    (m : ∀ b ∈ [Block.offers, Block.events], b ∈ bs) : OnlyChanges bs s (t.expireShown id) :=
  h.andThen ((State.only_expireShown id t).mono m)

theorem State.only_expireBid (t : State) : OnlyChanges [.offers, .arbiter, .events] t (t.expireBid) := by
  unfold State.expireBid
  repeat first | with_reducible exact OnlyChanges.refl _ | decide | with_reducible apply OnlyChanges.withBid | with_reducible apply OnlyChanges.closeEntry | with_reducible apply OnlyChanges.offerBoundary | with_reducible apply OnlyChanges.dropBid | dsimp only | split

theorem OnlyChanges.expireBid {bs : List Block} {s t : State} (h : OnlyChanges bs s t)
    (m : ∀ b ∈ [Block.offers, Block.arbiter, Block.events], b ∈ bs) : OnlyChanges bs s (t.expireBid) :=
  h.andThen ((State.only_expireBid t).mono m)

theorem State.only_expireAward (t : State) : OnlyChanges [.offers, .events] t (t.expireAward) := by
  unfold State.expireAward
  repeat first | with_reducible exact OnlyChanges.refl _ | decide | with_reducible apply OnlyChanges.withBid | with_reducible apply OnlyChanges.closeEntry | with_reducible apply OnlyChanges.offerBoundary | dsimp only | split

theorem OnlyChanges.expireAward {bs : List Block} {s t : State} (h : OnlyChanges bs s t)
    (m : ∀ b ∈ [Block.offers, Block.events], b ∈ bs) : OnlyChanges bs s (t.expireAward) :=
  h.andThen ((State.only_expireAward t).mono m)

theorem State.only_withList (x : List Message) (t : State) : OnlyChanges [.messages] t (t.withList x) := by
  unfold State.withList
  repeat first | with_reducible exact OnlyChanges.refl _ | decide | with_reducible apply OnlyChanges.withMessages | dsimp only | split

theorem OnlyChanges.withList {bs : List Block} {s t : State} (x : List Message) (h : OnlyChanges bs s t)
    (m : ∀ b ∈ [Block.messages], b ∈ bs) : OnlyChanges bs s (t.withList x) :=
  h.andThen ((State.only_withList x t).mono m)

theorem State.only_withRefusal (x : Option RefusalOwed) (t : State) : OnlyChanges [.messages] t (t.withRefusal x) := by
  unfold State.withRefusal
  repeat first | with_reducible exact OnlyChanges.refl _ | decide | with_reducible apply OnlyChanges.withMessages | dsimp only | split

theorem OnlyChanges.withRefusal {bs : List Block} {s t : State} (x : Option RefusalOwed) (h : OnlyChanges bs s t)
    (m : ∀ b ∈ [Block.messages], b ∈ bs) : OnlyChanges bs s (t.withRefusal x) :=
  h.andThen ((State.only_withRefusal x t).mono m)

theorem State.only_withOwed (x : List OwedItem) (t : State) : OnlyChanges [.messages] t (t.withOwed x) := by
  unfold State.withOwed
  repeat first | with_reducible exact OnlyChanges.refl _ | decide | with_reducible apply OnlyChanges.withMessages | dsimp only | split

theorem OnlyChanges.withOwed {bs : List Block} {s t : State} (x : List OwedItem) (h : OnlyChanges bs s t)
    (m : ∀ b ∈ [Block.messages], b ∈ bs) : OnlyChanges bs s (t.withOwed x) :=
  h.andThen ((State.only_withOwed x t).mono m)

theorem State.only_mapMessage (id : Nat) (f : Message → Message) (t : State) : OnlyChanges [.messages] t (t.mapMessage id f) := by
  unfold State.mapMessage
  repeat first | with_reducible exact OnlyChanges.refl _ | decide | with_reducible apply OnlyChanges.withList | dsimp only | split

theorem OnlyChanges.mapMessage {bs : List Block} {s t : State} (id : Nat) (f : Message → Message) (h : OnlyChanges bs s t)
    (m : ∀ b ∈ [Block.messages], b ∈ bs) : OnlyChanges bs s (t.mapMessage id f) :=
  h.andThen ((State.only_mapMessage id f t).mono m)

theorem State.only_setOwedStage (i : OwedItem) (st : OwedStage) (t : State) : OnlyChanges [.messages] t (t.setOwedStage i st) := by
  unfold State.setOwedStage
  repeat first | with_reducible exact OnlyChanges.refl _ | decide | with_reducible apply OnlyChanges.withRefusal | with_reducible apply OnlyChanges.mapMessage | dsimp only | split

theorem OnlyChanges.setOwedStage {bs : List Block} {s t : State} (i : OwedItem) (st : OwedStage) (h : OnlyChanges bs s t)
    (m : ∀ b ∈ [Block.messages], b ∈ bs) : OnlyChanges bs s (t.setOwedStage i st) :=
  h.andThen ((State.only_setOwedStage i st t).mono m)

theorem State.only_placeReceipt (t : State) : OnlyChanges [.messages, .arbiter] t (t.placeReceipt) := by
  unfold State.placeReceipt
  repeat first | with_reducible exact OnlyChanges.refl _ | decide | with_reducible apply OnlyChanges.enqueue | with_reducible apply OnlyChanges.setOwedStage | dsimp only | split

theorem OnlyChanges.placeReceipt {bs : List Block} {s t : State} (h : OnlyChanges bs s t)
    (m : ∀ b ∈ [Block.messages, Block.arbiter], b ∈ bs) : OnlyChanges bs s (t.placeReceipt) :=
  h.andThen ((State.only_placeReceipt t).mono m)

theorem State.only_placeReceipts (t : State) : OnlyChanges [.messages, .arbiter] t (t.placeReceipts) := by
  unfold State.placeReceipts
  repeat first | with_reducible exact OnlyChanges.refl _ | decide | with_reducible apply OnlyChanges.placeReceipt | dsimp only | split

theorem OnlyChanges.placeReceipts {bs : List Block} {s t : State} (h : OnlyChanges bs s t)
    (m : ∀ b ∈ [Block.messages, Block.arbiter], b ∈ bs) : OnlyChanges bs s (t.placeReceipts) :=
  h.andThen ((State.only_placeReceipts t).mono m)

theorem State.only_oweReceipt (id : Nat) (k : ReceiptKind) (t : State) : OnlyChanges [.messages, .arbiter] t (t.oweReceipt id k) := by
  unfold State.oweReceipt
  repeat first | with_reducible exact OnlyChanges.refl _ | decide | with_reducible apply OnlyChanges.withOwed | with_reducible apply OnlyChanges.mapMessage | with_reducible apply OnlyChanges.placeReceipts | dsimp only | split

theorem OnlyChanges.oweReceipt {bs : List Block} {s t : State} (id : Nat) (k : ReceiptKind) (h : OnlyChanges bs s t)
    (m : ∀ b ∈ [Block.messages, Block.arbiter], b ∈ bs) : OnlyChanges bs s (t.oweReceipt id k) :=
  h.andThen ((State.only_oweReceipt id k t).mono m)

theorem State.only_removeMessage (id : Nat) (t : State) : OnlyChanges [.messages, .arbiter] t (t.removeMessage id) := by
  unfold State.removeMessage
  repeat first | with_reducible exact OnlyChanges.refl _ | decide | with_reducible apply OnlyChanges.withdraw | with_reducible apply OnlyChanges.withMessages | dsimp only | split

theorem OnlyChanges.removeMessage {bs : List Block} {s t : State} (id : Nat) (h : OnlyChanges bs s t)
    (m : ∀ b ∈ [Block.messages, Block.arbiter], b ∈ bs) : OnlyChanges bs s (t.removeMessage id) :=
  h.andThen ((State.only_removeMessage id t).mono m)

theorem State.only_endRefusal (t : State) : OnlyChanges [.messages, .arbiter] t (t.endRefusal) := by
  unfold State.endRefusal
  repeat first | with_reducible exact OnlyChanges.refl _ | decide | with_reducible apply OnlyChanges.withdraw | with_reducible apply OnlyChanges.withMessages | dsimp only | split

theorem OnlyChanges.endRefusal {bs : List Block} {s t : State} (h : OnlyChanges bs s t)
    (m : ∀ b ∈ [Block.messages, Block.arbiter], b ∈ bs) : OnlyChanges bs s (t.endRefusal) :=
  h.andThen ((State.only_endRefusal t).mono m)

theorem State.only_removeForRoom (id : Nat) (t : State) : OnlyChanges [.messages, .arbiter] t (t.removeForRoom id) := by
  unfold State.removeForRoom
  repeat first | with_reducible exact OnlyChanges.refl _ | decide | with_reducible apply OnlyChanges.removeMessage | with_reducible apply OnlyChanges.withMessages | dsimp only | split

theorem OnlyChanges.removeForRoom {bs : List Block} {s t : State} (id : Nat) (h : OnlyChanges bs s t)
    (m : ∀ b ∈ [Block.messages, Block.arbiter], b ∈ bs) : OnlyChanges bs s (t.removeForRoom id) :=
  h.andThen ((State.only_removeForRoom id t).mono m)

theorem State.only_storeMessage (f : MessageFields) (t : State) : OnlyChanges [.messages, .arbiter, .events] t (t.storeMessage f) := by
  unfold State.storeMessage
  repeat first | with_reducible exact OnlyChanges.refl _ | decide | with_reducible apply OnlyChanges.raise | with_reducible apply OnlyChanges.withList | with_reducible apply OnlyChanges.placeReceipts | with_reducible apply OnlyChanges.oweReceipt | with_reducible apply OnlyChanges.endRefusal | dsimp only | split

theorem OnlyChanges.storeMessage {bs : List Block} {s t : State} (f : MessageFields) (h : OnlyChanges bs s t)
    (m : ∀ b ∈ [Block.messages, Block.arbiter, Block.events], b ∈ bs) : OnlyChanges bs s (t.storeMessage f) :=
  h.andThen ((State.only_storeMessage f t).mono m)

theorem State.only_refuseMessage (f : MessageFields) (t : State) : OnlyChanges [.messages, .arbiter] t (t.refuseMessage f) := by
  unfold State.refuseMessage
  repeat first | with_reducible exact OnlyChanges.refl _ | decide | with_reducible apply OnlyChanges.withRefusal | with_reducible apply OnlyChanges.withOwed | with_reducible apply OnlyChanges.placeReceipts | dsimp only | split

theorem OnlyChanges.refuseMessage {bs : List Block} {s t : State} (f : MessageFields) (h : OnlyChanges bs s t)
    (m : ∀ b ∈ [Block.messages, Block.arbiter], b ∈ bs) : OnlyChanges bs s (t.refuseMessage f) :=
  h.andThen ((State.only_refuseMessage f t).mono m)

theorem State.only_duplicateMessage (x : Message) (t : State) : OnlyChanges [.messages, .arbiter] t (t.duplicateMessage x) := by
  unfold State.duplicateMessage
  repeat first | with_reducible exact OnlyChanges.refl _ | decide | with_reducible apply OnlyChanges.oweReceipt | dsimp only | split

theorem OnlyChanges.duplicateMessage {bs : List Block} {s t : State} (x : Message) (h : OnlyChanges bs s t)
    (m : ∀ b ∈ [Block.messages, Block.arbiter], b ∈ bs) : OnlyChanges bs s (t.duplicateMessage x) :=
  h.andThen ((State.only_duplicateMessage x t).mono m)

theorem State.only_removeAll (ids : List Nat) (t : State) :
    OnlyChanges [.messages, .arbiter] t (ids.foldl (fun u id => u.removeForRoom id) t) := by
  induction ids generalizing t with
  | nil => exact .refl _
  | cons id rest ih => exact (State.only_removeForRoom id t).andThen (ih _)


theorem State.only_messageArrives (f : MessageFields) (t : State) :
    OnlyChanges [.messages, .arbiter, .events] t (t.messageArrives f) := by
  unfold State.messageArrives
  split
  · exact (State.only_duplicateMessage _ t).mono (by decide)
  · split
    · exact ((State.only_removeAll _ t).trans (State.only_storeMessage f _)).mono (by decide)
    · exact (State.only_refuseMessage f t).mono (by decide)


theorem OnlyChanges.messageArrives {bs : List Block} {s t : State} (f : MessageFields) (h : OnlyChanges bs s t)
    (m : ∀ b ∈ [Block.messages, Block.arbiter, Block.events], b ∈ bs) : OnlyChanges bs s (t.messageArrives f) :=
  h.andThen ((State.only_messageArrives f t).mono m)

theorem State.only_recallMessage (id : Nat) (t : State) : OnlyChanges [.messages, .arbiter, .events] t (t.recallMessage id) := by
  unfold State.recallMessage
  repeat first | with_reducible exact OnlyChanges.refl _ | decide | with_reducible apply OnlyChanges.raise | with_reducible apply OnlyChanges.placeReceipts | with_reducible apply OnlyChanges.removeMessage | with_reducible apply OnlyChanges.endRefusal | dsimp only | split

theorem OnlyChanges.recallMessage {bs : List Block} {s t : State} (id : Nat) (h : OnlyChanges bs s t)
    (m : ∀ b ∈ [Block.messages, Block.arbiter, Block.events], b ∈ bs) : OnlyChanges bs s (t.recallMessage id) :=
  h.andThen ((State.only_recallMessage id t).mono m)

theorem State.only_receiptGranted (i : OwedItem) (t : State) : OnlyChanges [.messages] t (t.receiptGranted i) := by
  unfold State.receiptGranted
  repeat first | with_reducible exact OnlyChanges.refl _ | decide | with_reducible apply OnlyChanges.withRefusal | with_reducible apply OnlyChanges.setOwedStage | dsimp only | split

theorem OnlyChanges.receiptGranted {bs : List Block} {s t : State} (i : OwedItem) (h : OnlyChanges bs s t)
    (m : ∀ b ∈ [Block.messages], b ∈ bs) : OnlyChanges bs s (t.receiptGranted i) :=
  h.andThen ((State.only_receiptGranted i t).mono m)

theorem State.only_receiptDone (id : Nat) (t : State) : OnlyChanges [.messages, .arbiter] t (t.receiptDone id) := by
  unfold State.receiptDone
  repeat first | with_reducible exact OnlyChanges.refl _ | decide | with_reducible apply OnlyChanges.withOwed | with_reducible apply OnlyChanges.mapMessage | with_reducible apply OnlyChanges.placeReceipts | dsimp only | split

theorem OnlyChanges.receiptDone {bs : List Block} {s t : State} (id : Nat) (h : OnlyChanges bs s t)
    (m : ∀ b ∈ [Block.messages, Block.arbiter], b ∈ bs) : OnlyChanges bs s (t.receiptDone id) :=
  h.andThen ((State.only_receiptDone id t).mono m)

theorem State.only_receiptFailed (id : Nat) (t : State) : OnlyChanges [.messages] t (t.receiptFailed id) := by
  unfold State.receiptFailed
  repeat first | with_reducible exact OnlyChanges.refl _ | decide | with_reducible apply OnlyChanges.mapMessage | dsimp only | split

theorem OnlyChanges.receiptFailed {bs : List Block} {s t : State} (id : Nat) (h : OnlyChanges bs s t)
    (m : ∀ b ∈ [Block.messages], b ∈ bs) : OnlyChanges bs s (t.receiptFailed id) :=
  h.andThen ((State.only_receiptFailed id t).mono m)

theorem State.only_refusalDone (t : State) : OnlyChanges [.messages, .arbiter] t (t.refusalDone) := by
  unfold State.refusalDone
  repeat first | with_reducible exact OnlyChanges.refl _ | decide | with_reducible apply OnlyChanges.withRefusal | with_reducible apply OnlyChanges.withOwed | with_reducible apply OnlyChanges.placeReceipts | dsimp only | split

theorem OnlyChanges.refusalDone {bs : List Block} {s t : State} (h : OnlyChanges bs s t)
    (m : ∀ b ∈ [Block.messages, Block.arbiter], b ∈ bs) : OnlyChanges bs s (t.refusalDone) :=
  h.andThen ((State.only_refusalDone t).mono m)

theorem State.only_refusalFailed (t : State) : OnlyChanges [.messages] t (t.refusalFailed) := by
  unfold State.refusalFailed
  repeat first | with_reducible exact OnlyChanges.refl _ | decide | with_reducible apply OnlyChanges.withRefusal | dsimp only | split

theorem OnlyChanges.refusalFailed {bs : List Block} {s t : State} (h : OnlyChanges bs s t)
    (m : ∀ b ∈ [Block.messages], b ∈ bs) : OnlyChanges bs s (t.refusalFailed) :=
  h.andThen ((State.only_refusalFailed t).mono m)

theorem State.only_driverDone (n : Nat) (t : State) : OnlyChanges [.messages] t (t.driverDone n) := by
  unfold State.driverDone
  repeat first | with_reducible exact OnlyChanges.refl _ | decide | with_reducible apply OnlyChanges.withMessages | dsimp only | split

theorem OnlyChanges.driverDone {bs : List Block} {s t : State} (n : Nat) (h : OnlyChanges bs s t)
    (m : ∀ b ∈ [Block.messages], b ∈ bs) : OnlyChanges bs s (t.driverDone n) :=
  h.andThen ((State.only_driverDone n t).mono m)

theorem State.only_raiseEmergency (t : State) : OnlyChanges [.events] t (t.raiseEmergency) := by
  unfold State.raiseEmergency
  repeat first | with_reducible exact OnlyChanges.refl _ | decide | with_reducible apply OnlyChanges.raise | dsimp only | split

theorem OnlyChanges.raiseEmergency {bs : List Block} {s t : State} (h : OnlyChanges bs s t)
    (m : ∀ b ∈ [Block.events], b ∈ bs) : OnlyChanges bs s (t.raiseEmergency) :=
  h.andThen ((State.only_raiseEmergency t).mono m)

theorem State.only_reportDue (t : State) : OnlyChanges [.emergency, .arbiter] t (t.reportDue) := by
  unfold State.reportDue
  repeat first | with_reducible exact OnlyChanges.refl _ | decide | with_reducible apply OnlyChanges.fillSlot | with_reducible apply OnlyChanges.withEmergency | dsimp only | split

theorem OnlyChanges.reportDue {bs : List Block} {s t : State} (h : OnlyChanges bs s t)
    (m : ∀ b ∈ [Block.emergency, Block.arbiter], b ∈ bs) : OnlyChanges bs s (t.reportDue) :=
  h.andThen ((State.only_reportDue t).mono m)

theorem State.only_markTrip (t : State) : OnlyChanges [.meter] t (t.markTrip) := by
  unfold State.markTrip
  repeat first | with_reducible exact OnlyChanges.refl _ | decide | with_reducible apply OnlyChanges.mapTrip | dsimp only | split

theorem OnlyChanges.markTrip {bs : List Block} {s t : State} (h : OnlyChanges bs s t)
    (m : ∀ b ∈ [Block.meter], b ∈ bs) : OnlyChanges bs s (t.markTrip) :=
  h.andThen ((State.only_markTrip t).mono m)

theorem State.only_startRoof (t : State) : OnlyChanges [.roof] t (t.startRoof) := by
  unfold State.startRoof
  repeat first | with_reducible exact OnlyChanges.refl _ | decide | with_reducible apply OnlyChanges.withRoof | dsimp only | split

theorem OnlyChanges.startRoof {bs : List Block} {s t : State} (h : OnlyChanges bs s t)
    (m : ∀ b ∈ [Block.roof], b ∈ bs) : OnlyChanges bs s (t.startRoof) :=
  h.andThen ((State.only_startRoof t).mono m)

theorem State.only_activate (t : State) : OnlyChanges [.meter, .roof, .emergency, .arbiter, .events] t (t.activate) := by
  unfold State.activate
  repeat first | with_reducible exact OnlyChanges.refl _ | decide | with_reducible apply OnlyChanges.raiseEmergency | with_reducible apply OnlyChanges.reportDue | with_reducible apply OnlyChanges.markTrip | with_reducible apply OnlyChanges.startRoof | with_reducible apply OnlyChanges.withEmergency | dsimp only | split

theorem OnlyChanges.activate {bs : List Block} {s t : State} (h : OnlyChanges bs s t)
    (m : ∀ b ∈ [Block.meter, Block.roof, Block.emergency, Block.arbiter, Block.events], b ∈ bs) : OnlyChanges bs s (t.activate) :=
  h.andThen ((State.only_activate t).mono m)

theorem State.only_escalate (t : State) : OnlyChanges [.meter, .emergency, .arbiter, .events] t (t.escalate) := by
  unfold State.escalate
  repeat first | with_reducible exact OnlyChanges.refl _ | decide | with_reducible apply OnlyChanges.raiseEmergency | with_reducible apply OnlyChanges.reportDue | with_reducible apply OnlyChanges.markTrip | with_reducible apply OnlyChanges.withEmergency | dsimp only | split

theorem OnlyChanges.escalate {bs : List Block} {s t : State} (h : OnlyChanges bs s t)
    (m : ∀ b ∈ [Block.meter, Block.emergency, Block.arbiter, Block.events], b ∈ bs) : OnlyChanges bs s (t.escalate) :=
  h.andThen ((State.only_escalate t).mono m)

theorem State.only_acknowledgeEmergency (t : State) : OnlyChanges [.emergency, .arbiter, .events] t (t.acknowledgeEmergency) := by
  unfold State.acknowledgeEmergency
  repeat first | with_reducible exact OnlyChanges.refl _ | decide | with_reducible apply OnlyChanges.raiseEmergency | with_reducible apply OnlyChanges.reportDue | with_reducible apply OnlyChanges.withEmergency | dsimp only | split

theorem OnlyChanges.acknowledgeEmergency {bs : List Block} {s t : State} (h : OnlyChanges bs s t)
    (m : ∀ b ∈ [Block.emergency, Block.arbiter, Block.events], b ∈ bs) : OnlyChanges bs s (t.acknowledgeEmergency) :=
  h.andThen ((State.only_acknowledgeEmergency t).mono m)

theorem State.only_clearEmergency (t : State) : OnlyChanges [.roof, .emergency, .arbiter, .events] t (t.clearEmergency) := by
  unfold State.clearEmergency
  repeat first | with_reducible exact OnlyChanges.refl _ | decide | with_reducible apply OnlyChanges.withdrawSlot | with_reducible apply OnlyChanges.raiseEmergency | with_reducible apply OnlyChanges.withRoof | with_reducible apply OnlyChanges.withEmergency | dsimp only | split

theorem OnlyChanges.clearEmergency {bs : List Block} {s t : State} (h : OnlyChanges bs s t)
    (m : ∀ b ∈ [Block.roof, Block.emergency, Block.arbiter, Block.events], b ∈ bs) : OnlyChanges bs s (t.clearEmergency) :=
  h.andThen ((State.only_clearEmergency t).mono m)

theorem State.only_expireInterval (t : State) : OnlyChanges [.emergency, .arbiter] t (t.expireInterval) := by
  unfold State.expireInterval
  repeat first | with_reducible exact OnlyChanges.refl _ | decide | with_reducible apply OnlyChanges.reportDue | with_reducible apply OnlyChanges.withEmergency | dsimp only | split

theorem OnlyChanges.expireInterval {bs : List Block} {s t : State} (h : OnlyChanges bs s t)
    (m : ∀ b ∈ [Block.emergency, Block.arbiter], b ∈ bs) : OnlyChanges bs s (t.expireInterval) :=
  h.andThen ((State.only_expireInterval t).mono m)

theorem State.only_sampleSwitch (a : Bool) (t : State) : OnlyChanges [.emergency, .events] t (t.sampleSwitch a) := by
  unfold State.sampleSwitch
  repeat first | with_reducible exact OnlyChanges.refl _ | decide | with_reducible apply OnlyChanges.raiseEmergency | with_reducible apply OnlyChanges.withEmergency | dsimp only | split

theorem OnlyChanges.sampleSwitch {bs : List Block} {s t : State} (a : Bool) (h : OnlyChanges bs s t)
    (m : ∀ b ∈ [Block.emergency, Block.events], b ∈ bs) : OnlyChanges bs s (t.sampleSwitch a) :=
  h.andThen ((State.only_sampleSwitch a t).mono m)

theorem State.only_reportDone (t : State) : OnlyChanges [.emergency] t (t.reportDone) := by
  unfold State.reportDone
  repeat first | with_reducible exact OnlyChanges.refl _ | decide | with_reducible apply OnlyChanges.withEmergency | dsimp only | split

theorem OnlyChanges.reportDone {bs : List Block} {s t : State} (h : OnlyChanges bs s t)
    (m : ∀ b ∈ [Block.emergency], b ∈ bs) : OnlyChanges bs s (t.reportDone) :=
  h.andThen ((State.only_reportDone t).mono m)

theorem State.only_reportFailed (t : State) : OnlyChanges [.arbiter] t (t.reportFailed) := by
  unfold State.reportFailed
  repeat first | with_reducible exact OnlyChanges.refl _ | decide | with_reducible apply OnlyChanges.fillSlot | dsimp only | split

theorem OnlyChanges.reportFailed {bs : List Block} {s t : State} (h : OnlyChanges bs s t)
    (m : ∀ b ∈ [Block.arbiter], b ∈ bs) : OnlyChanges bs s (t.reportFailed) :=
  h.andThen ((State.only_reportFailed t).mono m)

theorem State.only_commitRoof (t : State) : OnlyChanges [.roof] t (t.commitRoof) := by
  unfold State.commitRoof
  repeat first | with_reducible exact OnlyChanges.refl _ | decide | with_reducible apply OnlyChanges.withRoof | dsimp only | split

theorem OnlyChanges.commitRoof {bs : List Block} {s t : State} (h : OnlyChanges bs s t)
    (m : ∀ b ∈ [Block.roof], b ∈ bs) : OnlyChanges bs s (t.commitRoof) :=
  h.andThen ((State.only_commitRoof t).mono m)

theorem State.only_countCrcError (t : State) : OnlyChanges [.link] t (t.countCrcError) := by
  unfold State.countCrcError
  repeat first | with_reducible exact OnlyChanges.refl _ | decide | with_reducible apply OnlyChanges.withLink | dsimp only | split

theorem OnlyChanges.countCrcError {bs : List Block} {s t : State} (h : OnlyChanges bs s t)
    (m : ∀ b ∈ [Block.link], b ∈ bs) : OnlyChanges bs s (t.countCrcError) :=
  h.andThen ((State.only_countCrcError t).mono m)

theorem State.only_withRecord (x : Option ReceiveRecord) (t : State) : OnlyChanges [.link] t (t.withRecord x) := by
  unfold State.withRecord
  repeat first | with_reducible exact OnlyChanges.refl _ | decide | with_reducible apply OnlyChanges.withLink | dsimp only | split

theorem OnlyChanges.withRecord {bs : List Block} {s t : State} (x : Option ReceiveRecord) (h : OnlyChanges bs s t)
    (m : ∀ b ∈ [Block.link], b ∈ bs) : OnlyChanges bs s (t.withRecord x) :=
  h.andThen ((State.only_withRecord x t).mono m)

theorem State.only_receiveBoundary (t : State) : OnlyChanges [.link] t (t.receiveBoundary) := by
  unfold State.receiveBoundary
  repeat first | with_reducible exact OnlyChanges.refl _ | decide | with_reducible apply OnlyChanges.withLink | dsimp only | split

theorem OnlyChanges.receiveBoundary {bs : List Block} {s t : State} (h : OnlyChanges bs s t)
    (m : ∀ b ∈ [Block.link], b ∈ bs) : OnlyChanges bs s (t.receiveBoundary) :=
  h.andThen ((State.only_receiveBoundary t).mono m)

theorem State.only_stopAir (t : State) : OnlyChanges [.link] t (t.stopAir) := by
  unfold State.stopAir
  repeat first | with_reducible exact OnlyChanges.refl _ | decide | with_reducible apply OnlyChanges.receiveBoundary | with_reducible apply OnlyChanges.withLink | dsimp only | split

theorem OnlyChanges.stopAir {bs : List Block} {s t : State} (h : OnlyChanges bs s t)
    (m : ∀ b ∈ [Block.link], b ∈ bs) : OnlyChanges bs s (t.stopAir) :=
  h.andThen ((State.only_stopAir t).mono m)

theorem State.only_runAir (t : State) : OnlyChanges [.link] t (t.runAir) := by
  unfold State.runAir
  repeat first | with_reducible exact OnlyChanges.refl _ | decide | with_reducible apply OnlyChanges.withLink | dsimp only | split

theorem OnlyChanges.runAir {bs : List Block} {s t : State} (h : OnlyChanges bs s t)
    (m : ∀ b ∈ [Block.link], b ∈ bs) : OnlyChanges bs s (t.runAir) :=
  h.andThen ((State.only_runAir t).mono m)

theorem State.only_startMarker (t : State) : OnlyChanges [.link] t (t.startMarker) := by
  unfold State.startMarker
  repeat first | with_reducible exact OnlyChanges.refl _ | decide | with_reducible apply OnlyChanges.countCrcError | with_reducible apply OnlyChanges.withRecord | with_reducible apply OnlyChanges.receiveBoundary | dsimp only | split

theorem OnlyChanges.startMarker {bs : List Block} {s t : State} (h : OnlyChanges bs s t)
    (m : ∀ b ∈ [Block.link], b ∈ bs) : OnlyChanges bs s (t.startMarker) :=
  h.andThen ((State.only_startMarker t).mono m)

theorem State.only_rejectFrame (w : List Byte) (t : State) : OnlyChanges [.link, .events, .fault] t (t.rejectFrame w) := by
  unfold State.rejectFrame
  repeat first | with_reducible exact OnlyChanges.refl _ | decide | with_reducible apply OnlyChanges.offerFault | with_reducible apply OnlyChanges.countCrcError | with_reducible apply OnlyChanges.withRecord | with_reducible apply OnlyChanges.receiveBoundary | dsimp only | split

theorem OnlyChanges.rejectFrame {bs : List Block} {s t : State} (w : List Byte) (h : OnlyChanges bs s t)
    (m : ∀ b ∈ [Block.link, Block.events, Block.fault], b ∈ bs) : OnlyChanges bs s (t.rejectFrame w) :=
  h.andThen ((State.only_rejectFrame w t).mono m)

theorem State.only_setClock (f : CycleFields) (t : State) : OnlyChanges [.time] t (t.setClock f) := by
  unfold State.setClock
  repeat first | with_reducible exact OnlyChanges.refl _ | decide | with_reducible apply OnlyChanges.second | with_reducible apply OnlyChanges.withTime | dsimp only | split

theorem OnlyChanges.setClock {bs : List Block} {s t : State} (f : CycleFields) (h : OnlyChanges bs s t)
    (m : ∀ b ∈ [Block.time], b ∈ bs) : OnlyChanges bs s (t.setClock f) :=
  h.andThen ((State.only_setClock f t).mono m)

theorem State.only_openCycle (f : CycleFields) (t : State) : OnlyChanges [.time, .link, .events] t (t.openCycle f) := by
  unfold State.openCycle
  repeat first | with_reducible exact OnlyChanges.refl _ | decide | with_reducible apply OnlyChanges.raise | with_reducible apply OnlyChanges.setClock | with_reducible apply OnlyChanges.withLink | dsimp only | split

theorem OnlyChanges.openCycle {bs : List Block} {s t : State} (f : CycleFields) (h : OnlyChanges bs s t)
    (m : ∀ b ∈ [Block.time, Block.link, Block.events], b ∈ bs) : OnlyChanges bs s (t.openCycle f) :=
  h.andThen ((State.only_openCycle f t).mono m)

theorem State.only_repeatCycle (f : CycleFields) (n : CycleNow) (t : State) : OnlyChanges [.time, .link] t (t.repeatCycle f n) := by
  unfold State.repeatCycle
  repeat first | with_reducible exact OnlyChanges.refl _ | decide | with_reducible apply OnlyChanges.setClock | with_reducible apply OnlyChanges.withLink | dsimp only | split

theorem OnlyChanges.repeatCycle {bs : List Block} {s t : State} (f : CycleFields) (n : CycleNow) (h : OnlyChanges bs s t)
    (m : ∀ b ∈ [Block.time, Block.link], b ∈ bs) : OnlyChanges bs s (t.repeatCycle f n) :=
  h.andThen ((State.only_repeatCycle f n t).mono m)

theorem State.only_takeCycle (f : CycleFields) (t : State) : OnlyChanges [.time, .link, .events] t (t.takeCycle f) := by
  unfold State.takeCycle
  repeat first | with_reducible exact OnlyChanges.refl _ | decide | with_reducible apply OnlyChanges.openCycle | with_reducible apply OnlyChanges.repeatCycle | dsimp only | split

theorem OnlyChanges.takeCycle {bs : List Block} {s t : State} (f : CycleFields) (h : OnlyChanges bs s t)
    (m : ∀ b ∈ [Block.time, Block.link, Block.events], b ∈ bs) : OnlyChanges bs s (t.takeCycle f) :=
  h.andThen ((State.only_takeCycle f t).mono m)

theorem State.only_loseLink (t : State) : OnlyChanges [.link, .events] t (t.loseLink) := by
  unfold State.loseLink
  repeat first | with_reducible exact OnlyChanges.refl _ | decide | with_reducible apply OnlyChanges.raise | with_reducible apply OnlyChanges.withLink | dsimp only | split

theorem OnlyChanges.loseLink {bs : List Block} {s t : State} (h : OnlyChanges bs s t)
    (m : ∀ b ∈ [Block.link, Block.events], b ∈ bs) : OnlyChanges bs s (t.loseLink) :=
  h.andThen ((State.only_loseLink t).mono m)

theorem State.only_charge (t : State) : OnlyChanges [.link] t (t.charge) := by
  unfold State.charge
  repeat first | with_reducible exact OnlyChanges.refl _ | decide | with_reducible apply OnlyChanges.withLink | dsimp only | split

theorem OnlyChanges.charge {bs : List Block} {s t : State} (h : OnlyChanges bs s t)
    (m : ∀ b ∈ [Block.link], b ∈ bs) : OnlyChanges bs s (t.charge) :=
  h.andThen ((State.only_charge t).mono m)

theorem State.only_giveBack (c : Option Nat) (t : State) : OnlyChanges [.link] t (t.giveBack c) := by
  unfold State.giveBack
  repeat first | with_reducible exact OnlyChanges.refl _ | decide | with_reducible apply OnlyChanges.withLink | dsimp only | split

theorem OnlyChanges.giveBack {bs : List Block} {s t : State} (c : Option Nat) (h : OnlyChanges bs s t)
    (m : ∀ b ∈ [Block.link], b ∈ bs) : OnlyChanges bs s (t.giveBack c) :=
  h.andThen ((State.only_giveBack c t).mono m)

theorem State.only_displaced (e : Entry) (t : State) : OnlyChanges [.terminal] t (t.displaced e) := by
  unfold State.displaced
  repeat first | with_reducible exact OnlyChanges.refl _ | decide | with_reducible apply OnlyChanges.withTerminal | dsimp only | split

theorem OnlyChanges.displaced {bs : List Block} {s t : State} (e : Entry) (h : OnlyChanges bs s t)
    (m : ∀ b ∈ [Block.terminal], b ∈ bs) : OnlyChanges bs s (t.displaced e) :=
  h.andThen ((State.only_displaced e t).mono m)

theorem State.only_offerResult (r : LoadResult) (t : State) : OnlyChanges [.arbiter, .terminal] t (t.offerResult r) := by
  unfold State.offerResult
  repeat first | with_reducible exact OnlyChanges.refl _ | decide | with_reducible apply OnlyChanges.enqueue | with_reducible apply OnlyChanges.dequeue | with_reducible apply OnlyChanges.displaced | dsimp only | split

theorem OnlyChanges.offerResult {bs : List Block} {s t : State} (r : LoadResult) (h : OnlyChanges bs s t)
    (m : ∀ b ∈ [Block.arbiter, Block.terminal], b ∈ bs) : OnlyChanges bs s (t.offerResult r) :=
  h.andThen ((State.only_offerResult r t).mono m)

theorem State.only_withContext (x : Option Load) (t : State) : OnlyChanges [.loader] t (t.withContext x) := by
  unfold State.withContext
  repeat first | with_reducible exact OnlyChanges.refl _ | decide | with_reducible apply OnlyChanges.withLoader | dsimp only | split

theorem OnlyChanges.withContext {bs : List Block} {s t : State} (x : Option Load) (h : OnlyChanges bs s t)
    (m : ∀ b ∈ [Block.loader], b ∈ bs) : OnlyChanges bs s (t.withContext x) :=
  h.andThen ((State.only_withContext x t).mono m)

theorem State.only_endLoad (p : LoadPort) (r : LoadResult) (t : State) : OnlyChanges [.loader, .arbiter, .terminal, .events] t (t.endLoad p r) := by
  unfold State.endLoad
  repeat first | with_reducible exact OnlyChanges.refl _ | decide | with_reducible apply OnlyChanges.raise | with_reducible apply OnlyChanges.offerResult | with_reducible apply OnlyChanges.withContext | with_reducible apply OnlyChanges.withLoader | dsimp only | split

theorem OnlyChanges.endLoad {bs : List Block} {s t : State} (p : LoadPort) (r : LoadResult) (h : OnlyChanges bs s t)
    (m : ∀ b ∈ [Block.loader, Block.arbiter, Block.terminal, Block.events], b ∈ bs) : OnlyChanges bs s (t.endLoad p r) :=
  h.andThen ((State.only_endLoad p r t).mono m)

theorem State.only_openLoad (p : LoadPort) (f : OpenFields) (t : State) : OnlyChanges [.loader] t (t.openLoad p f) := by
  unfold State.openLoad
  repeat first | with_reducible exact OnlyChanges.refl _ | decide | with_reducible apply OnlyChanges.withContext | dsimp only | split

theorem OnlyChanges.openLoad {bs : List Block} {s t : State} (p : LoadPort) (f : OpenFields) (h : OnlyChanges bs s t)
    (m : ∀ b ∈ [Block.loader], b ∈ bs) : OnlyChanges bs s (t.openLoad p f) :=
  h.andThen ((State.only_openLoad p f t).mono m)

theorem State.only_restartLoad (c : Load) (t : State) : OnlyChanges [.loader] t (t.restartLoad c) := by
  unfold State.restartLoad
  repeat first | with_reducible exact OnlyChanges.refl _ | decide | with_reducible apply OnlyChanges.withContext | dsimp only | split

theorem OnlyChanges.restartLoad {bs : List Block} {s t : State} (c : Load) (h : OnlyChanges bs s t)
    (m : ∀ b ∈ [Block.loader], b ∈ bs) : OnlyChanges bs s (t.restartLoad c) :=
  h.andThen ((State.only_restartLoad c t).mono m)

theorem State.only_expireLoad (t : State) : OnlyChanges [.loader, .arbiter, .terminal, .events] t (t.expireLoad) := by
  unfold State.expireLoad
  repeat first | with_reducible exact OnlyChanges.refl _ | decide | with_reducible apply OnlyChanges.endLoad | dsimp only | split

theorem OnlyChanges.expireLoad {bs : List Block} {s t : State} (h : OnlyChanges bs s t)
    (m : ∀ b ∈ [Block.loader, Block.arbiter, Block.terminal, Block.events], b ∈ bs) : OnlyChanges bs s (t.expireLoad) :=
  h.andThen ((State.only_expireLoad t).mono m)

theorem State.only_commitVisibility (w : Bool) (t : State) : OnlyChanges [.events] t (t.commitVisibility w) := by
  unfold State.commitVisibility
  repeat first | with_reducible exact OnlyChanges.refl _ | decide | with_reducible apply OnlyChanges.withEvents | dsimp only | split

theorem OnlyChanges.commitVisibility {bs : List Block} {s t : State} (w : Bool) (h : OnlyChanges bs s t)
    (m : ∀ b ∈ [Block.events], b ∈ bs) : OnlyChanges bs s (t.commitVisibility w) :=
  h.andThen ((State.only_commitVisibility w t).mono m)

theorem State.only_commitStops (t : State) : OnlyChanges [.offers, .link, .events] t (t.commitStops) := by
  unfold State.commitStops
  repeat first | with_reducible exact OnlyChanges.refl _ | decide | with_reducible apply OnlyChanges.stopOffers | with_reducible apply OnlyChanges.runOffers | with_reducible apply OnlyChanges.stopAir | with_reducible apply OnlyChanges.runAir | dsimp only | split

theorem OnlyChanges.commitStops {bs : List Block} {s t : State} (h : OnlyChanges bs s t)
    (m : ∀ b ∈ [Block.offers, Block.link, Block.events], b ∈ bs) : OnlyChanges bs s (t.commitStops) :=
  h.andThen ((State.only_commitStops t).mono m)

theorem State.only_applySettings (x : Settings) (t : State) : OnlyChanges [.settings, .roof, .offers, .link, .events] t (t.applySettings x) := by
  unfold State.applySettings
  repeat first | with_reducible exact OnlyChanges.refl _ | decide | with_reducible apply OnlyChanges.commitRoof | with_reducible apply OnlyChanges.commitVisibility | with_reducible apply OnlyChanges.commitStops | with_reducible apply OnlyChanges.withSettings | dsimp only | split

theorem OnlyChanges.applySettings {bs : List Block} {s t : State} (x : Settings) (h : OnlyChanges bs s t)
    (m : ∀ b ∈ [Block.settings, Block.roof, Block.offers, Block.link, Block.events], b ∈ bs) : OnlyChanges bs s (t.applySettings x) :=
  h.andThen ((State.only_applySettings x t).mono m)

theorem State.only_applyIdentity (x : Identity) (t : State) : OnlyChanges [.identity, .arbiter] t (t.applyIdentity x) := by
  unfold State.applyIdentity
  repeat first | with_reducible exact OnlyChanges.refl _ | decide | with_reducible apply OnlyChanges.fillSlot | with_reducible apply OnlyChanges.withIdentity | dsimp only | split

theorem OnlyChanges.applyIdentity {bs : List Block} {s t : State} (x : Identity) (h : OnlyChanges bs s t)
    (m : ∀ b ∈ [Block.identity, Block.arbiter], b ∈ bs) : OnlyChanges bs s (t.applyIdentity x) :=
  h.andThen ((State.only_applyIdentity x t).mono m)

theorem State.only_pollArrives (t : State) : OnlyChanges [.arbiter] t (t.pollArrives) := by
  unfold State.pollArrives
  repeat first | with_reducible exact OnlyChanges.refl _ | decide | with_reducible apply OnlyChanges.enqueue | dsimp only | split

theorem OnlyChanges.pollArrives {bs : List Block} {s t : State} (h : OnlyChanges bs s t)
    (m : ∀ b ∈ [Block.arbiter], b ∈ bs) : OnlyChanges bs s (t.pollArrives) :=
  h.andThen ((State.only_pollArrives t).mono m)

theorem State.only_withInFlight (x : Option InFlight) (t : State) : OnlyChanges [.arbiter] t (t.withInFlight x) := by
  unfold State.withInFlight
  repeat first | with_reducible exact OnlyChanges.refl _ | decide | with_reducible apply OnlyChanges.withArbiter | dsimp only | split

theorem OnlyChanges.withInFlight {bs : List Block} {s t : State} (x : Option InFlight) (h : OnlyChanges bs s t)
    (m : ∀ b ∈ [Block.arbiter], b ∈ bs) : OnlyChanges bs s (t.withInFlight x) :=
  h.andThen ((State.only_withInFlight x t).mono m)

theorem State.only_handOver (x : List Byte) (t : State) : OnlyChanges [.arbiter] t (t.handOver x) := by
  unfold State.handOver
  repeat first | with_reducible exact OnlyChanges.refl _ | decide | with_reducible apply OnlyChanges.withInFlight | dsimp only | split

theorem OnlyChanges.handOver {bs : List Block} {s t : State} (x : List Byte) (h : OnlyChanges bs s t)
    (m : ∀ b ∈ [Block.arbiter], b ∈ bs) : OnlyChanges bs s (t.handOver x) :=
  h.andThen ((State.only_handOver x t).mono m)

theorem State.only_tellGrant (e : Entry) (t : State) : OnlyChanges [.offers, .messages] t (t.tellGrant e) := by
  unfold State.tellGrant
  repeat first | with_reducible exact OnlyChanges.refl _ | decide | with_reducible apply OnlyChanges.setCancel | with_reducible apply OnlyChanges.bidGranted | with_reducible apply OnlyChanges.receiptGranted | dsimp only | split

theorem OnlyChanges.tellGrant {bs : List Block} {s t : State} (e : Entry) (h : OnlyChanges bs s t)
    (m : ∀ b ∈ [Block.offers, Block.messages], b ∈ bs) : OnlyChanges bs s (t.tellGrant e) :=
  h.andThen ((State.only_tellGrant e t).mono m)

theorem State.only_grantEntry (e : Entry) (t : State) : OnlyChanges [.offers, .messages, .link, .arbiter] t (t.grantEntry e) := by
  unfold State.grantEntry
  repeat first | with_reducible exact OnlyChanges.refl _ | decide | with_reducible apply OnlyChanges.charge | with_reducible apply OnlyChanges.withInFlight | with_reducible apply OnlyChanges.handOver | with_reducible apply OnlyChanges.tellGrant | dsimp only | split

theorem OnlyChanges.grantEntry {bs : List Block} {s t : State} (e : Entry) (h : OnlyChanges bs s t)
    (m : ∀ b ∈ [Block.offers, Block.messages, Block.link, Block.arbiter], b ∈ bs) : OnlyChanges bs s (t.grantEntry e) :=
  h.andThen ((State.only_grantEntry e t).mono m)

theorem State.only_grantSlot (t : State) : OnlyChanges [.arbiter] t (t.grantSlot) := by
  unfold State.grantSlot
  repeat first | with_reducible exact OnlyChanges.refl _ | decide | with_reducible apply OnlyChanges.withArbiter | dsimp only | split

theorem OnlyChanges.grantSlot {bs : List Block} {s t : State} (h : OnlyChanges bs s t)
    (m : ∀ b ∈ [Block.arbiter], b ∈ bs) : OnlyChanges bs s (t.grantSlot) :=
  h.andThen ((State.only_grantSlot t).mono m)

theorem State.only_makeGrant (t : State) : OnlyChanges [.offers, .messages, .link, .arbiter] t (t.makeGrant) := by
  unfold State.makeGrant
  repeat first | with_reducible exact OnlyChanges.refl _ | decide | with_reducible apply OnlyChanges.grantEntry | with_reducible apply OnlyChanges.grantSlot | dsimp only | split

theorem OnlyChanges.makeGrant {bs : List Block} {s t : State} (h : OnlyChanges bs s t)
    (m : ∀ b ∈ [Block.offers, Block.messages, Block.link, Block.arbiter], b ∈ bs) : OnlyChanges bs s (t.makeGrant) :=
  h.andThen ((State.only_makeGrant t).mono m)

theorem State.only_tellDone (g : Granted) (t : State) : OnlyChanges [.store, .emergency, .offers, .messages, .arbiter, .terminal] t (t.tellDone g) := by
  unfold State.tellDone
  repeat first | with_reducible exact OnlyChanges.refl _ | decide | with_reducible apply OnlyChanges.totalSent | with_reducible apply OnlyChanges.shiftSent | with_reducible apply OnlyChanges.bidDone | with_reducible apply OnlyChanges.cancelDone | with_reducible apply OnlyChanges.receiptDone | with_reducible apply OnlyChanges.refusalDone | with_reducible apply OnlyChanges.driverDone | with_reducible apply OnlyChanges.reportDone | with_reducible apply OnlyChanges.withTerminal | dsimp only | split

theorem OnlyChanges.tellDone {bs : List Block} {s t : State} (g : Granted) (h : OnlyChanges bs s t)
    (m : ∀ b ∈ [Block.store, Block.emergency, Block.offers, Block.messages, Block.arbiter, Block.terminal], b ∈ bs) : OnlyChanges bs s (t.tellDone g) :=
  h.andThen ((State.only_tellDone g t).mono m)

theorem State.only_tellFail (g : Granted) (t : State) : OnlyChanges [.offers, .messages, .arbiter, .events] t (t.tellFail g) := by
  unfold State.tellFail
  repeat first | with_reducible exact OnlyChanges.refl _ | decide | with_reducible apply OnlyChanges.shiftFailed | with_reducible apply OnlyChanges.setCancel | with_reducible apply OnlyChanges.bidFailed | with_reducible apply OnlyChanges.receiptFailed | with_reducible apply OnlyChanges.refusalFailed | with_reducible apply OnlyChanges.reportFailed | dsimp only | split

theorem OnlyChanges.tellFail {bs : List Block} {s t : State} (g : Granted) (h : OnlyChanges bs s t)
    (m : ∀ b ∈ [Block.offers, Block.messages, Block.arbiter, Block.events], b ∈ bs) : OnlyChanges bs s (t.tellFail g) :=
  h.andThen ((State.only_tellFail g t).mono m)

theorem State.only_leaveQueue (g : Granted) (t : State) : OnlyChanges [.arbiter] t (t.leaveQueue g) := by
  unfold State.leaveQueue
  repeat first | with_reducible exact OnlyChanges.refl _ | decide | with_reducible apply OnlyChanges.dequeue | dsimp only | split

theorem OnlyChanges.leaveQueue {bs : List Block} {s t : State} (g : Granted) (h : OnlyChanges bs s t)
    (m : ∀ b ∈ [Block.arbiter], b ∈ bs) : OnlyChanges bs s (t.leaveQueue g) :=
  h.andThen ((State.only_leaveQueue g t).mono m)

theorem State.only_frameDone (f : InFlight) (t : State) : OnlyChanges [.store, .emergency, .offers, .messages, .arbiter, .terminal] t (t.frameDone f) := by
  unfold State.frameDone
  repeat first | with_reducible exact OnlyChanges.refl _ | decide | with_reducible apply OnlyChanges.withInFlight | with_reducible apply OnlyChanges.tellDone | with_reducible apply OnlyChanges.leaveQueue | dsimp only | split

theorem OnlyChanges.frameDone {bs : List Block} {s t : State} (f : InFlight) (h : OnlyChanges bs s t)
    (m : ∀ b ∈ [Block.store, Block.emergency, Block.offers, Block.messages, Block.arbiter, Block.terminal], b ∈ bs) : OnlyChanges bs s (t.frameDone f) :=
  h.andThen ((State.only_frameDone f t).mono m)

theorem State.only_frameFailed (f : InFlight) (t : State) : OnlyChanges [.offers, .messages, .link, .arbiter, .events] t (t.frameFailed f) := by
  unfold State.frameFailed
  repeat first | with_reducible exact OnlyChanges.refl _ | decide | with_reducible apply OnlyChanges.giveBack | with_reducible apply OnlyChanges.withInFlight | with_reducible apply OnlyChanges.tellFail | dsimp only | split

theorem OnlyChanges.frameFailed {bs : List Block} {s t : State} (f : InFlight) (h : OnlyChanges bs s t)
    (m : ∀ b ∈ [Block.offers, Block.messages, Block.link, Block.arbiter, Block.events], b ∈ bs) : OnlyChanges bs s (t.frameFailed f) :=
  h.andThen ((State.only_frameFailed f t).mono m)

theorem State.only_strayResult (d : Nat) (t : State) : OnlyChanges [.events, .fault] t (t.strayResult d) := by
  unfold State.strayResult
  repeat first | with_reducible exact OnlyChanges.refl _ | decide | with_reducible apply OnlyChanges.offerFault | dsimp only | split

theorem OnlyChanges.strayResult {bs : List Block} {s t : State} (d : Nat) (h : OnlyChanges bs s t)
    (m : ∀ b ∈ [Block.events, Block.fault], b ∈ bs) : OnlyChanges bs s (t.strayResult d) :=
  h.andThen ((State.only_strayResult d t).mono m)

theorem State.only_takeDone (t : State) : OnlyChanges [.store, .emergency, .offers, .messages, .arbiter, .events, .fault, .terminal] t (t.takeDone) := by
  unfold State.takeDone
  repeat first | with_reducible exact OnlyChanges.refl _ | decide | with_reducible apply OnlyChanges.frameDone | with_reducible apply OnlyChanges.strayResult | dsimp only | split

theorem OnlyChanges.takeDone {bs : List Block} {s t : State} (h : OnlyChanges bs s t)
    (m : ∀ b ∈ [Block.store, Block.emergency, Block.offers, Block.messages, Block.arbiter, Block.events, Block.fault, Block.terminal], b ∈ bs) : OnlyChanges bs s (t.takeDone) :=
  h.andThen ((State.only_takeDone t).mono m)

theorem State.only_takeFail (w : Bool) (t : State) : OnlyChanges [.offers, .messages, .link, .arbiter, .events, .fault] t (t.takeFail w) := by
  unfold State.takeFail
  repeat first | with_reducible exact OnlyChanges.refl _ | decide | with_reducible apply OnlyChanges.offerFault | with_reducible apply OnlyChanges.frameFailed | with_reducible apply OnlyChanges.strayResult | dsimp only | split

theorem OnlyChanges.takeFail {bs : List Block} {s t : State} (w : Bool) (h : OnlyChanges bs s t)
    (m : ∀ b ∈ [Block.offers, Block.messages, Block.link, Block.arbiter, Block.events, Block.fault], b ∈ bs) : OnlyChanges bs s (t.takeFail w) :=
  h.andThen ((State.only_takeFail w t).mono m)

theorem State.only_expireResponse (t : State) : OnlyChanges [.offers, .messages, .link, .arbiter, .events, .fault] t (t.expireResponse) := by
  unfold State.expireResponse
  repeat first | with_reducible exact OnlyChanges.refl _ | decide | with_reducible apply OnlyChanges.offerFault | with_reducible apply OnlyChanges.frameFailed | with_reducible apply OnlyChanges.withArbiter | dsimp only | split

theorem OnlyChanges.expireResponse {bs : List Block} {s t : State} (h : OnlyChanges bs s t)
    (m : ∀ b ∈ [Block.offers, Block.messages, Block.link, Block.arbiter, Block.events, Block.fault], b ∈ bs) : OnlyChanges bs s (t.expireResponse) :=
  h.andThen ((State.only_expireResponse t).mono m)

theorem State.only_expireSettle (t : State) : OnlyChanges [.arbiter] t (t.expireSettle) := by
  unfold State.expireSettle
  repeat first | with_reducible exact OnlyChanges.refl _ | decide | with_reducible apply OnlyChanges.withArbiter | dsimp only | split

theorem OnlyChanges.expireSettle {bs : List Block} {s t : State} (h : OnlyChanges bs s t)
    (m : ∀ b ∈ [Block.arbiter], b ∈ bs) : OnlyChanges bs s (t.expireSettle) :=
  h.andThen ((State.only_expireSettle t).mono m)

theorem State.only_storeOffers (t : State) : OnlyChanges [.store, .arbiter] t (t.storeOffers) := by
  unfold State.storeOffers
  repeat first | with_reducible exact OnlyChanges.refl _ | decide | with_reducible apply OnlyChanges.placeTotal | with_reducible apply OnlyChanges.placeShift | dsimp only | split

theorem OnlyChanges.storeOffers {bs : List Block} {s t : State} (h : OnlyChanges bs s t)
    (m : ∀ b ∈ [Block.store, Block.arbiter], b ∈ bs) : OnlyChanges bs s (t.storeOffers) :=
  h.andThen ((State.only_storeOffers t).mono m)

theorem State.only_offerAgain (o : OfferOrder) (t : State) : OnlyChanges [.store, .offers, .messages, .arbiter] t (t.offerAgain o) := by
  unfold State.offerAgain
  repeat first | with_reducible exact OnlyChanges.refl _ | decide | with_reducible apply OnlyChanges.placeCancels | with_reducible apply OnlyChanges.placeReceipts | with_reducible apply OnlyChanges.storeOffers | dsimp only | split

theorem OnlyChanges.offerAgain {bs : List Block} {s t : State} (o : OfferOrder) (h : OnlyChanges bs s t)
    (m : ∀ b ∈ [Block.store, Block.offers, Block.messages, Block.arbiter], b ∈ bs) : OnlyChanges bs s (t.offerAgain o) :=
  h.andThen ((State.only_offerAgain o t).mono m)

theorem State.only_offerAfterReset (t : State) : OnlyChanges [.store, .offers, .messages, .arbiter] t (t.offerAfterReset) := by
  unfold State.offerAfterReset
  repeat first | with_reducible exact OnlyChanges.refl _ | decide | with_reducible apply OnlyChanges.fillSlot | with_reducible apply OnlyChanges.offerAgain | dsimp only | split

theorem OnlyChanges.offerAfterReset {bs : List Block} {s t : State} (h : OnlyChanges bs s t)
    (m : ∀ b ∈ [Block.store, Block.offers, Block.messages, Block.arbiter], b ∈ bs) : OnlyChanges bs s (t.offerAfterReset) :=
  h.andThen ((State.only_offerAfterReset t).mono m)

theorem State.only_putReply (k g : Byte) (a : Answer) (t : State) : OnlyChanges [.terminal] t (t.putReply k g a) := by
  unfold State.putReply
  repeat first | with_reducible exact OnlyChanges.refl _ | decide | with_reducible apply OnlyChanges.withTerminal | dsimp only | split

theorem OnlyChanges.putReply {bs : List Block} {s t : State} (k g : Byte) (a : Answer) (h : OnlyChanges bs s t)
    (m : ∀ b ∈ [Block.terminal], b ∈ bs) : OnlyChanges bs s (t.putReply k g a) :=
  h.andThen ((State.only_putReply k g a t).mono m)

theorem State.only_tick (l : TickLines) (t : State) : OnlyChanges [.seat, .roof, .emergency, .monitor, .arbiter, .events] t (t.tick l) := by
  unfold State.tick
  repeat first | with_reducible exact OnlyChanges.refl _ | decide | with_reducible apply OnlyChanges.sampleSwitch | with_reducible apply OnlyChanges.withSeat | with_reducible apply OnlyChanges.withRoof | with_reducible apply OnlyChanges.withMonitor | with_reducible apply OnlyChanges.withArbiter | dsimp only | split

theorem OnlyChanges.tick {bs : List Block} {s t : State} (l : TickLines) (h : OnlyChanges bs s t)
    (m : ∀ b ∈ [Block.seat, Block.roof, Block.emergency, Block.monitor, Block.arbiter, Block.events], b ∈ bs) : OnlyChanges bs s (t.tick l) :=
  h.andThen ((State.only_tick l t).mono m)

theorem State.only_second (t : State) : OnlyChanges [.time, .pulses, .meter, .store, .emergency, .offers, .link, .loader, .events, .fault] t (t.second) := by
  unfold State.second
  repeat first | with_reducible exact OnlyChanges.refl _ | decide | with_reducible apply OnlyChanges.closePulses | with_reducible apply OnlyChanges.fareSecond | with_reducible apply OnlyChanges.withSender | with_reducible apply OnlyChanges.offersSecond | with_reducible apply OnlyChanges.withTime | with_reducible apply OnlyChanges.withEmergency | with_reducible apply OnlyChanges.withLink | with_reducible apply OnlyChanges.withLoader | dsimp only | split

theorem OnlyChanges.second {bs : List Block} {s t : State} (h : OnlyChanges bs s t)
    (m : ∀ b ∈ [Block.time, Block.pulses, Block.meter, Block.store, Block.emergency, Block.offers, Block.link, Block.loader, Block.events, Block.fault], b ∈ bs) : OnlyChanges bs s (t.second) :=
  h.andThen ((State.only_second t).mono m)

theorem State.only_mainValues (t : State) : OnlyChanges [.offers, .messages, .link, .arbiter, .loader, .addresses, .zones, .events, .fault, .terminal] t (t.mainValues) := by
  unfold State.mainValues
  repeat first | with_reducible exact OnlyChanges.refl _ | decide | with_reducible apply OnlyChanges.stopOffers | with_reducible apply OnlyChanges.stopAir | with_reducible apply OnlyChanges.withOffers | with_reducible apply OnlyChanges.withMessages | with_reducible apply OnlyChanges.withLink | with_reducible apply OnlyChanges.withArbiter | with_reducible apply OnlyChanges.withLoader | with_reducible apply OnlyChanges.withAddresses | with_reducible apply OnlyChanges.withZones | with_reducible apply OnlyChanges.withEvents | with_reducible apply OnlyChanges.withFault | with_reducible apply OnlyChanges.withTerminal | dsimp only | split

theorem OnlyChanges.mainValues {bs : List Block} {s t : State} (h : OnlyChanges bs s t)
    (m : ∀ b ∈ [Block.offers, Block.messages, Block.link, Block.arbiter, Block.loader, Block.addresses, Block.zones, Block.events, Block.fault, Block.terminal], b ∈ bs) : OnlyChanges bs s (t.mainValues) :=
  h.andThen ((State.only_mainValues t).mono m)

theorem State.only_backupLoss (t : State) : OnlyChanges [.time, .pulses, .meter, .seat, .roof, .tariff, .store, .emergency, .settings, .identity, .monitor, .check] t (t.backupLoss) := by
  unfold State.backupLoss
  repeat first | with_reducible exact OnlyChanges.refl _ | decide | with_reducible apply OnlyChanges.withTime | with_reducible apply OnlyChanges.withPulses | with_reducible apply OnlyChanges.withMeter | with_reducible apply OnlyChanges.withSeat | with_reducible apply OnlyChanges.withRoof | with_reducible apply OnlyChanges.withTariff | with_reducible apply OnlyChanges.withStore | with_reducible apply OnlyChanges.withEmergency | with_reducible apply OnlyChanges.withSettings | with_reducible apply OnlyChanges.withIdentity | with_reducible apply OnlyChanges.withMonitor | with_reducible apply OnlyChanges.withCheck | dsimp only | split

theorem OnlyChanges.backupLoss {bs : List Block} {s t : State} (h : OnlyChanges bs s t)
    (m : ∀ b ∈ [Block.time, Block.pulses, Block.meter, Block.seat, Block.roof, Block.tariff, Block.store, Block.emergency, Block.settings, Block.identity, Block.monitor, Block.check], b ∈ bs) : OnlyChanges bs s (t.backupLoss) :=
  h.andThen ((State.only_backupLoss t).mono m)

theorem State.only_exitShed (t : State) : OnlyChanges [.meter, .emergency] t (t.exitShed) := by
  unfold State.exitShed
  repeat first | with_reducible exact OnlyChanges.refl _ | decide | with_reducible apply OnlyChanges.mapTrip | with_reducible apply OnlyChanges.withEmergency | dsimp only | split

theorem OnlyChanges.exitShed {bs : List Block} {s t : State} (h : OnlyChanges bs s t)
    (m : ∀ b ∈ [Block.meter, Block.emergency], b ∈ bs) : OnlyChanges bs s (t.exitShed) :=
  h.andThen ((State.only_exitShed t).mono m)

theorem State.only_setFlag (e : EventKind) (t : State) : OnlyChanges [.events] t (t.setFlag e) := by
  unfold State.setFlag
  repeat first | with_reducible exact OnlyChanges.refl _ | decide | with_reducible apply OnlyChanges.withEvents | dsimp only | split

theorem OnlyChanges.setFlag {bs : List Block} {s t : State} (e : EventKind) (h : OnlyChanges bs s t)
    (m : ∀ b ∈ [Block.events], b ∈ bs) : OnlyChanges bs s (t.setFlag e) :=
  h.andThen ((State.only_setFlag e t).mono m)

theorem State.only_releaseReset (t : State) : OnlyChanges [.store, .offers, .messages, .link, .arbiter] t (t.releaseReset) := by
  unfold State.releaseReset
  repeat first | with_reducible exact OnlyChanges.refl _ | decide | with_reducible apply OnlyChanges.stopOffers | with_reducible apply OnlyChanges.stopAir | with_reducible apply OnlyChanges.offerAfterReset | with_reducible apply OnlyChanges.withOffers | with_reducible apply OnlyChanges.withLink | dsimp only | split

theorem OnlyChanges.releaseReset {bs : List Block} {s t : State} (h : OnlyChanges bs s t)
    (m : ∀ b ∈ [Block.store, Block.offers, Block.messages, Block.link, Block.arbiter], b ∈ bs) : OnlyChanges bs s (t.releaseReset) :=
  h.andThen ((State.only_releaseReset t).mono m)

theorem State.only_softReset (t : State) : OnlyChanges [.store, .offers, .messages, .link, .arbiter, .loader, .events, .terminal] t (t.softReset) := by
  unfold State.softReset
  repeat first | with_reducible exact OnlyChanges.refl _ | decide | with_reducible apply OnlyChanges.raise | with_reducible apply OnlyChanges.idleSender | with_reducible apply OnlyChanges.stopOffers | with_reducible apply OnlyChanges.stopAir | with_reducible apply OnlyChanges.offerAfterReset | with_reducible apply OnlyChanges.withOffers | with_reducible apply OnlyChanges.withMessages | with_reducible apply OnlyChanges.withLink | with_reducible apply OnlyChanges.withArbiter | with_reducible apply OnlyChanges.withLoader | with_reducible apply OnlyChanges.withTerminal | dsimp only | split

theorem OnlyChanges.softReset {bs : List Block} {s t : State} (h : OnlyChanges bs s t)
    (m : ∀ b ∈ [Block.store, Block.offers, Block.messages, Block.link, Block.arbiter, Block.loader, Block.events, Block.terminal], b ∈ bs) : OnlyChanges bs s (t.softReset) :=
  h.andThen ((State.only_softReset t).mono m)

theorem State.only_conditionChanged (t : State) : OnlyChanges [.offers, .link, .events] t (t.conditionChanged) := by
  unfold State.conditionChanged
  repeat first | with_reducible exact OnlyChanges.refl _ | decide | with_reducible apply OnlyChanges.raise | with_reducible apply OnlyChanges.stopOffers | with_reducible apply OnlyChanges.runOffers | with_reducible apply OnlyChanges.stopAir | with_reducible apply OnlyChanges.runAir | dsimp only | split

theorem OnlyChanges.conditionChanged {bs : List Block} {s t : State} (h : OnlyChanges bs s t)
    (m : ∀ b ∈ [Block.offers, Block.link, Block.events], b ∈ bs) : OnlyChanges bs s (t.conditionChanged) :=
  h.andThen ((State.only_conditionChanged t).mono m)

theorem State.only_endDebounce (t : State) : OnlyChanges [.monitor, .offers, .link, .events] t (t.endDebounce) := by
  unfold State.endDebounce
  repeat first | with_reducible exact OnlyChanges.refl _ | decide | with_reducible apply OnlyChanges.conditionChanged | with_reducible apply OnlyChanges.withMonitor | dsimp only | split

theorem OnlyChanges.endDebounce {bs : List Block} {s t : State} (h : OnlyChanges bs s t)
    (m : ∀ b ∈ [Block.monitor, Block.offers, Block.link, Block.events], b ∈ bs) : OnlyChanges bs s (t.endDebounce) :=
  h.andThen ((State.only_endDebounce t).mono m)

theorem State.only_enterShed (t : State) : OnlyChanges [.meter, .store, .monitor, .offers, .messages, .link, .arbiter, .loader, .addresses, .zones, .events, .fault, .terminal] t (t.enterShed) := by
  unfold State.enterShed
  repeat first | with_reducible exact OnlyChanges.refl _ | decide | with_reducible apply OnlyChanges.mapTrip | with_reducible apply OnlyChanges.idleSender | with_reducible apply OnlyChanges.mainValues | with_reducible apply OnlyChanges.withMonitor | dsimp only | split

theorem OnlyChanges.enterShed {bs : List Block} {s t : State} (h : OnlyChanges bs s t)
    (m : ∀ b ∈ [Block.meter, Block.store, Block.monitor, Block.offers, Block.messages, Block.link, Block.arbiter, Block.loader, Block.addresses, Block.zones, Block.events, Block.fault, Block.terminal], b ∈ bs) : OnlyChanges bs s (t.enterShed) :=
  h.andThen ((State.only_enterShed t).mono m)

theorem State.only_powerUp (t : State) : OnlyChanges [.monitor, .offers, .messages, .link, .arbiter, .loader, .addresses, .zones, .events, .fault, .terminal] t (t.powerUp) := by
  unfold State.powerUp
  repeat first | with_reducible exact OnlyChanges.refl _ | decide | with_reducible apply OnlyChanges.mainValues | with_reducible apply OnlyChanges.withMonitor | dsimp only | split

theorem OnlyChanges.powerUp {bs : List Block} {s t : State} (h : OnlyChanges bs s t)
    (m : ∀ b ∈ [Block.monitor, Block.offers, Block.messages, Block.link, Block.arbiter, Block.loader, Block.addresses, Block.zones, Block.events, Block.fault, Block.terminal], b ∈ bs) : OnlyChanges bs s (t.powerUp) :=
  h.andThen ((State.only_powerUp t).mono m)

/-! ## Loads -/

theorem State.only_reopen (c : Load) (f : OpenFields) (t : State) :
    OnlyChanges [.loader, .arbiter, .terminal, .events] t (t.reopen c f).1 := by
  unfold State.reopen
  split
  · exact (State.only_restartLoad c t).mono (by decide)
  · exact ((State.only_endLoad _ _ t).trans (State.only_openLoad _ f _)).mono (by decide)

theorem State.only_airOpen (f : OpenFields) (t : State) :
    OnlyChanges [.loader, .arbiter, .terminal, .events] t (t.airOpen f) := by
  unfold State.airOpen
  dsimp only
  split
  · exact (State.only_offerResult _ t).mono (by decide)
  · split
    · exact (State.only_openLoad _ f t).mono (by decide)
    · split
      · exact State.only_reopen _ f t
      · exact (State.only_offerResult _ t).mono (by decide)

theorem State.only_takeSegment (c : Load) (f : SegmentFields) (t : State) :
    OnlyChanges [.loader, .arbiter, .terminal, .events] t (t.takeSegment c f).1 := by
  unfold State.takeSegment
  dsimp only
  split
  · exact State.only_endLoad _ _ t
  · split
    · exact (State.only_restartLoad c t).mono (by decide)
    · split
      · exact State.only_endLoad _ _ t
      · exact (State.only_restartLoad _ t).mono (by decide)

theorem State.only_abortLoad (c : Load) (t : State) :
    OnlyChanges [.loader, .arbiter, .terminal, .events] t (t.abortLoad c).1 := State.only_endLoad _ _ t

theorem State.only_applyImage (table : TableId) (img : List Byte) (t u : State) (h : t.applyImage table img = .ok u) :
    OnlyChanges [.addresses, .zones, .tariff, .settings, .roof, .offers, .link, .events, .identity, .arbiter] t u := by
  unfold State.applyImage at h
  repeat' split at h
  all_goals cases h
  · exact (OnlyChanges.refl t).withAddresses (by decide)
  · exact (OnlyChanges.refl t).withZones (by decide)
  · exact (OnlyChanges.refl t).withTariff (by decide)
  · exact (State.only_applySettings _ t).mono (by decide)
  · exact (State.only_applyIdentity _ t).mono (by decide)

theorem State.only_commitLoad (c : Load) (check : Nat) (svc : Bool) (t : State) :
    OnlyChanges [.loader, .arbiter, .terminal, .events, .addresses, .zones, .tariff, .settings, .roof, .offers, .link,
      .identity] t (t.commitLoad c check svc).1 := by
  unfold State.commitLoad
  dsimp only
  repeat' split
  any_goals exact (State.only_endLoad _ _ t).mono (by decide)
  next u h => exact ((State.only_applyImage _ _ t u h).trans (State.only_endLoad _ _ u)).mono (by decide)

/-! ## How a command ends -/

/-- The end of a command changes the retained check and the output lines. -/
theorem OnlyChanges.ended {bs : List Block} {s t : State} (h : OnlyChanges bs s t) (mp : Block.pins ∈ bs)
    (mc : Block.check ∈ bs) : OnlyChanges bs s (s.updateCheck t).drive :=
  (h.withCheck mc).drive fun _ m => by simpa [List.mem_singleton.mp m] using mp

/-- The retained domain's blocks. -/
def Block.retained (b : Block) : Bool :=
  [Block.time, .pulses, .meter, .seat, .roof, .tariff, .store, .emergency, .settings, .identity, .monitor].contains b

/-- A step of the main domain alone leaves the retained state as it was. -/
theorem OnlyChanges.retained_eq {bs : List Block} {s t : State} (h : OnlyChanges bs s t)
    (m : ∀ b ∈ bs, b.retained = false) : t.retained = s.retained := by
  have k : ∀ b : Block, b.retained = true → b.same s t := fun b hb =>
    h.keep b fun hm => by simp [m b hm] at hb
  have k1 : t.time = s.time := k .time rfl
  have k2 : t.pulses = s.pulses := k .pulses rfl
  have k3 : t.meter = s.meter := k .meter rfl
  have k4 : t.seat = s.seat := k .seat rfl
  have k5 : t.roof = s.roof := k .roof rfl
  have k6 : t.tariff = s.tariff := k .tariff rfl
  have k7 : t.store = s.store := k .store rfl
  have k8 : t.emergency = s.emergency := k .emergency rfl
  have k9 : t.settings = s.settings := k .settings rfl
  have k10 : t.identity = s.identity := k .identity rfl
  have k11 : t.monitor = s.monitor := k .monitor rfl
  simp [State.retained, k1, k2, k3, k4, k5, k6, k7, k8, k9, k10, k11]

/-- The end of a command that leaves the retained state alone changes the output lines only (R191). -/
theorem OnlyChanges.endedMain {bs : List Block} {s t : State} (h : OnlyChanges bs s t) (mp : Block.pins ∈ bs)
    (m : ∀ b ∈ bs, b.retained = false) : OnlyChanges bs s (s.updateCheck t).drive := by
  have e : s.updateCheck t = t := by
    have r : t.givenCheck = s.givenCheck := by simp only [State.givenCheck, h.retained_eq m]
    simp only [State.updateCheck, r, BitVec.xor_assoc, BitVec.xor_self, BitVec.xor_zero]
    rfl
  rw [e]
  exact h.drive fun _ hm => by simpa [List.mem_singleton.mp hm] using mp

/-! ## Resets and frames -/

theorem State.only_mainReset (endsShed : Bool) (t : State) :
    OnlyChanges [.time, .pulses, .meter, .seat, .roof, .tariff, .store, .emergency, .settings, .identity, .monitor,
      .check, .offers, .messages, .link, .arbiter, .loader, .addresses, .zones, .events, .fault, .terminal] t
      (t.mainReset endsShed) := by
  unfold State.mainReset
  repeat first
    | with_reducible exact OnlyChanges.refl _
    | decide
    | with_reducible apply OnlyChanges.backupLoss
    | with_reducible apply OnlyChanges.withMonitor
    | with_reducible apply OnlyChanges.exitShed
    | with_reducible apply OnlyChanges.mainValues
    | with_reducible apply OnlyChanges.idleSender
    | with_reducible apply OnlyChanges.setFlag
    | with_reducible apply OnlyChanges.withFault
    | with_reducible apply OnlyChanges.offerAfterReset
    | dsimp only
    | split

/-- A frame changes the receive record, fault capture and what its owner changes. -/
theorem State.only_receive {bs : List Block} (k : DownKind) (hdr : AirHeader) (payload : List Byte)
    (owner : State → State) (t : State) (ho : ∀ u, OnlyChanges bs u (owner u))
    (m : ∀ b ∈ [Block.link, Block.events, Block.fault], b ∈ bs) :
    OnlyChanges bs t (t.receive k hdr payload owner) := by
  have hl : Block.link ∈ bs := m _ (by decide)
  unfold State.receive
  split
  · refine .receiveBoundary ?_ (by simpa using hl)
    split
    · split
      · exact .withRecord none (.refl t) (by simpa using hl)
      · exact (OnlyChanges.withRecord none (.refl t) (by simpa using hl)).andThen (ho _)
    · exact .offerFault _ _ _ _ (.withRecord none (.refl t) (by simpa using hl))
        (fun b h => m b (by revert h; cases b <;> decide))
    · exact .withRecord none (.refl t) (by simpa using hl)
  · exact .refl t

end Sys2Proof.Machine
end

