-- ==== Sys2Proof/Laws/Operands.lean ====
section
/-! SUPPORT. What each step of a payload's cursor does, where it succeeds and where it fails (R127, R195), and that a field
is the bytes of its number (R192). -/

namespace Sys2Proof.Machine

variable {α : Type} {c d : Cursor} {n lo hi pos : Nat}

/-! ## Fields as bytes (R192) -/

theorem u8_beNat {bs : List Byte} (h : bs.length = 1) : u8 (beNat bs) = bs := by
  obtain ⟨a, rfl⟩ := List.length_eq_one_iff.mp h
  simp [u8, beNat]

theorem u16_beNat {bs : List Byte} (h : bs.length = 2) : u16 (beNat bs) = bs := by
  obtain ⟨a, b, rfl⟩ := List.length_eq_two.mp h
  simp only [u16, beNat, List.foldl, List.cons.injEq, and_true]
  constructor <;> (apply BitVec.eq_of_toNat_eq; rw [BitVec.toNat_ofNat]; omega)

theorem u24_beNat {bs : List Byte} (h : bs.length = 3) : u24 (beNat bs) = bs := by
  obtain ⟨a, b, c, rfl⟩ := List.length_eq_three.mp h
  simp only [u24, u16, beNat, List.foldl, List.cons.injEq, and_true]
  refine ⟨?_, ?_, ?_⟩ <;> (apply BitVec.eq_of_toNat_eq; rw [BitVec.toNat_ofNat]; omega)

/-- A byte of two decimal digits is the lowest of a packed decimal number. -/
theorem bcdByte_digits (a : Byte) (n : Nat) (h : a.toNat / 16 ≤ 9) (k : a.toNat % 16 ≤ 9) :
    bcdByte (n * 100 + a.toNat / 16 * 10 + a.toNat % 16) = a := by
  unfold bcdByte
  apply BitVec.eq_of_toNat_eq
  rw [BitVec.toNat_ofNat]
  have : (n * 100 + a.toNat / 16 * 10 + a.toNat % 16) / 10 % 10 = a.toNat / 16 := by omega
  have : (n * 100 + a.toNat / 16 * 10 + a.toNat % 16) % 10 = a.toNat % 16 := by omega
  omega

/-- Three bytes that are packed decimal are the trip amount of their number. -/
theorem amount_of_bcdNat {bs : List Byte} (h : bs.length = 3) {v : Nat} (e : bcdNat bs = some v) :
    amount v = bs ∧ v ≤ 999999 := by
  obtain ⟨a, b, c, rfl⟩ := List.length_eq_three.mp h
  simp only [bcdNat, List.foldl] at e
  by_cases ha : a.toNat / 16 ≤ 9 ∧ a.toNat % 16 ≤ 9 <;> by_cases hb : b.toNat / 16 ≤ 9 ∧ b.toNat % 16 ≤ 9 <;>
    by_cases hc : c.toNat / 16 ≤ 9 ∧ c.toNat % 16 ≤ 9 <;> simp [ha, hb, hc] at e
  subst e
  refine ⟨?_, by omega⟩
  have q : ∀ (n : Nat) (x : Byte), x.toNat / 16 ≤ 9 ∧ x.toNat % 16 ≤ 9 →
      (n * 100 + x.toNat / 16 * 10 + x.toNat % 16) / 100 = n := by intros; omega
  have z := bcdByte_digits a 0 ha.1 ha.2
  rw [Nat.zero_mul, Nat.zero_add] at z
  rw [amount, show (10000 : Nat) = 100 * 100 from rfl, ← Nat.div_div_eq_div_mul, q _ _ hc, q _ _ hb,
    bcdByte_digits _ _ hc.1 hc.2, bcdByte_digits _ _ hb.1 hb.2, z]

/-! ## The cursor -/

/-- A step after another succeeds where both do. -/
theorem bind_ok {β : Type} {x : Except Nat α} {f : α → Except Nat β} {b : β} :
    (x >>= f) = .ok b ↔ ∃ a, x = .ok a ∧ f a = .ok b := by
  cases x <;> simp [bind, Except.bind]

/-- A step after another fails where the first does, or the second after it. -/
theorem bind_error {β : Type} {x : Except Nat α} {f : α → Except Nat β} :
    (x >>= f) = .error pos ↔ x = .error pos ∨ ∃ a, x = .ok a ∧ f a = .error pos := by
  cases x <;> simp [bind, Except.bind]

theorem Cursor.field_ok {decode : List Byte → Option α} {v : α} :
    c.field n decode = .ok (v, d) ↔
      n ≤ c.rest.length ∧ decode (c.rest.take n) = some v ∧ d = { rest := c.rest.drop n, pos := c.pos + 1 } := by
  unfold Cursor.field
  split
  · rename_i h; simp; omega
  · rename_i h
    split
    · rename_i e; simp [e]
    · rename_i w e
      simp only [e, Except.ok.injEq, Prod.mk.injEq, Option.some.injEq]
      constructor
      · rintro ⟨rfl, rfl⟩; exact ⟨by omega, rfl, rfl⟩
      · rintro ⟨-, rfl, rfl⟩; exact ⟨rfl, rfl⟩

theorem Cursor.field_error {decode : List Byte → Option α} :
    c.field n decode = .error pos ↔ pos = c.pos ∧ (c.rest.length < n ∨ decode (c.rest.take n) = none) := by
  unfold Cursor.field
  split
  · rename_i h; simp [h, eq_comm]
  · rename_i h
    split
    · rename_i e; simp [e, eq_comm]
    · rename_i w e; simp [e]; omega

theorem Cursor.number_ok {v : Nat} :
    c.number n lo hi = .ok (v, d) ↔
      n ≤ c.rest.length ∧ beNat (c.rest.take n) = v ∧ lo ≤ v ∧ v ≤ hi
        ∧ d = { rest := c.rest.drop n, pos := c.pos + 1 } := by
  unfold Cursor.number
  rw [Cursor.field_ok]
  constructor
  · rintro ⟨a, h, rfl⟩
    dsimp only at h
    split at h
    · rename_i r; cases h; exact ⟨a, rfl, r.1, r.2, rfl⟩
    · cases h
  · rintro ⟨a, rfl, b, e, rfl⟩; exact ⟨a, if_pos ⟨b, e⟩, rfl⟩

/-- A number read is the bytes that open the rest. -/
theorem Cursor.number_bytes {v : Nat} :
    c.number n lo hi = .ok (v, d) ↔
      ∃ x, x.length = n ∧ c.rest = x ++ d.rest ∧ beNat x = v ∧ lo ≤ v ∧ v ≤ hi ∧ d.pos = c.pos + 1 := by
  rw [Cursor.number_ok]
  constructor
  · rintro ⟨a, rfl, b, e, rfl⟩
    exact ⟨_, by simp [a], (List.take_append_drop _ _).symm, rfl, b, e, rfl⟩
  · rintro ⟨x, rfl, h, rfl, b, e, f⟩
    obtain ⟨r, p⟩ := d
    simp only at h f
    simp [h, b, e, f]

theorem Cursor.number_error :
    c.number n lo hi = .error pos ↔
      pos = c.pos ∧ (n ≤ c.rest.length → lo ≤ beNat (c.rest.take n) → hi < beNat (c.rest.take n)) := by
  unfold Cursor.number
  rw [Cursor.field_error]
  refine and_congr_right fun _ => ?_
  simp only [ite_eq_right_iff, reduceCtorEq, imp_false, not_and, Nat.not_le]
  omega

theorem Cursor.text_ok {t : List Byte} :
    c.text lo hi = .ok (t, d) ↔
      lo ≤ t.length ∧ t.length ≤ hi ∧ t.length < 256 ∧ c.rest = u8 t.length ++ t ++ d.rest ∧ d.pos = c.pos + 1 := by
  unfold Cursor.text
  rcases hc : c.rest with _ | ⟨b, bs⟩
  · simp [u8]
  · simp only
    split
    · rename_i h
      simp only [Except.ok.injEq, Prod.mk.injEq]
      constructor
      · rintro ⟨rfl, rfl⟩
        rw [List.length_take, Nat.min_eq_left h.2.2]
        exact ⟨h.1, h.2.1, b.isLt, by simp [u8], rfl⟩
      · rintro ⟨h1, h2, h3, h4, h5⟩
        simp only [u8, List.cons_append, List.nil_append, List.cons.injEq] at h4
        obtain ⟨rfl, rfl⟩ := h4
        have : (BitVec.ofNat 8 t.length).toNat = t.length := by simp; omega
        rw [this]
        obtain ⟨r, p⟩ := d
        simp_all
    · rename_i h
      simp only [reduceCtorEq, false_iff]
      rintro ⟨h1, h2, h3, h4, h5⟩
      simp only [u8, List.cons_append, List.nil_append, List.cons.injEq] at h4
      obtain ⟨rfl, rfl⟩ := h4
      have : (BitVec.ofNat 8 t.length).toNat = t.length := by simp; omega
      rw [this] at h
      simp at h; omega

theorem Cursor.text_error :
    c.text lo hi = .error pos ↔
      pos = c.pos ∧ ∀ b bs, c.rest = b :: bs → lo ≤ b.toNat → b.toNat ≤ hi → bs.length < b.toNat := by
  unfold Cursor.text
  rcases hc : c.rest with _ | ⟨b, bs⟩
  · simp [eq_comm]
  · simp only
    split
    · rename_i h; simp; intro _; exact h
    · rename_i h
      simp only [Except.error.injEq, List.cons.injEq]
      constructor
      · rintro rfl; refine ⟨rfl, ?_⟩; rintro _ _ ⟨rfl, rfl⟩ h1 h2; omega
      · rintro ⟨rfl, -⟩; rfl

theorem Cursor.data_ok {t : List Byte} :
    c.data = .ok (t, d) ↔ t ≠ [] ∧ c.rest = t ∧ d = { rest := [], pos := c.pos + 1 } := by
  unfold Cursor.data
  split
  · rename_i h; simp at h; simp [h]; intro a b; exact absurd b a
  · rename_i h; simp at h; simp
    constructor
    · rintro ⟨rfl, rfl⟩; exact ⟨h, rfl, rfl⟩
    · rintro ⟨-, rfl, rfl⟩; exact ⟨rfl, rfl⟩

theorem Cursor.data_error : c.data = .error pos ↔ pos = c.pos ∧ c.rest = [] := by
  unfold Cursor.data
  split <;> rename_i h <;> simp at h <;> simp [h, eq_comm]

theorem Cursor.done_ok {v w : α} : c.done v = .ok w ↔ c.rest = [] ∧ w = v := by
  unfold Cursor.done
  split <;> rename_i h <;> simp at h <;> simp [h, eq_comm]

theorem Cursor.done_error {v : α} : c.done v = .error pos ↔ c.rest ≠ [] ∧ pos = c.pos := by
  unfold Cursor.done
  split <;> rename_i h <;> simp at h <;> simp [h, eq_comm]

/-- The list of option codes: each one byte 1..255, and each counted as a field (R195, log 34). -/
theorem Cursor.codes_ok {vs : List Nat} :
    c.codes n = .ok (vs, d) ↔
      vs.length = n ∧ (∀ v ∈ vs, 1 ≤ v ∧ v ≤ 255) ∧ c.rest = (vs.map u8).flatten ++ d.rest ∧ d.pos = c.pos + n := by
  induction n generalizing c d vs with
  | zero =>
    rw [Cursor.codes]
    constructor
    · intro h; cases h; simp
    · rintro ⟨h0, -, h, h'⟩
      cases List.length_eq_zero_iff.mp h0
      obtain ⟨r, p⟩ := c
      obtain ⟨r', p'⟩ := d
      simp only [List.map_nil, List.flatten_nil, List.nil_append, Nat.add_zero] at h h'
      subst h h'; rfl
  | succ k ih =>
    rw [Cursor.codes]
    simp only [bind_ok, Prod.exists, Cursor.number_bytes, ih, pure, Except.pure, Except.ok.injEq, Prod.mk.injEq]
    constructor
    · rintro ⟨a, c1, ⟨x, hx, h1, rfl, h2, h3, h4⟩, b, c2, ⟨h5, h6, h7, h8⟩, rfl, rfl⟩
      refine ⟨by simp [h5], ?_, ?_, by omega⟩
      · intro v hv
        rcases List.mem_cons.mp hv with rfl | hv
        · exact ⟨h2, h3⟩
        · exact h6 v hv
      · rw [h1, h7, List.map_cons, u8_beNat hx]; simp
    · rintro ⟨h1, h2, h3, h4⟩
      obtain ⟨a, as, rfl⟩ := List.exists_cons_of_length_eq_add_one h1
      have ha := h2 a (by simp)
      have hb : beNat (u8 a) = a := by simp [beNat, u8]; omega
      refine ⟨a, ⟨(as.map u8).flatten ++ d.rest, c.pos + 1⟩, ⟨u8 a, ?_, ?_, hb, ha.1, ha.2, ?_⟩, as, d,
        ⟨Nat.succ.inj h1, fun v hv => h2 v (List.mem_cons_of_mem _ hv), ?_, ?_⟩, rfl, rfl⟩
      · simp [u8]
      · rw [h3]; simp
      · simp
      · simp
      · rw [h4, Nat.add_assoc, Nat.add_comm 1]

end Sys2Proof.Machine
end

