-- ==== Sys2Proof/Laws/Ops.lean ====
section
/-! SUPPORT. What each shared operation does: one lemma an operation, either its result block by block or the cases it
has. Laws/Frames.lean says which blocks it leaves alone. -/

namespace Sys2Proof.Machine

variable {s t : State}

/-! ## Readings that a frame keeps -/

theorem OnlyChanges.mainRuns_eq {bs : List Block} (h : OnlyChanges bs s t) (k : Block.monitor ∉ bs) :
    t.mainRuns = s.mainRuns := by
  have e : t.monitor = s.monitor := h.keep .monitor k
  simp [State.mainRuns, e]

theorem OnlyChanges.condition_eq {bs : List Block} (h : OnlyChanges bs s t) (k : Block.monitor ∉ bs) :
    t.condition = s.condition := by
  have e : t.monitor = s.monitor := h.keep .monitor k
  simp [State.condition, e]

theorem State.mainRuns_iff : s.mainRuns = true ↔ s.monitor.supplyUp = true ∧ s.monitor.resetLow = false := by
  simp [State.mainRuns]

/-! ## Events and faults (R177, R182) -/

theorem State.raise_events (e : EventKind) :
    (s.raise e).events = if s.mainRuns then s.events.set e else s.events := by
  unfold State.raise
  split <;> simp

theorem EventKind.index_lt (e : EventKind) : e.index < 18 := by cases e <;> decide

theorem EventKind.mask_bit (e : EventKind) (i : Nat) : e.mask.getLsbD i = decide (i = e.index) := by
  have h := e.index_lt
  simp only [EventKind.mask, BitVec.getLsbD_shiftLeft, BitVec.getLsbD_one]
  by_cases hi : i = e.index
  · subst hi; simp [h]
  · simp [hi]; omega

theorem Events.set_bit (e : EventKind) (ev : Events) (i : Nat) :
    (ev.set e).flags.getLsbD i = (ev.flags.getLsbD i || decide (i = e.index)) := by
  simp [Events.set, EventKind.mask_bit]

theorem Events.clear_bit (e : EventKind) (ev : Events) (i : Nat) :
    (ev.clear e).flags.getLsbD i = (ev.flags.getLsbD i && !decide (i = e.index)) := by
  simp only [Events.clear, BitVec.getLsbD_and, BitVec.getLsbD_not, EventKind.mask_bit]
  by_cases h : i < 18
  · simp [h]
  · simp [BitVec.getLsbD_of_ge _ _ (Nat.le_of_not_lt h)]

@[simp] theorem Events.set_enables (e : EventKind) (ev : Events) : (ev.set e).enables = ev.enables := rfl
@[simp] theorem Events.set_lines (e : EventKind) (ev : Events) : (ev.set e).lines = ev.lines := rfl

theorem State.offerFault_fault (k : FaultKind) (p : FaultPort) (b d : Nat) :
    (s.offerFault k p b d).fault = if s.mainRuns then s.faultAfter k p b d else s.fault := by
  unfold State.offerFault State.faultAfter
  split
  · cases h : s.fault with
    | none => exact (State.only_raise _ _).keep .fault (by decide)
    | some r => rfl
  · rfl

theorem State.offerFault_events (k : FaultKind) (p : FaultPort) (b d : Nat) :
    (s.offerFault k p b d).events =
      if s.mainRuns ∧ s.fault.isNone then s.events.set .fault else s.events := by
  unfold State.offerFault
  by_cases h : s.mainRuns = true
  · have hm : (s.withFault (some (s.captured k p b d))).mainRuns = true := by simpa [State.mainRuns] using h
    cases hf : s.fault <;> simp [h, State.raise, hm]
  · simp [h]

@[simp] theorem State.drive_pins : s.drive.pins = s.levels := rfl

/-! ## The retained check (R191) -/

@[simp] theorem State.withCheck_retained (v : Word16) : (s.withCheck v).retained = s.retained := rfl
@[simp] theorem State.withPins_retained (v : Pins) : (s.withPins v).retained = s.retained := rfl
@[simp] theorem State.withCheck_levels (v : Word16) : (s.withCheck v).levels = s.levels := rfl
@[simp] theorem State.drive_check : s.drive.check = s.check := rfl
@[simp] theorem State.drive_retained : s.drive.retained = s.retained := rfl

/-- The end of a command leaves the check as far from the one that the state gives as `t` had it from that of `s`. -/
theorem State.ended_gap : (s.updateCheck t).drive.check ^^^ (s.updateCheck t).drive.givenCheck
    = t.check ^^^ s.givenCheck := by
  show t.check ^^^ s.givenCheck ^^^ t.givenCheck ^^^ t.givenCheck = _
  simp [BitVec.xor_assoc]

/-- So a command that does not touch the check itself keeps a good check good and a bad one bad. -/
theorem State.ended_fits (h : t.check = s.check) :
    (s.updateCheck t).drive.check = (s.updateCheck t).drive.givenCheck ↔ s.check = s.givenCheck := by
  rw [← BitVec.xor_eq_zero_iff, State.ended_gap, h, BitVec.xor_eq_zero_iff]

/-! ## How a command ends and how a request is answered (R171 to R173) -/

theorem serve_held {α : Type} (kind tag : Byte) (args : Option α) (owner : α → State → State × Answer)
    (h : s.mainRuns = false) : serve kind tag args owner s = .next (s.updateCheck s).drive := by
  simp [serve, h, done]

theorem serve_malformed {α : Type} (kind tag : Byte) (owner : α → State → State × Answer) (h : s.mainRuns = true) :
    serve kind tag none owner s = .next (s.updateCheck (s.putReply kind tag (.refuse .refusedRange))).drive := by
  simp [serve, h, done]

theorem serve_served {α : Type} (kind tag : Byte) (a : α) (owner : α → State → State × Answer) (h : s.mainRuns = true) :
    serve kind tag (some a) owner s
      = .next (s.updateCheck ((owner a s).1.putReply kind tag (owner a s).2)).drive := by
  simp [serve, h, done]

theorem serveMeter_permitted {α : Type} (kind tag : Byte) (permitted : List MeterState) (args : Option α)
    (owner : α → State → State × Answer) (h : s.meter.state ∈ permitted) :
    serveMeter kind tag permitted args owner s = serve kind tag args owner s := if_pos h

/-- R3: in any other meter state the payload and the owner do not count. -/
theorem serveMeter_refused {α : Type} (kind tag : Byte) (permitted : List MeterState) (args : Option α)
    (owner : α → State → State × Answer) (h : s.meter.state ∉ permitted) (m : s.mainRuns = true) :
    serveMeter kind tag permitted args owner s
      = .next (s.updateCheck (s.putReply kind tag (.refuse .refusedState))).drive := by
  rw [serveMeter, if_neg h, serve_served _ _ _ _ m]
  rfl

@[simp] theorem State.putReply_reply (kind tag : Byte) (a : Answer) :
    (s.putReply kind tag a).terminal.reply = some { kind, tag, code := a.code, payload := a.payload } := rfl

theorem handed_cases {α : Type} (fields : Except Nat α) (owner : α → State → State) :
    (∃ v, fields = .ok v ∧ handed fields owner s = owner v s) ∨ handed fields owner s = s := by
  cases fields with
  | ok v => exact .inl ⟨v, rfl, rfl⟩
  | error _ => exact .inr rfl

/-! ## The routine queue (R139 to R141, R152) -/

@[simp] theorem State.enqueue_queue (e : Entry) : (s.enqueue e).arbiter.queue = s.arbiter.queue ++ [e] := rfl
@[simp] theorem State.dequeue_queue (e : Entry) : (s.dequeue e).arbiter.queue = s.arbiter.queue.erase e := rfl
@[simp] theorem State.withdraw_queue (e : Entry) : (s.withdraw e).arbiter.queue = s.arbiter.queue.erase e := rfl

/-- A withdrawal is the arbiter without the entry. -/
theorem State.withdraw_arbiter (e : Entry) : (s.withdraw e).arbiter = s.arbiter.without e := rfl

theorem classCount_append (q : List Entry) (e : Entry) (c : Nat) :
    classCount (q ++ [e]) c = classCount q c + if e.cls = c then 1 else 0 := by
  unfold classCount
  by_cases h : e.cls = c <;> simp [List.filter_append, h]

theorem classCount_erase_le (q : List Entry) (e : Entry) (c : Nat) : classCount (q.erase e) c ≤ classCount q c :=
  (List.erase_sublist.filter _).length_le

theorem Entry.cls_range (e : Entry) : 1 ≤ e.cls ∧ e.cls ≤ 5 := by cases e <;> simp [Entry.cls]

/-- The head is an entry of the queue, and no entry is in a higher class (R145). -/
theorem queueHead_spec {q : List Entry} {e : Entry} (h : queueHead q = some e) :
    e ∈ q ∧ ∀ x ∈ q, e.cls ≤ x.cls := by
  unfold queueHead at h
  simp only [List.findSome?_cons, List.findSome?_nil] at h
  have key : ∀ c x, q.find? (fun e => e.cls = c) = some x → x ∈ q ∧ x.cls = c := fun c x hx =>
    ⟨List.mem_of_find?_eq_some hx, by simpa using List.find?_some hx⟩
  have none' : ∀ c, q.find? (fun e => e.cls = c) = none → ∀ x ∈ q, x.cls ≠ c := fun c hx x hm => by
    simpa using List.find?_eq_none.mp hx x hm
  cases h1 : q.find? (fun e => e.cls = 1) with
  | some x =>
    simp only [h1, Option.some.injEq] at h; subst h
    exact ⟨(key _ _ h1).1, fun y _ => (key _ _ h1).2 ▸ y.cls_range.1⟩
  | none =>
  cases h2 : q.find? (fun e => e.cls = 2) with
  | some x =>
    simp only [h1, h2, Option.some.injEq] at h; subst h
    refine ⟨(key _ _ h2).1, fun y hy => ?_⟩
    have := none' _ h1 y hy; have := y.cls_range; have := (key _ _ h2).2; omega
  | none =>
  cases h3 : q.find? (fun e => e.cls = 3) with
  | some x =>
    simp only [h1, h2, h3, Option.some.injEq] at h; subst h
    refine ⟨(key _ _ h3).1, fun y hy => ?_⟩
    have := none' _ h1 y hy; have := none' _ h2 y hy; have := y.cls_range; have := (key _ _ h3).2; omega
  | none =>
  cases h4 : q.find? (fun e => e.cls = 4) with
  | some x =>
    simp only [h1, h2, h3, h4, Option.some.injEq] at h; subst h
    refine ⟨(key _ _ h4).1, fun y hy => ?_⟩
    have := none' _ h1 y hy; have := none' _ h2 y hy; have := none' _ h3 y hy; have := y.cls_range
    have := (key _ _ h4).2; omega
  | none =>
  cases h5 : q.find? (fun e => e.cls = 5) with
  | some x =>
    simp only [h1, h2, h3, h4, h5, Option.some.injEq] at h; subst h
    refine ⟨(key _ _ h5).1, fun y hy => ?_⟩
    have := none' _ h1 y hy; have := none' _ h2 y hy; have := none' _ h3 y hy; have := none' _ h4 y hy
    have := y.cls_range; have := (key _ _ h5).2; omega
  | none => simp [h1, h2, h3, h4, h5] at h

/-- What a free place means for the queue's bounds (R140). -/
theorem hasPlace_room {q : List Entry} {e : Entry} (h : hasPlace q e = true) :
    classCount q e.cls < (if e.cls = 1 then 2 else if e.cls = 2 then 1 else 7)
      ∧ (e.cls = 1 → classCount q 1 = 0 ∨ sharedCount q < Config.sharedPlaces)
      ∧ (3 ≤ e.cls → sharedCount q < Config.sharedPlaces) := by
  have k3 : classCount q 3 ≤ sharedCount q := by unfold sharedCount; omega
  have k4 : classCount q 4 ≤ sharedCount q := by unfold sharedCount; omega
  have k5 : classCount q 5 ≤ sharedCount q := by unfold sharedCount; omega
  cases e <;> simp_all [hasPlace, sharedFree, Entry.cls, Config.sharedPlaces] <;> omega

theorem State.fillSlot_slot :
    s.fillSlot.arbiter.slot
      = (s.arbiter.slot || (s.emergency.owed && s.mainRuns && s.identity.cab != 0)) := by
  unfold State.fillSlot
  split <;> simp_all

/-! ## The trip (R12, R33 to R38) -/

theorem State.mapTrip_trip (f : Trip → Trip) : (s.mapTrip f).meter.trip = s.meter.trip.map f := rfl
theorem State.mapTrip_state (f : Trip → Trip) : (s.mapTrip f).meter.state = s.meter.state := rfl

theorem State.closePulses_store : s.closePulses.store
    = { s.store with totals := s.store.totals.take s.admitted s.meter.onTrip } := by
  have keep : ∀ u : State, ∀ k p b d, (u.offerFault k p b d).store = u.store := fun u k p b d =>
    (State.only_offerFault k p b d u).keep .store (by decide)
  unfold State.closePulses
  dsimp only
  split <;> split <;> simp [keep, State.mapTrip]

theorem State.closePulses_pulses : s.closePulses.pulses = 0 := rfl

/-- The pulses go to the trip in HIRED and TOTAL alone; nothing else of the meter changes. -/
theorem State.closePulses_meter : s.closePulses.meter
    = if s.meter.onTrip
      then { s.meter with trip := s.meter.trip.map (Trip.take s.admitted (decide (Config.clamp < s.pulses))) }
      else s.meter := by
  have keep : ∀ u : State, ∀ k p b d, (u.offerFault k p b d).meter = u.meter := fun u k p b d =>
    (State.only_offerFault k p b d u).keep .meter (by decide)
  unfold State.closePulses
  dsimp only
  split <;> split <;> simp_all [State.mapTrip]

/-- Of a trip, fare progress changes fare, increments, accumulator and FARE_CAPPED. -/
structure Trip.SameBut (t u : Trip) : Prop where
  number : u.number = t.number
  jobId : u.jobId = t.jobId
  band : u.band = t.band
  copy : u.copy = t.copy
  version : u.version = t.version
  extras : u.extras = t.extras
  extrasTotal : u.extrasTotal = t.extrasTotal
  gateOpen : u.gateOpen = t.gateOpen
  pulses : u.pulses = t.pulses
  gatedPulses : u.gatedPulses = t.gatedPulses
  startClock : u.startClock = t.startClock
  endClock : u.endClock = t.endClock

theorem Trip.cap_sameBut (c : Bool) (x : Trip) : x.SameBut (x.cap c) := by
  unfold Trip.cap
  split <;> exact ⟨rfl, rfl, rfl, rfl, rfl, rfl, rfl, rfl, rfl, rfl, rfl, rfl⟩

@[simp] theorem Trip.cap_fare (c : Bool) (x : Trip) : (x.cap c).fare = x.fare := by unfold Trip.cap; split <;> rfl
@[simp] theorem Trip.cap_increments (c : Bool) (x : Trip) : (x.cap c).increments = x.increments := by
  unfold Trip.cap; split <;> rfl
@[simp] theorem Trip.cap_accumulator (c : Bool) (x : Trip) : (x.cap c).accumulator = x.accumulator := by
  unfold Trip.cap; split <;> rfl

theorem Trip.SameBut.trans {x y z : Trip} (h : x.SameBut y) (k : y.SameBut z) : x.SameBut z :=
  ⟨k.number.trans h.number, k.jobId.trans h.jobId, k.band.trans h.band, k.copy.trans h.copy,
    k.version.trans h.version, k.extras.trans h.extras, k.extrasTotal.trans h.extrasTotal,
    k.gateOpen.trans h.gateOpen, k.pulses.trans h.pulses, k.gatedPulses.trans h.gatedPulses,
    k.startClock.trans h.startClock, k.endClock.trans h.endClock⟩

theorem Trip.increment_sameBut (x : Trip) : x.SameBut x.increment := by
  have e : Trip.SameBut x { x with
      increments := satAdd Config.moneyMax x.increments 1
      fare := satAdd Config.moneyMax x.fare (x.copy.value (satAdd Config.moneyMax x.increments 1)) } :=
    ⟨rfl, rfl, rfl, rfl, rfl, rfl, rfl, rfl, rfl, rfl, rfl, rfl⟩
  exact e.trans (Trip.cap_sameBut _ _)

theorem Trip.increment_fare (x : Trip) : x.increment.fare
    = satAdd Config.moneyMax x.fare (x.copy.value (satAdd Config.moneyMax x.increments 1)) := by
  simp [Trip.increment, Trip.addFare]

theorem Trip.increment_increments (x : Trip) : x.increment.increments = satAdd Config.moneyMax x.increments 1 := by
  simp [Trip.increment, Trip.addFare]

theorem Trip.increment_accumulator (x : Trip) : x.increment.accumulator = x.accumulator := by
  simp [Trip.increment, Trip.addFare]

theorem Trip.advance_sameBut (n : Nat) : ∀ x : Trip, x.SameBut (Trip.advance n x) := by
  induction n with
  | zero => exact fun x => ⟨rfl, rfl, rfl, rfl, rfl, rfl, rfl, rfl, rfl, rfl, rfl, rfl⟩
  | succ n ih => exact fun x => x.increment_sameBut.trans (ih x.increment)

theorem Trip.advance_accumulator (n : Nat) : ∀ x : Trip, (Trip.advance n x).accumulator = x.accumulator := by
  induction n with
  | zero => exact fun _ => rfl
  | succ n ih => exact fun x => (ih x.increment).trans x.increment_accumulator

theorem Trip.progress_accumulator (d : Nat) (x : Trip) :
    (x.progress d).accumulator = (x.accumulator + max (d * x.copy.seconds) x.copy.pulses) % x.copy.period :=
  Trip.advance_accumulator _ _

theorem Trip.progress_sameBut (d : Nat) (x : Trip) : x.SameBut (x.progress d) := by
  have e : x.SameBut { x with
      accumulator := (x.accumulator + max (d * x.copy.seconds) x.copy.pulses) % x.copy.period } :=
    ⟨rfl, rfl, rfl, rfl, rfl, rfl, rfl, rfl, rfl, rfl, rfl, rfl⟩
  exact e.trans (Trip.advance_sameBut _ _)

/-! ## The Fare Store (R42 to R49, R55) -/

/-- The sender is served or stays as it is (R45). -/
theorem State.placeTotal_cases : s.placeTotal = s ∨
    ∃ r rest, s.store.sender = .idle ∧ s.store.records = r :: rest ∧ s.mainRuns = true
      ∧ hasPlace s.arbiter.queue (.total r.trip) = true
      ∧ s.placeTotal = (s.enqueue (.total r.trip)).withSender (.queued r.trip) := by
  unfold State.placeTotal
  split
  · rename_i r rest h1 h2
    split
    · rename_i h
      simp only [Bool.and_eq_true] at h
      exact .inr ⟨r, rest, h1, h2, h.1, h.2, rfl⟩
    · exact .inl rfl
  · exact .inl rfl

theorem State.releaseServed_cases (trip : Nat) : s.releaseServed trip = s ∧ s.store.sender.served ≠ some trip
    ∨ s.store.sender = .queued trip ∧ s.releaseServed trip = ((s.withdraw (.total trip)).withSender .idle).placeTotal
    ∨ (∃ n, s.store.sender = .sent trip n) ∧ s.releaseServed trip = (s.withSender .idle).placeTotal := by
  unfold State.releaseServed
  split
  · rename_i n h
    split
    · rename_i e; subst e; exact .inr (.inl ⟨h, rfl⟩)
    · rename_i e; exact .inl ⟨rfl, by simpa [h, Sender.served] using e⟩
  · rename_i n m h
    split
    · rename_i e; subst e; exact .inr (.inr ⟨⟨m, h⟩, rfl⟩)
    · rename_i e; exact .inl ⟨rfl, by simpa [h, Sender.served] using e⟩
  · rename_i h; exact .inl ⟨rfl, by simp [h, Sender.served]⟩

theorem State.placeTotal_records : s.placeTotal.store.records = s.store.records := by
  rcases s.placeTotal_cases with h | ⟨r, rest, -, -, -, -, h⟩ <;> rw [h]
  rfl

theorem State.placeTotal_totals : s.placeTotal.store.totals = s.store.totals := by
  rcases s.placeTotal_cases with h | ⟨r, rest, -, -, -, -, h⟩ <;> rw [h]
  rfl

theorem State.releaseServed_records (trip : Nat) : (s.releaseServed trip).store.records = s.store.records := by
  rcases s.releaseServed_cases trip with ⟨h, -⟩ | ⟨-, h⟩ | ⟨-, h⟩ <;> rw [h]
  · rw [State.placeTotal_records]; rfl
  · rw [State.placeTotal_records]; rfl

theorem State.releaseServed_totals (trip : Nat) : (s.releaseServed trip).store.totals = s.store.totals := by
  rcases s.releaseServed_cases trip with ⟨h, -⟩ | ⟨-, h⟩ | ⟨-, h⟩ <;> rw [h]
  · rw [State.placeTotal_totals]; rfl
  · rw [State.placeTotal_totals]; rfl

/-- Folding takes the oldest record off the store and into the aggregates (R44). -/
theorem State.foldOldest_store {r : TripRecord} {rest : List TripRecord} (h : s.store.records = r :: rest) :
    s.foldOldest.store.records = rest ∧ s.foldOldest.store.totals = s.store.totals.fold r := by
  have keep : ∀ u : State, (u.raise .storeFolded).store = u.store := fun u =>
    (State.only_raise _ u).keep .store (by decide)
  simp only [State.foldOldest, h, State.releaseServed_records, State.releaseServed_totals, keep]
  exact ⟨rfl, rfl⟩

/-- A record enters a store that has room as its newest (R43). -/
theorem State.enterRecord_store (r : TripRecord) (h : s.store.records.length < Config.storeSize) :
    (s.enterRecord r).store.records = s.store.records ++ [r]
      ∧ (s.enterRecord r).store.totals = s.store.totals.enter r := by
  have keep : ∀ u : State, (u.raise .totalBacklog).store = u.store := fun u =>
    (State.only_raise _ u).keep .store (by decide)
  simp only [State.enterRecord, h, if_true, State.placeTotal_records, State.placeTotal_totals]
  split <;> simp [keep]

theorem State.acknowledge_cases (trip : Nat) :
    s.acknowledge trip = s ∧ (∀ r ∈ s.store.records, r.trip ≠ trip)
      ∨ ∃ r, s.store.records.find? (fun x => x.trip = trip) = some r
          ∧ (s.acknowledge trip).store.records = s.store.records.eraseP (fun x => x.trip = trip)
          ∧ (s.acknowledge trip).store.totals = s.store.totals.acknowledge r := by
  have keep : ∀ u : State, (u.raise .totalAcked).store = u.store := fun u =>
    (State.only_raise _ u).keep .store (by decide)
  unfold State.acknowledge
  cases h : s.store.records.find? (fun x => x.trip = trip) with
  | none => exact .inl ⟨rfl, by simpa using h⟩
  | some r => exact .inr ⟨r, rfl, by simp [keep, State.releaseServed_records], by simp [keep, State.releaseServed_totals]⟩

theorem State.placeShift_cases : s.placeShift = s ∨
    ∃ r, s.store.pendingReport = some r ∧ s.mainRuns = true ∧ s.arbiter.queue.any Entry.isShift = false
      ∧ sharedFree s.arbiter.queue = true ∧ s.placeShift = s.enqueue (.shift r.shift) := by
  unfold State.placeShift
  split
  · exact .inl rfl
  · rename_i r h
    split
    · rename_i c
      simp only [Bool.and_eq_true, Bool.not_eq_true'] at c
      exact .inr ⟨r, h, c.1.1, c.1.2, c.2, rfl⟩
    · exact .inl rfl

/-! ## The Offer Unit (R60, R70 to R81) -/

theorem State.lapseShown_entries : s.lapseShown.offers.entries = s.offers.entries.map fun e =>
    if e.state = .shown then e.become .lapsed else e := by
  have keep : ∀ u : State, (u.raise .offerClosed).offers = u.offers := fun u =>
    (State.only_raise _ u).keep .offers (by decide)
  unfold State.lapseShown
  split
  · rw [keep]; rfl
  · rename_i h
    simp only [State.anyEntry, List.any_eq_true, decide_eq_true_eq, not_exists, not_and] at h
    refine (List.map_id s.offers.entries).symm.trans (List.map_congr_left fun e he => ?_)
    simp [h e he]

/-- A stop takes effect once no entry is in BID; otherwise nothing happens (R81). -/
theorem State.offerBoundary_cases : s.offerBoundary = s ∧ (s.offers.run = .stopping → s.anyEntry .bid = true)
    ∨ s.offers.run = .stopping ∧ s.anyEntry .bid = false
      ∧ s.offerBoundary = (s.withOffers { s.offers with run := .stopped }).lapseShown := by
  unfold State.offerBoundary
  split
  · rename_i h; exact .inr ⟨h.1, h.2, rfl⟩
  · rename_i h; exact .inl ⟨rfl, fun k => by simpa [k] using h⟩

/-- A cancel enters the queue where one is owed and a place is free; otherwise none is owed, the
arbiter's domain has no supply or the queue has no place for the one owed longest (R76). -/
theorem State.placeCancel_cases : (s.placeCancel = s ∧ ∀ c, s.offers.cancels.find? Cancel.isOwed = some c →
      (s.mainRuns && hasPlace s.arbiter.queue (.bidCancel c.offer c.reason)) = false) ∨
    ∃ c ∈ s.offers.cancels, c.stage = .owed ∧ s.mainRuns = true
      ∧ hasPlace s.arbiter.queue (.bidCancel c.offer c.reason) = true
      ∧ s.placeCancel = (s.enqueue (.bidCancel c.offer c.reason)).setCancel c.offer .queued := by
  unfold State.placeCancel
  split
  · rename_i h; exact .inl ⟨rfl, fun c k => by simp [h] at k⟩
  · rename_i c h
    split
    · rename_i k
      simp only [Bool.and_eq_true] at k
      exact .inr ⟨c, List.mem_of_find?_eq_some h, by simpa [Cancel.isOwed] using List.find?_some h, k.1, k.2, rfl⟩
    · rename_i k; exact .inl ⟨rfl, fun d kd => by cases h.symm.trans kd; simpa using k⟩

/-- The cancel list stays within its four places (R76). -/
theorem oweInto_length (cs : List Cancel) (new : Cancel) (h : cs.length ≤ Config.cancelSize) :
    (oweInto cs new).length ≤ Config.cancelSize := by
  unfold oweInto
  dsimp only
  split
  · exact h
  · split
    · rename_i k; rw [List.length_append]; exact k
    · split
      · rename_i hr
        have pos := List.length_pos_of_ne_nil (l := cs) (by rintro rfl; simp at hr)
        rw [List.length_append, List.length_eraseP, if_pos hr, List.length_singleton]
        omega
      · exact h

theorem State.dropBid_cases : s.dropBid = s ∧ s.offers.bid = none
    ∨ ∃ b, s.offers.bid = some b ∧ s.dropBid.offers = { s.offers with bid := none }
        ∧ s.dropBid.arbiter = if b.stage = .sent then s.arbiter else s.arbiter.without (.bid b.offer) := by
  unfold State.dropBid
  cases h : s.offers.bid with
  | none => exact .inl ⟨rfl, rfl⟩
  | some b =>
    refine .inr ⟨b, rfl, ?_, ?_⟩
    · dsimp only; split <;> rfl
    · dsimp only; split <;> rfl

/-- An award is taken: the meter, the entries and the bid record (R72). -/
theorem State.takeAward_meter (id : Nat) :
    (s.takeAward id).meter = { s.meter with state := .assigned, jobId := some id } := by
  have k1 : ∀ u : State, u.offerBoundary.meter = u.meter := fun u => (State.only_offerBoundary u).keep .meter (by decide)
  have k2 : ∀ u : State, (u.raise .jobAwarded).meter = u.meter := fun u => (State.only_raise _ u).keep .meter (by decide)
  have k3 : ∀ u : State, u.lapseShown.meter = u.meter := fun u => (State.only_lapseShown u).keep .meter (by decide)
  simp only [State.takeAward, k1, k2, k3]
  rfl

/-- The displacement candidate is a SHOWN entry of the table, and none is ranked worse (R66). -/
theorem State.displacementCandidate_mem {c : OfferEntry} (h : s.displacementCandidate = some c) :
    c ∈ s.offers.entries ∧ c.state = .shown := by
  unfold State.displacementCandidate at h
  obtain ⟨r, -, hr⟩ := List.exists_of_findSome?_eq_some h
  exact ⟨List.mem_of_find?_eq_some hr, by simpa using (List.find?_some hr : _ = true) |> fun k => by simp at k; exact k.1⟩

theorem State.lapseBid_cases (id : Nat) : s.lapseBid id = s ∧ s.bidStage id = none
    ∨ s.bidStage id = some .queued ∧ s.lapseBid id = s.dropBid
    ∨ s.bidStage id = some .inFlight
      ∧ s.lapseBid id = s.withBid (s.offers.bid.map fun b => { b with mark := .cancelOnDone })
    ∨ s.bidStage id = some .sent ∧ s.lapseBid id = (s.withBid none).oweCancel id .busy := by
  unfold State.lapseBid
  split <;> simp_all

/-! ## The Message Store (R85, R87, R92, R93) -/

/-- A receipt enters the queue where one is owed, a shared place is free and fewer than three are there; otherwise
none is owed, the arbiter's domain has no supply or there is no such place (R93). -/
theorem State.placeReceipt_cases : (s.placeReceipt = s ∧ ∀ i,
      s.messages.owed.find? (fun i => s.owedStage i = some .owed) = some i →
      (s.mainRuns && sharedFree s.arbiter.queue
        && decide ((s.arbiter.queue.filter Entry.isReceipt).length < Config.receiptLimit)) = false) ∨
    ∃ i ∈ s.messages.owed, s.owedStage i = some .owed ∧ s.mainRuns = true ∧ sharedFree s.arbiter.queue = true
      ∧ (s.arbiter.queue.filter Entry.isReceipt).length < Config.receiptLimit
      ∧ s.placeReceipt = (s.enqueue i.entry).setOwedStage i .queued := by
  unfold State.placeReceipt
  split
  · rename_i h; exact .inl ⟨rfl, fun i k => by cases h.symm.trans k⟩
  · rename_i i h
    split
    · rename_i k
      simp only [Bool.and_eq_true, decide_eq_true_eq] at k
      exact .inr ⟨i, List.mem_of_find?_eq_some h, by simpa using List.find?_some h, k.1.1, k.1.2, k.2, rfl⟩
    · rename_i k; exact .inl ⟨rfl, fun j kj => by cases h.symm.trans kj; exact Bool.eq_false_iff.mpr k⟩

/-- Removals for room are a first run of the candidates, after which there is room (R87). -/
theorem roomFor_spec (n : Nat) : ∀ (order : List Nat) (ms : List Message) (ids : List Nat),
    roomFor n ms order = some ids → (∃ rest, order = ids ++ rest)
      ∧ hasRoom (ids.foldl (fun ms id => ms.filter fun m => m.id ≠ id) ms) n = true := by
  intro order
  induction order with
  | nil =>
    intro ms ids h
    simp only [roomFor] at h
    split at h
    · cases h; exact ⟨⟨[], rfl⟩, by assumption⟩
    · cases h
  | cons id order ih =>
    intro ms ids h
    simp only [roomFor] at h
    split at h
    · cases h; exact ⟨⟨_, rfl⟩, by assumption⟩
    · obtain ⟨ids', h', rfl⟩ := Option.map_eq_some_iff.mp h
      obtain ⟨⟨rest, e⟩, k⟩ := ih _ _ h'
      exact ⟨⟨rest, by rw [e]; rfl⟩, k⟩

theorem State.removeMessage_messages (id : Nat) : (s.removeMessage id).messages =
    { s.messages with
      list := s.messages.list.filter fun m => m.id ≠ id
      owed := s.messages.owed.filter fun i => i ≠ .message id } := by
  unfold State.removeMessage
  dsimp only
  split <;> rfl

/-! ## The Emergency Unit (R101 to R108) -/

theorem State.reportDue_emergency : s.reportDue.emergency = { s.emergency with owed := true } :=
  (State.only_fillSlot _).keep .emergency (by decide)

theorem State.raiseEmergency_events : s.raiseEmergency.events =
    if s.settings.visible ∧ s.mainRuns then s.events.set .emergency else s.events := by
  unfold State.raiseEmergency
  by_cases h : s.settings.visible = true <;> simp [h, State.raise_events]

/-- The switch at a tick moves the state between CLEAR and PRESSING alone; ACTIVE and ACKED are left by no tick. -/
theorem State.sampleSwitch_state (a : Bool) : (s.sampleSwitch a).emergency.state =
    match s.emergency.state with
    | .clear => if a && !s.emergency.lastSample then .pressing else .clear
    | .pressing => if a then .pressing else .clear
    | x => x := by
  have keep : ∀ u : State, u.raiseEmergency.emergency = u.emergency := fun u =>
    (State.only_raiseEmergency u).keep .emergency (by decide)
  unfold State.sampleSwitch
  cases h : s.emergency.state <;> dsimp only <;> (repeat' split) <;> simp_all

/-! ## The Air Link Unit (R130 to R134) -/

theorem State.takeCycle_cases (f : CycleFields) :
    (∃ now, s.link.cycle = some now ∧ now.number = f.number ∧ s.takeCycle f = s.repeatCycle f now)
      ∨ (∀ now, s.link.cycle = some now → now.number ≠ f.number) ∧ s.takeCycle f = s.openCycle f := by
  unfold State.takeCycle
  cases h : s.link.cycle with
  | none => exact .inr ⟨by simp, rfl⟩
  | some now =>
    dsimp only
    split
    · rename_i e; exact .inl ⟨now, rfl, e, rfl⟩
    · rename_i e; exact .inr ⟨by simpa using e, rfl⟩

theorem State.giveBack_cases (cycle : Option Nat) : s.giveBack cycle = s
    ∨ ∃ now, s.link.cycle = some now ∧ cycle = some now.number ∧ s.link.allowance < now.loaded
        ∧ s.giveBack cycle = s.withLink { s.link with allowance := s.link.allowance + 1 } := by
  unfold State.giveBack
  split
  · rename_i now n h
    split
    · rename_i k; exact .inr ⟨now, h, by rw [k.1], k.2, rfl⟩
    · exact .inl rfl
  · exact .inl rfl

/-! ## The Uplink Arbiter (R145 to R151) -/

theorem State.makeGrant_cases : s.makeGrant = s ∧ (s.choice = none ∨ s.choice = some .detached)
    ∨ s.choice = some .slot ∧ s.makeGrant = s.grantSlot
    ∨ ∃ e, s.choice = some (.entry e) ∧ s.makeGrant = s.grantEntry e := by
  unfold State.makeGrant
  cases h : s.choice with
  | none => exact .inl ⟨rfl, .inl rfl⟩
  | some g =>
    cases g with
    | slot => exact .inr (.inl ⟨rfl, rfl⟩)
    | entry e => exact .inr (.inr ⟨e, rfl, rfl⟩)
    | detached => exact .inl ⟨rfl, .inr rfl⟩

/-- What a routine grant needs (R145). -/
theorem State.choice_entry {e : Entry} (h : s.choice = some (.entry e)) :
    s.mainRuns = true ∧ s.modemIdle = true ∧ s.identity.cab ≠ 0 ∧ s.arbiter.slot = false ∧ s.link.state = .synced
      ∧ 0 < s.link.allowance ∧ s.routineStopped = false ∧ queueHead s.arbiter.queue = some e := by
  unfold State.choice at h
  split at h
  · cases h
  · rename_i h1
    split at h
    · cases h
    · rename_i h2
      split at h
      · rename_i h3
        simp only [Option.map_eq_some_iff, Granted.entry.injEq, exists_eq_right] at h
        simp only [Bool.or_eq_true, Bool.not_eq_true', decide_eq_true_eq, not_or, Bool.not_eq_false] at h1
        exact ⟨h1.1.1, h1.1.2, h1.2, by simpa using h2, h3.1, h3.2.1, h3.2.2, h⟩
      · cases h

/-! ## The Table Loader (R142, R157, R161) -/

theorem State.offerResult_cases (r : LoadResult) :
    sharedFree s.arbiter.queue = true ∧ s.offerResult r = s.enqueue (.tableResult r)
      ∨ (∃ e, sharedFree s.arbiter.queue = false ∧ s.displaceable = some e
          ∧ s.offerResult r = ((s.dequeue e).displaced e).enqueue (.tableResult r))
      ∨ sharedFree s.arbiter.queue = false ∧ s.displaceable = none ∧ s.offerResult r = s := by
  unfold State.offerResult
  by_cases h : sharedFree s.arbiter.queue = true
  · simp [h]
  · cases k : s.displaceable <;> simp [h]

/-- A displaced entry is of class 5, is no TABLE_RESULT and is not in flight (R142). -/
theorem State.displaceable_spec {e : Entry} (h : s.displaceable = some e) :
    e ∈ s.arbiter.queue ∧ e.cls = 5 ∧ e.isTableResult = false ∧ s.entryInFlight e = false := by
  unfold State.displaceable at h
  have k := List.find?_some h
  simp only [Bool.and_eq_true, decide_eq_true_eq, Bool.not_eq_true'] at k
  exact ⟨by simpa using List.mem_of_find?_eq_some h, k.1.1, k.1.2, k.2⟩

/-- An ended load leaves the context empty (R161). -/
theorem State.endLoad_context (p : LoadPort) (r : LoadResult) : (s.endLoad p r).loader.context = none := by
  cases p with
  | air =>
    have k : ∀ u : State, (u.offerResult r).loader = u.loader := fun u =>
      (State.only_offerResult r u).keep .loader (by decide)
    simp only [State.endLoad, k]
    rfl
  | terminal =>
    have k : ∀ u : State, (u.raise .tableResult).loader = u.loader := fun u =>
      (State.only_raise _ u).keep .loader (by decide)
    simp only [State.endLoad, k]
    rfl

/-! ## Resets (R190, R191) -/

/-- What a main reset leaves in the blocks that no owner fills again. -/
theorem State.mainValues_fresh :
    s.mainValues.offers = .fresh (s.runAtReset s.settings.stopOffers) ∧ s.mainValues.messages = .fresh
      ∧ s.mainValues.link = .fresh (s.runAtReset s.settings.stopAir) ∧ s.mainValues.arbiter = .fresh
      ∧ s.mainValues.loader = { context := none, lastTerminal := none } ∧ s.mainValues.addresses = []
      ∧ s.mainValues.zones = [] ∧ s.mainValues.events = .fresh ∧ s.mainValues.fault = none
      ∧ s.mainValues.terminal = .fresh := ⟨rfl, rfl, rfl, rfl, rfl, rfl, rfl, rfl, rfl, rfl⟩

end Sys2Proof.Machine
end

