-- ==== Sys2Proof/WellFormed.lean ====
section
/-! DEFINITION. Which commands can reach the part: the operands that the ports' layouts and the ranges of the spec
allow. The meanings are total: they do not need it. -/

namespace Sys2Proof

open Sys2Proof.Machine

/-- A local request's payload fits its one-byte length (R197). -/
def goodPayload (payload : List Byte) : Bool := payload.length ≤ 255

/-- An accepted frame: a fleet number 1..255, an address mode 0..3 and at most 200 payload bytes (R194), whose fields
hold values of their types in their ranges (R127). -/
def goodFrame (k : DownKind) (hdr : AirHeader) (payload : List Byte) : Bool :=
  hdr.fleet != 0 && decide (hdr.mode.toNat < 4) && decide (payload.length ≤ 200) && (payloadFault k payload).isNone

/-- The bytes of a local frame that fails a check; a selection without bytes is a read (R171, R172). -/
def goodMalformed (bytes : List Byte) : Bool := !bytes.isEmpty && (localFault bytes).isSome

/-- Well-formed commands. -/
def Instr.wellFormed (c : Instr) : Bool :=
  match c with
  | .readStatus _ payload => goodPayload payload
  | .readNotices _ payload => goodPayload payload
  | .clearEvents _ payload => goodPayload payload
  | .noticeSetup _ payload => goodPayload payload
  | .readOffers _ payload => goodPayload payload
  | .accept _ payload => goodPayload payload
  | .dismiss _ payload => goodPayload payload
  | .position _ payload => goodPayload payload
  | .jobCancel _ payload => goodPayload payload
  | .readMeter _ payload => goodPayload payload
  | .hire _ payload => goodPayload payload
  | .endTrip _ payload => goodPayload payload
  | .paid _ payload => goodPayload payload
  | .holdOn _ payload => goodPayload payload
  | .holdOff _ payload => goodPayload payload
  | .extra _ payload => goodPayload payload
  | .shiftOpen _ payload => goodPayload payload
  | .shiftClose _ payload => goodPayload payload
  | .readStore _ payload => goodPayload payload
  | .readMessage _ payload => goodPayload payload
  | .msgRead _ payload => goodPayload payload
  | .msgAnswer _ payload => goodPayload payload
  | .driverMsg _ payload => goodPayload payload
  | .readPass _ payload => goodPayload payload
  | .passUp _ payload => goodPayload payload
  | .readFault _ payload => goodPayload payload
  | .releaseFault _ payload => goodPayload payload
  | .localTableOpen _ _ payload => goodPayload payload
  | .localTableSegment _ payload => goodPayload payload
  | .localTableCommit _ _ payload => goodPayload payload
  | .localTableAbort _ payload => goodPayload payload
  | .softReset _ payload => goodPayload payload
  | .localFrameMalformed bytes => goodMalformed bytes
  | .startMarker => true
  | .airFrameRejected _ => true
  | .offer hdr payload => goodFrame .offer hdr payload
  | .offerWithdraw hdr payload => goodFrame .offerWithdraw hdr payload
  | .award hdr payload => goodFrame .award hdr payload
  | .refuse hdr payload => goodFrame .refuse hdr payload
  | .message hdr payload => goodFrame .message hdr payload
  | .messageRecall hdr payload => goodFrame .messageRecall hdr payload
  | .cycle hdr payload => goodFrame .cycle hdr payload
  | .statusPoll hdr payload => goodFrame .statusPoll hdr payload
  | .airTableOpen hdr payload => goodFrame .tableOpen hdr payload
  | .airTableSegment hdr payload => goodFrame .tableSegment hdr payload
  | .airTableCommit hdr payload => goodFrame .tableCommit hdr payload
  | .airTableAbort hdr payload => goodFrame .tableAbort hdr payload
  | .totalAck hdr payload => goodFrame .totalAck hdr payload
  | .emergencyAck hdr payload => goodFrame .emergencyAck hdr payload
  | .emergencyClear hdr payload => goodFrame .emergencyClear hdr payload
  | .pass hdr payload => goodFrame .pass hdr payload
  | .grant => true
  | .txDone => true
  | .txFail _ => true
  | .responseTimerExpiry => true
  | .settleTimerExpiry => true
  | .placeAppears _ => true
  | .ackTimerExpiry => true
  | .linkLossTimerExpiry => true
  | .offerLifetimeExpiry offerId => 1 ≤ offerId && offerId ≤ 65535
  | .bidLifetimeExpiry => true
  | .awardWaitExpiry => true
  | .inactivityTimerExpiry => true
  | .activation => true
  | .escalation => true
  | .intervalTimerExpiry => true
  | .seatCheck => true
  | .ignDebounceEnd => true
  | .roofBlinkToggle => true
  | .timerTick _ => true
  | .meterSecond => true
  | .distPulse => true
  | .shedEntry => true
  | .supplyReturn => true
  | .powerUp => true
  | .mainReset _ => true

end Sys2Proof
end

