-- ==== Sys2Proof/Tests/Slice0.lean ====
section
/-! SUPPORT. Tests: each check of WellFormed refuses an ill-formed command; single commands against the worked examples
and tables of spec/ (expected values are the spec's or worked by hand from its rules); and for every statement of
Certificates/Slice0/Obligations.lean with hypotheses a witness that meets them. -/

namespace Sys2Proof.Tests

open Sys2Proof.Machine

set_option maxRecDepth 10000

/-! ## Small states -/

/-- Bytes written as numbers. -/
def B (l : List Nat) : List Byte := l.map (BitVec.ofNat 8)

/-- A frame for fleet 6: the mode and the address. -/
def H (mode addr : Nat) : AirHeader := { fleet := 6, mode := BitVec.ofNat 8 mode, addr := BitVec.ofNat 16 addr }

/-- The state that a command leads to. -/
def after (c : Instr) (s : State) : State :=
  match exec c s with
  | .next t => t
  | _ => s

/-- The band of the ordinary trip in chapter 2. -/
def band1 : Band :=
  { number := 1, window := none, flagFall := 350, coverage := 1, value1 := 20, length1 := 50, value2 := 25
    metres := 100, seconds := 20, gateClears := true, selectable := true }

/-- The bands of the band-choice example in chapter 2. -/
def bands : List Band :=
  [{ band1 with selectable := false },
   { band1 with number := 2, window := some { start := 79200, stop := 21600, days := 0x60#8 }, selectable := false },
   { band1 with number := 3, window := some { start := 0, stop := 0, days := 0x40#8 }, selectable := false },
   { band1 with number := 4 }]

def tariff1 : Tariff :=
  { version := 7, bands := [band1], extras := [{ amount := 100, max := 2 }, { amount := 150, max := 1 }] }

/-- A running cab: fleet 6, cab 300, k 1,250, zone 12, synced with allowance 4, VACANT, a frame in reception. -/
def s0 : State :=
  { State.reset with
    time := { clock := { day := 3, second := 45000 }, known := true }
    identity := { cab := 300, fleet := 6, k := 1250 }
    tariff := some tariff1
    monitor := { State.reset.monitor with ignition := true }
    offers := { Offers.fresh .running with zone := some 12 }
    zones := [{ number := 12, neighbours := [13] }, { number := 13, neighbours := [] }, { number := 20, neighbours := [] }]
    addresses := [{ fleet := false, value := 90, classes := 0x12#8 }, { fleet := true, value := 0, classes := 2#8 }]
    events := .fresh, fault := none
    store := { Store.fresh with totals := .fresh 12 }
    meter := { Meter.fresh with state := .vacant, lastTrip := 217 }
    link := { Link.fresh .running with
      state := .synced, cycle := some { number := 40, loaded := 5, quiet := false }, allowance := 4
      lossTimer := some 20, record := some .fresh }
    arbiter := { Arbiter.fresh with settle := none } }

def entryOf (id : Nat) (state : OfferState) : OfferEntry :=
  { id, addressing := .direct, zone := none, rank := 0, lifetime := 20, awardWait := 15, waiting := none, text := []
    estimate := none, account := false, arrival := 0, state }

/-- Entries in the table, and a bid record. -/
def offering (es : List OfferEntry) (bid : Option BidRecord) (s : State) : State :=
  s.withOffers { s.offers with entries := es, bid }

/-- A bid of id 5 in a stage, with its entry and an entry 6 in SHOWN. -/
def bidding (stage : BidStage) (s : State) : State :=
  offering [entryOf 6 .shown, { entryOf 5 .bid with lifetime := 0, waiting := some 0 }]
    (some { offer := 5, stage, mark := .none }) s

def queued (es : List Entry) (s : State) : State := s.withArbiter { s.arbiter with queue := es }

def flying (g : Granted) (s : State) : State :=
  s.withArbiter { s.arbiter with
    inFlight := some { granted := g, kind := 0x41, cls := some 1, cycle := some 40, timer := 0, frame := [] } }

def noFlags : TripFlags :=
  { fareCapped := false, timeUnknown := false, holdUsed := false, emergencyDuring := false, distOverrate := false }

def trip1 : Trip :=
  { number := 218, jobId := none, band := 1, copy := band1.copy 1250, version := 7
    extras := [{ amount := 100, max := 2, used := 0 }, { amount := 150, max := 1, used := 1 }], fare := 350
    extrasTotal := 0, increments := 0, accumulator := 0, gateOpen := true, pulses := 0, gatedPulses := 0
    startClock := { day := 3, second := 44000 }, endClock := none, flags := noFlags }

/-- On a trip, in HIRED or TOTAL. -/
def trip (state : MeterState) (x : Trip) (s : State) : State := s.withMeter { s.meter with state, trip := some x }

def rec1 (n total : Nat) : TripRecord :=
  { trip := n, shift := 12, jobId := none, band := 1, version := 7, startClock := { day := 0, second := 0 }
    endClock := { day := 0, second := 9 }, distance := 0, gatedDistance := 0, fare := total, extrasTotal := 0, total
    flags := noFlags }

def storing (rs : List TripRecord) (sender : Sender) (s : State) : State :=
  s.withStore { s.store with records := rs, sender }

def msg (id : Nat) (state : MessageState) (mark : Option ReceiptMark) : Message :=
  { id, urgent := false, wanted := true, options := [1, 2], text := B [65], state, answer := none, mark
    lastSent := none }

def holding (ms : List Message) (s : State) : State := s.withMessages { s.messages with list := ms }

def alarm (state : EmergencyState) (s : State) : State :=
  s.withEmergency { s.emergency with state, press := some 0, interval := some 0, lastSample := false }

/-- A load of the Zone Table, generation 3, of one byte. -/
def load1 (port : LoadPort) (buffer : List Byte) : Load :=
  { port, table := .zone, generation := 3, length := 1, buffer, timer := 0 }

def loading (c : Load) (s : State) : State := s.withLoader { s.loader with context := some c }

def low (s : State) : State := s.withMonitor { s.monitor with resetLow := true }
def shed (s : State) : State := s.withMonitor { s.monitor with supplyUp := false, confirm := 5 }
/-- The retained domain has powered up: its check is marked failed. -/
def lost (s : State) : State := s.withMonitor { s.monitor with holding := true }
/-- The stored check is the one that the retained state gives. -/
def fit (s : State) : State := s.withCheck s.givenCheck
/-- The retained state no longer gives the stored check. -/
def altered (s : State) : State := s.withCheck (s.givenCheck ^^^ 1#16)
def withSettings (f : Settings → Settings) (s : State) : State := s.withSettings (f s.settings)

/-! ## WellFormed refuses -/

theorem test_wf_payload : (Instr.hire 1#8 (List.replicate 256 0#8)).wellFormed = false := by decide
theorem test_wf_payload_max : (Instr.passUp 1#8 (List.replicate 255 0#8)).wellFormed = true := by decide
theorem test_wf_malformed_empty : (Instr.localFrameMalformed []).wellFormed = false := by decide
theorem test_wf_malformed_good : (Instr.localFrameMalformed (withCrc (B [0x80, 1, 0]))).wellFormed = false := by decide
theorem test_wf_fleet : (Instr.award { H 0 300 with fleet := 0 } (B [0, 5])).wellFormed = false := by decide
theorem test_wf_mode : (Instr.award (H 4 300) (B [0, 5])).wellFormed = false := by decide
theorem test_wf_length : (Instr.pass (H 0 300) (List.replicate 201 1#8)).wellFormed = false := by decide
theorem test_wf_field : (Instr.award (H 0 300) (B [0, 0])).wellFormed = false := by decide
theorem test_wf_id : (Instr.offerLifetimeExpiry 0).wellFormed = false := by decide
theorem test_wf_id_max :
    (Instr.offerLifetimeExpiry 65536).wellFormed = false ∧ (Instr.offerLifetimeExpiry 65535).wellFormed = true := by
  decide
theorem test_no_word : decodeTableWord 8 0x07 = none := by decide

/-! ## Formats (chapter 12) -/

/-- The CYCLE frame of chapter 12: 15 bytes, and the register over all of them ends at 0000h. -/
def cycleFrame : List Byte := airFrame 6 7 3 0 (B [3, 0, 0xAF, 0xC8, 40, 2, 0])

theorem test_cycle_frame :
    cycleFrame.length = 15 ∧ cycleFrame.take 13 = B [6, 7, 3, 0, 0, 7, 3, 0, 0xAF, 0xC8, 0x28, 2, 0]
      ∧ crc16 cycleFrame = 0#16 := by decide

/-- Offset 11 holding 09h: detail 4, the position of the allowance field. -/
theorem test_cycle_bad_allowance : payloadFault .cycle (B [3, 0, 0xAF, 0xC8, 40, 9, 0]) = some 4 := by decide

theorem test_cycle_read_back : s0.airCommand cycleFrame = .cycle (H 3 0) (B [3, 0, 0xAF, 0xC8, 40, 2, 0]) := by decide

theorem test_amount : amount 123456 = B [0x12, 0x34, 0x56] ∧ bcdNat (B [0x12, 0x3A, 0x56]) = none := by decide

/-! ## Receive path (chapter 7, frames through the receive path) -/

/-- Cab 417, as the example has it. -/
def cab417 : State := s0.withIdentity { cab := 417, fleet := 6, k := 1250 }

theorem test_frame_1 : cab417.screenFrame 5 (H 0 417) (B [0, 9, 0, 0, 1, 65])
    = .accepted .message (H 0 417) (B [0, 9, 0, 0, 1, 65]) := by decide
theorem test_frame_3 : cab417.screenFrame 0x43 (H 0 233) [] = .foreign := by decide
theorem test_frame_4 : cab417.screenFrame 7 { H 3 0 with fleet := 9 } (B [3, 0, 0, 0, 1, 1, 0]) = .foreign := by decide
theorem test_frame_5 : cab417.screenFrame 0x10 (H 1 90) (B [1]) = .accepted .pass (H 1 90) (B [1]) := by decide
theorem test_frame_6 : cab417.screenFrame 1 (H 1 90) (B [0, 9, 20, 0, 0, 0, 0, 0]) = .foreign := by decide
theorem test_frame_7 : cab417.screenFrame 0x0D (H 3 0) (B [0, 9]) = .foreign := by decide
theorem test_frame_8 : cab417.screenFrame 0x30 (H 0 417) [] = .malformed 0x30 0
    ∧ cab417.screenFrame 0x30 (H 0 233) [] = .foreign := by decide
theorem test_frame_2 : (after (.airFrameRejected (B [6, 5, 0, 1, 161, 0, 1, 2])) cab417).link.crcErrors = 1 := by decide
theorem test_start_marker_counts : (after .startMarker s0).link.crcErrors = 1 := by decide

/-! ## The channel cycle (chapter 7, cycles, a loss and a repeat) -/

theorem test_repeat_keeps_allowance :
    (after (.cycle (H 3 0) (B [3, 0, 0xAF, 0xC8, 40, 5, 0])) s0).link.allowance = 4 := by decide
theorem test_quiet_cycle_loads_0 :
    (after (.cycle (H 3 0) (B [3, 0, 0xAF, 0xC8, 41, 1, 1])) s0).link.cycle
      = some { number := 41, loaded := 0, quiet := true } := by decide
theorem test_link_lost :
    (after .linkLossTimerExpiry (s0.withLink { s0.link with lossTimer := some 0 })).link.state = .lost := by decide

/-! ## Fare (chapter 2) -/

theorem test_hire_derives_D : (after (.hire 1#8 (B [0])) s0).meter.trip.map (fun x => (x.copy.pulses, x.fare, x.number))
    = some (125, 350, 218) := by decide

/-- Second 22: A stands at 1,700, forty pulses bring it to 2,500, and the first paid increment falls due. -/
theorem test_second_22 :
    ((after .meterSecond ((trip .hired { trip1 with accumulator := 1700, increments := 1 } s0).withPulses 40)).meter.trip.map
      fun x => (x.accumulator, x.increments, x.fare)) = some (0, 2, 370) := by decide

/-- The stage change: i 50, A 2,000, 300 pulses. -/
theorem test_stage_change :
    ((after .meterSecond
      ((trip .hired { trip1 with accumulator := 2000, increments := 50, fare := 1330 } s0).withPulses 300)).meter.trip.map
      fun x => (x.accumulator, x.increments, x.fare)) = some (500, 53, 1400) := by decide

theorem test_metres : metres 475 1250 = 380 ∧ metres 4095 100 = 40950 ∧ perIncrement 10000 60000 = 65535 := by decide

theorem test_dist_pulse : (after .distPulse (s0.withPulses 65535)).pulses = 65535 := by decide

/-- The table of HIREs; 0 is AUTO. -/
theorem test_band_choice :
    let choose := fun (known : Bool) (day second n : Nat) =>
      (chooseBand (some { tariff1 with bands }) { clock := { day, second }, known } n).map Band.number
    choose true 5 80000 0 = some 2 ∧ choose true 6 10000 0 = some 2 ∧ choose true 6 40000 0 = some 3
      ∧ choose true 0 3600 0 = some 1 ∧ choose false 5 80000 0 = some 1 ∧ choose false 0 0 4 = some 4
      ∧ choose true 0 0 2 = none ∧ choose true 0 0 7 = none := by decide

theorem test_extra_maximum :
    (after (.extra 1#8 (B [2])) (trip .hired trip1 s0)).terminal.reply.map Reply.code = some .refusedRange := by decide
/-- R3: the meter state is looked at before the payload. -/
theorem test_meter_state_first :
    let code := fun (c : Instr) (s : State) => (after c s).terminal.reply.map Reply.code
    code (.endTrip 1#8 (B [0])) s0 = some .refusedState
      ∧ code (.endTrip 1#8 (B [0])) (trip .hired trip1 s0) = some .refusedRange := by decide
theorem test_extra_adds :
    (after (.extra 1#8 (B [1])) (trip .total trip1 s0)).terminal.reply.map Reply.payload
      = some (B [0, 1, 0, 0, 4, 0x50]) := by decide
theorem test_end : (after (.endTrip 1#8 []) (trip .hired trip1 s0)).meter.trip.bind Trip.endClock
    = some { day := 3, second := 45000 } := by decide
theorem test_hold_on_clears :
    ((after (.holdOn 1#8 []) (trip .hired { trip1 with accumulator := 99 } s0)).meter.trip.map
      fun x => (x.accumulator, x.gateOpen)) = some (0, false) := by decide
theorem test_hold_off_opens :
    ((after (.holdOff 1#8 []) (trip .hired { trip1 with gateOpen := false } s0)).meter.trip.map Trip.gateOpen) = some true := by
  decide
theorem test_clock_wraps :
    (after .meterSecond (s0.withTime { clock := { day := 6, second := 86399 }, known := true })).time.clock
      = { day := 0, second := 0 } := by decide
theorem test_shift_open :
    (after (.shiftOpen 1#8 []) (s0.withMeter { s0.meter with state := .off })).store.totals = .fresh 13 := by decide
theorem test_shift_close : (after (.shiftClose 1#8 []) s0).arbiter.queue = [.shift 12] := by decide

/-! ## Fare Store (chapter 3) -/

/-- A seventeenth record folds the oldest, whose trip is not sent any more. -/
theorem test_paid_folds :
    let s := after (.paid 1#8 []) (trip .total trip1 (storing ((List.range 16).map fun i => rec1 (i + 1) 700) (.sent 1 9) s0))
    s.store.records.length = 16 ∧ s.store.totals.foldedCount = 1 ∧ s.store.totals.foldedSum = 700
      ∧ s.store.sender = .queued 2 := by decide
theorem test_total_ack :
    let s := after (.totalAck (H 0 300) (B [0, 2])) (storing [rec1 1 700, rec1 2 800] (.sent 1 9) s0)
    s.store.records = [rec1 1 700] ∧ s.store.totals.ackSum = 800 ∧ s.store.sender = .sent 1 9 := by decide
theorem test_ack_expiry :
    (after .ackTimerExpiry (storing [rec1 1 700] (.sent 1 0) s0)).arbiter.queue = [.total 1] := by decide

/-! ## Offers (chapter 4) -/

theorem test_offer_shown :
    ((after (.offer (H 2 13) (B [1, 0, 20, 0, 0, 0, 0, 0])) s0).offers.entries.map fun e => (e.id, e.rank, e.state))
      = [(256, 1, .shown)] := by decide
theorem test_accept : (after (.accept 1#8 (B [0, 6])) (offering [entryOf 6 .shown] none s0)).arbiter.queue = [.bid 6] := by
  decide
theorem test_award :
    let s := after (.award (H 0 300) (B [0, 5])) (bidding .sent s0)
    s.meter.jobId = some 5 ∧ s.offers.entries.map OfferEntry.state = [.lapsed, .awarded] := by decide
theorem test_award_stray :
    (after (.award (H 0 300) (B [0, 5])) s0).arbiter.queue = [.bidCancel 5 .notBidding] := by decide
theorem test_refuse : ((after (.refuse (H 0 300) (B [0, 5])) (bidding .sent s0)).offers.entries.map OfferEntry.state)
    = [.shown, .lost] := by decide
theorem test_withdraw :
    ((after (.offerWithdraw (H 0 300) (B [0, 6])) (bidding .sent s0)).offers.entries.map OfferEntry.state)
      = [.withdrawn, .bid] := by decide
theorem test_hire_in_flight :
    (after (.hire 1#8 (B [0])) (bidding .inFlight s0)).offers.bid
      = some { offer := 5, stage := .inFlight, mark := .cancelOnDone } := by decide
theorem test_dismiss_bid :
    (after (.dismiss 1#8 (B [0, 5])) (bidding .sent s0)).terminal.reply.map Reply.code = some .refusedState := by decide
theorem test_position :
    (after (.position 1#8 (B [0, 14])) s0).terminal.reply.map Reply.payload = some (B [0]) := by decide
theorem test_job_cancel :
    (after (.jobCancel 1#8 []) (s0.withMeter { s0.meter with state := .assigned, jobId := some 5 })).arbiter.queue
      = [.bidCancel 5 .driverCancel] := by decide

/-! ## Messages (chapter 5) -/

theorem test_message_stored :
    ((after (.message (H 0 300) (B [0, 9, 2, 0, 1, 65])) s0).messages.list.map fun m => (m.id, m.mark.map ReceiptMark.stage))
      = [(9, some .queued)] := by decide
theorem test_msg_read : ((after (.msgRead 1#8 (B [0, 9])) (holding [msg 9 .unread none] s0)).messages.list.map Message.state)
    = [.read] := by decide
theorem test_msg_answer :
    (after (.msgAnswer 1#8 (B [0, 9, 3])) (holding [msg 9 .read none] s0)).terminal.reply.map Reply.code
      = some .refusedRange := by decide
theorem test_recall : (after (.messageRecall (H 0 300) (B [0, 9])) (holding [msg 9 .read none] s0)).messages.list = [] := by
  decide
theorem test_driver_msg :
    (after (.driverMsg 1#8 (B [7, 0])) (s0.withMessages { s0.messages with counter := 255 })).arbiter.queue
      = [.driverMsg 1 (.code 7)] := by decide

/-! ## Emergencies (chapter 6) -/

theorem test_press :
    (after (.timerTick { seat := false, emerg0 := true, emerg1 := false, ign := true, supplyOk := true })
      (s0.withEmergency { s0.emergency with lastSample := false })).emergency.press = some 10 := by decide
theorem test_activation : (after .activation (alarm .pressing s0)).arbiter.slot = true := by decide
theorem test_escalation : (after .escalation (alarm .acked s0)).emergency.interval = some 5 := by decide
theorem test_interval : (after .intervalTimerExpiry (alarm .acked s0)).emergency.interval = some 30 := by decide
theorem test_ack : (after (.emergencyAck (H 0 300) []) (alarm .active s0)).emergency.state = .acked := by decide
theorem test_clear : (after (.emergencyClear (H 0 300) []) (alarm .acked s0)).emergency.state = .clear := by decide

/-! ## Arbiter (chapter 8) -/

theorem test_grant_class_order :
    (after .grant (queued [.status, .total 1] s0)).arbiter.inFlight.map InFlight.granted = some (.entry (.total 1)) := by
  decide
theorem test_tx_done : (after .txDone (flying (.entry .status) (queued [.status] s0))).arbiter.queue = [] := by decide
theorem test_tx_fail_gives_back : (after (.txFail false) (flying (.entry .status) (queued [.status] s0))).link.allowance = 5 := by
  decide
theorem test_response_timeout : (after .responseTimerExpiry (flying .detached s0)).arbiter.settle = some 2 := by decide
theorem test_settle : (after .settleTimerExpiry (s0.withArbiter { s0.arbiter with settle := some 0 })).pins.txAbort = false := by
  decide
theorem test_stray_done : (after .txDone s0).fault.map (fun r => (r.kind, r.detail)) = some (.modemProtocol, 1) := by decide
theorem test_poll : (after (.statusPoll (H 3 0) []) s0).arbiter.queue = [.status] := by decide
theorem test_place_appears :
    (after (.placeAppears .storeOffersMessages) (storing [rec1 1 700] .idle s0)).store.sender = .queued 1 := by decide

/-! ## Loads (chapter 9) -/

/-- Step 4 of the example: the segment at 32 beyond 16 bytes held. -/
theorem test_gap :
    (after (.airTableSegment (H 0 300) (B [1, 1, 55, 0, 32, 7]))
      (loading { port := .air, table := .address, generation := 311, length := 61, buffer := List.replicate 16 0#8
                 timer := 30 } s0)).arbiter.queue
      = [.tableResult { table := .address, generation := 311, result := .gap, reason := none, detail := 16 }] := by decide

/-- Step 9: a new open ends the open load. -/
theorem test_aborted_by_new :
    (after (.airTableOpen (H 0 300) (B [2, 1, 57, 0, 90]))
      (loading { port := .air, table := .address, generation := 312, length := 61, buffer := [], timer := 30 } s0)).arbiter.queue
      = [.tableResult { table := .address, generation := 312, result := .abortedByNew, reason := none, detail := 313 }] := by
  decide
theorem test_local_open_authority :
    (after (.localTableOpen true 1#8 (B [3, 0, 1, 0, 9])) s0).terminal.reply.map Reply.code = some .refusedAuthority := by
  decide
theorem test_local_segment :
    (after (.localTableSegment 1#8 (B [2, 0, 3, 0, 0, 9])) (loading (load1 .terminal []) s0)).terminal.reply.map Reply.payload
      = some (B [0, 1]) := by decide
theorem test_local_commit :
    (after (.localTableCommit false 1#8 (B [2, 0, 3] ++ u16 (crc16 (B [0])).toNat)) (loading (load1 .terminal (B [0])) s0)).zones
      = [] := by decide
theorem test_local_abort : (after (.localTableAbort 1#8 (B [2, 0, 3])) (loading (load1 .terminal []) s0)).loader.context = none := by
  decide
theorem test_air_commit_short :
    (after (.airTableCommit (H 0 300) (B [2, 0, 3, 0, 0])) (loading (load1 .air []) s0)).arbiter.queue
      = [.tableResult { table := .zone, generation := 3, result := .short, reason := none, detail := 0 }] := by decide
theorem test_air_abort : (after (.airTableAbort (H 0 300) (B [2, 0, 3])) (loading (load1 .air []) s0)).loader.context = none := by
  decide
theorem test_inactivity :
    (after .inactivityTimerExpiry (loading (load1 .terminal []) s0)).loader.lastTerminal.map LoadResult.result = some .timeout := by
  decide

/-! ## Terminal Port and fault capture (chapter 10) -/

/-- The burst of faults: steps 1, 2 and 5. -/
theorem test_burst :
    let s1 := after (.localFrameMalformed (B [1, 2, 3, 4, 5])) s0
    let s2 := after (.airFrameRejected (airFrame 6 0x30 0 300 [])) s1
    s1.fault.map (fun r => (r.kind, r.detail)) = some (.terminalMalformed, 1)
      ∧ s2.fault.map (fun r => (r.kind, r.further, r.higher)) = some (.terminalMalformed, 1, true)
      ∧ (after (.releaseFault 1#8 []) s2).fault = none := by decide
theorem test_clear_events :
    (after (.clearEvents 1#8 (B [0, 0x20, 0])) (s0.withEvents { s0.events with flags := 0x3FFFF#18 })).flagged .fault = false := by
  decide
theorem test_notice_setup_range :
    (after (.noticeSetup 1#8 (B (List.replicate 18 4))) s0).terminal.reply.map Reply.code = some .refusedRange := by decide
theorem test_pass_overrun :
    let s := s0.withTerminal { s0.terminal with pass := List.replicate 4 { mode := 0, data := B [1] } }
    (after (.pass (H 0 300) (B [1])) s).terminal.overruns = 1
      ∧ (after (.readPass 1#8 []) s).terminal.pass.length = 3 := by decide
theorem test_pass_up : (after (.passUp 1#8 (B [1, 2])) s0).terminal.upCounter = 1 := by decide
theorem test_readings :
    (after (.readNotices 1#8 []) s0).terminal.reply.map Reply.code = some .ok
      ∧ (after (.readFault 1#8 []) s0).terminal.reply.map Reply.code = some .ok
      ∧ (after (.readStatus 1#8 []) s0).terminal.reply.map Reply.code = some .ok
      ∧ (after (.readMeter 1#8 []) s0).terminal.reply.map Reply.code = some .ok := by decide
theorem test_readings_not_found :
    (after (.readOffers 1#8 (B [0, 9])) s0).terminal.reply.map Reply.code = some .notFound
      ∧ (after (.readMessage 1#8 (B [0, 9])) s0).terminal.reply.map Reply.code = some .notFound
      ∧ (after (.readStore 1#8 (B [1])) s0).terminal.reply.map Reply.code = some .notFound := by decide
theorem test_soft_reset : (after (.softReset 1#8 []) s0).link.state = .search := by decide

/-! ## Condition and supply (chapter 11), seat and roof (chapter 1) -/

theorem test_debounce :
    (after .ignDebounceEnd (s0.withMonitor { s0.monitor with ignCount := 20 })).condition = .parked := by decide
theorem test_shed : (after .shedEntry (s0.withMonitor { s0.monitor with supplyOk := false })).condition = .shed := by decide

/-- R191: the test passes where the stored check is the one the state gives, and fails where it is another. -/
theorem test_check_fits {s : State} (h : s.monitor.holding = false) : (fit s).checkFails = false := by
  show (s.monitor.holding || s.givenCheck != s.givenCheck) = false
  simp [h]
theorem test_check_altered (s : State) : (altered s).checkFails = true := by
  show (s.monitor.holding || s.givenCheck ^^^ 1#16 != s.givenCheck) = true
  simp only [Bool.or_eq_true, bne_iff_ne]
  right
  intro h
  have := congrArg (fun v : Word16 => v.getLsbD 0) h
  simp at this

/-- R191: a change of the retained state updates the check in the same step. -/
theorem test_check_updated : (after .distPulse (fit s0)).checkFails = false := by
  have h : (after .distPulse (fit s0)).check = (after .distPulse (fit s0)).givenCheck := by
    have g := State.ended_gap (s := fit s0) (t := (fit s0).withPulses 1)
    have e : (fit s0).check = (fit s0).givenCheck := rfl
    rw [show ((fit s0).withPulses 1).check = (fit s0).givenCheck from e, BitVec.xor_self] at g
    exact BitVec.xor_eq_zero_iff.mp g
  show (false || (after .distPulse (fit s0)).check != (after .distPulse (fit s0)).givenCheck) = false
  simp [h]

theorem test_supply_return : (after .supplyReturn (fit (shed s0))).condition = .driving := by
  have h : (fit (shed s0)).checkFails = false := test_check_fits rfl
  simp only [after, exec, execSupplyReturn, done, State.returnSupply, State.mainReset, h]
  decide
theorem test_power_up : (after .powerUp s0).monitor.holding = true := by decide
theorem test_main_reset : (after (.mainReset false) (lost s0)).arbiter.settle = some 2 := by decide

/-- The first main reset after power-up leaves the reset state, whatever the retained domain held. -/
theorem test_first_reset :
    (after .supplyReturn (lost (shed s0))).withCheck 0#16 = State.reset.withCheck 0#16 := by decide
/-- TX_ABORT over the loss of the main domain: held for a frame in flight, else inactive (R153, R188). -/
theorem test_shed_abort :
    let s := s0.withMonitor { s0.monitor with supplyOk := false }
    (after .shedEntry (flying .slot s)).pins.txAbort = true ∧ (after .shedEntry s).pins.txAbort = false := by decide
theorem test_seat : (after .seatCheck (s0.withSeat { s0.seat with due := true })).flagged .seatCheck = true := by decide
theorem test_roof : (after .roofBlinkToggle (s0.withRoof (.blinking true 5))).pins.roof = false := by decide
theorem test_offer_expiry :
    ((after (.offerLifetimeExpiry 6) (offering [{ entryOf 6 .shown with lifetime := 0 }] none s0)).offers.entries.map
      OfferEntry.state) = [.expired] := by decide
theorem test_bid_expiry : (after .bidLifetimeExpiry (bidding .inFlight s0)).offers.bid.map BidRecord.mark
    = some .expiryPending := by decide
theorem test_award_wait : (after .awardWaitExpiry (bidding .sent s0)).offers.bid = none := by decide

/-! ## Witnesses

One theorem for each statement that has hypotheses: a state and operands that meet them together, and for a statement of
several clauses the hypotheses of each clause, at the ends of its ranges where it has a range. -/

/-- What two states differ in, for the witnesses that need it. -/
theorem only_two {bs : List Block} {s u : State} (h : ∀ b, b ∉ bs → b.same s u) : OnlyChanges bs s u := by
  intro b
  by_cases m : b ∈ bs
  · exact .inl m
  · exact .inr (h b m)

/-- A command that goes on leads to `after`. -/
def goes (c : Instr) (s : State) : Bool :=
  match exec c s with
  | .next _ => true
  | _ => false

theorem goes_next {c : Instr} {s : State} (h : goes c s = true) : exec c s = .next (after c s) := by
  unfold goes at h
  unfold after
  split at h
  · next t e => rw [e]
  · cases h

theorem goes_step {c : Instr} {s : State} (h : goes c (s.withPending []) = true) :
    step (s.withPending [c]) = .next (after c (s.withPending [])) := goes_next h

theorem witness_StepRunsFrontCommand : (s0.withPending [.grant, .txDone]).pending = .grant :: [.txDone] ∧ s0.pending = [] := by
  decide

theorem witness_EveryCommandCompletes : exec .distPulse s0 = .next (after .distPulse s0) := goes_next (by decide)

theorem witness_HeldMainDomainKeeps :
    ∀ c ∈ [Instr.distPulse, .mainReset false, .grant],
      (low s0).mainRuns = false ∧ exec c (low s0) = .next (after c (low s0)) ∧ c ≠ .shedEntry ∧ c ≠ .supplyReturn
        ∧ c ≠ .powerUp ∧ c ≠ .mainReset true := by
  have h : ∀ c ∈ [Instr.distPulse, .mainReset false, .grant], (low s0).mainRuns = false ∧ goes c (low s0) = true
      ∧ c ≠ .shedEntry ∧ c ≠ .supplyReturn ∧ c ≠ .powerUp ∧ c ≠ .mainReset true := by decide
  exact fun c m => ⟨(h c m).1, goes_next (h c m).2.1, (h c m).2.2⟩

theorem witness_UnfitRequestsRefused :
    s0.mainRuns = true
      ∧ requestParts (.readStatus 1 (B [0])) = some (0x80, 1, B [0])
      ∧ requestParts (.softReset 1 (B [0])) = some (0x9F, 1, B [0])
      ∧ requestParts (.hire 1 []) = some (0x8A, 1, []) ∧ requestParts (.readStore 1 (B [1, 2])) = some (0x92, 1, B [1, 2])
      ∧ requestParts (.accept 1 (B [5])) = some (0x85, 1, B [5])
      ∧ requestParts (.msgRead 1 (B [0, 5, 0])) = some (0x94, 1, B [0, 5, 0])
      ∧ (∀ p, requestParts (.clearEvents 1 p) = some (0x82, 1, p) ∧ requestParts (.noticeSetup 1 p) = some (0x83, 1, p)
          ∧ requestParts (.msgAnswer 1 p) = some (0x95, 1, p) ∧ requestParts (.driverMsg 1 p) = some (0x96, 1, p)
          ∧ requestParts (.passUp 1 p) = some (0x98, 1, p) ∧ requestParts (.localTableOpen true 1 p) = some (0x9B, 1, p)
          ∧ requestParts (.localTableSegment 1 p) = some (0x9C, 1, p)
          ∧ requestParts (.localTableCommit true 1 p) = some (0x9D, 1, p)
          ∧ requestParts (.localTableAbort 1 p) = some (0x9E, 1, p))
      ∧ 2 ^ 18 ≤ beNat (B [4, 0, 0]) ∧ (∃ b ∈ B (List.replicate 18 4), 4 ≤ b.toNat) ∧ byteAt (B [0, 9, 0]) 2 = 0
      ∧ (B [0]).length < 2 ∧ (B [1, 1]).length ≠ 2 + byteAt (B [1, 1]) 1 ∧ byteAt (B [0, 0]) 1 = 0
      ∧ (let p := B ([0, 65] ++ List.replicate 65 1)
         p.length = 2 + byteAt p 1 ∧ byteAt p 0 = 0 ∧ 64 < byteAt p 1)
      ∧ byteAt (B [1, 1, 65]) 0 ≠ 0 ∧ byteAt (B [1, 1, 65]) 1 ≠ 0 ∧ 199 < (List.replicate 200 1#8).length
      ∧ 5 < byteAt (B [6, 0, 1, 0, 1]) 0 ∧ 4096 < beNat (slice (B [2, 0, 1, 16, 1]) 3 2)
      ∧ 4095 < beNat (slice (B [2, 0, 1, 16, 0, 9]) 3 2) ∧ (B [2, 0, 1, 0, 0]).length < 6
      ∧ beNat (slice (B [2, 0, 0, 0, 1]) 1 2) = 0 ∧ beNat (slice (B [2, 0, 0]) 1 2) = 0
      ∧ (∀ k ∈ [0x80, 0x82, 0x83, 0x85, 0x8A, 0x92, 0x94, 0x95, 0x96, 0x98, 0x9B, 0x9C, 0x9D, 0x9E, 0x9F],
          ∀ x ∈ meterPermits, x.1 = k → s0.meter.state ∈ x.2)
      ∧ (∀ x ∈ meterPermits, ∃ s ∈ [s0, State.reset], s.mainRuns = true ∧ s.meter.state ∉ x.2) := by
  refine ⟨by decide, rfl, rfl, rfl, rfl, rfl, rfl, fun p => ⟨rfl, rfl, rfl, rfl, rfl, rfl, rfl, rfl, rfl⟩, by decide⟩

theorem witness_ReadingsAnswer :
    s0.mainRuns = true
      ∧ (offering [entryOf 65535 .shown] none s0).entry (beNat (B [255, 255])) = some (entryOf 65535 .shown)
      ∧ s0.entry (beNat (B [0, 1])) = none
      ∧ (holding [msg 1 .read none] s0).storedMessage (beNat (B [0, 1])) = some (msg 1 .read none)
      ∧ s0.storedMessage (beNat (B [255, 255])) = none
      ∧ (storing [rec1 1 700] .idle s0).store.records[0]? = some (rec1 1 700) ∧ (1#8).toNat = 0 + 1
      ∧ (offering [entryOf 6 .shown, entryOf 5 .bid] none s0).offers.entries = [entryOf 6 .shown] ++ entryOf 5 .bid :: []
      ∧ (∀ x ∈ [entryOf 6 .shown], x.id ≠ 5)
      ∧ (holding [msg 8 .read none, msg 9 .unread none] s0).messages.list = [msg 8 .read none] ++ msg 9 .unread none :: []
      ∧ (∀ x ∈ [msg 8 .read none], x.id ≠ 9) ∧ s0.offers.zone = some 12 ∧ (∃ z ∈ s0.zones, z.number = 12)
      ∧ s0.store.records.length ≤ 15 ∧ (16#8).toNat = 15 + 1 ∧ 16 < (17#8).toNat := by decide

/-- Two cabs under SILENT that differ in the emergency alone. -/
def calm : State := trip .hired trip1 (storing [rec1 1 700] .idle s0)

def alarmed : State :=
  (((alarm .active calm).withArbiter { calm.arbiter with
    slot := true, inFlight := some { granted := .slot, kind := 0x49, cls := none, cycle := none, timer := 3, frame := [] } }).withMeter
      { calm.meter with trip := calm.meter.trip.map fun x => { x with flags := { x.flags with emergencyDuring := true } } }).withStore
        { calm.store with records := calm.store.records.map fun r => { r with flags := { r.flags with emergencyDuring := true } } }

theorem witness_SilentRepliesHideEmergency :
    calm.settings.visible = false ∧ calm.mainRuns = true ∧ OnlyChanges [.emergency, .arbiter, .meter, .store, .check] calm alarmed
      ∧ alarmed.arbiter.queue = calm.arbiter.queue
      ∧ (calm.arbiter.inFlight.all fun f => f.kind = 0x49) ∧ (alarmed.arbiter.inFlight.all fun f => f.kind = 0x49)
      ∧ alarmed.emergency ≠ calm.emergency
      ∧ (∃ b, alarmed.meter = { calm.meter with
          trip := calm.meter.trip.map fun x => { x with flags := { x.flags with emergencyDuring := b } } })
      ∧ (∃ g : TripRecord → Bool, alarmed.store = { calm.store with
          records := calm.store.records.map fun r => { r with flags := { r.flags with emergencyDuring := g r } } })
      ∧ exec (.readStore 1 (B [1])) calm = .next (after (.readStore 1 (B [1])) calm) := by
  refine ⟨by decide, by decide, only_two ?_, by decide, by decide, by decide, by decide, ⟨true, rfl⟩, ⟨fun _ => true, rfl⟩,
    goes_next (by decide)⟩
  intro b m
  cases b <;> first | rfl | exact absurd (by decide) m

theorem witness_NoticeRequestsTaken :
    s0.mainRuns = true ∧ (B [3, 255, 255]).length = 3 ∧ beNat (B [3, 255, 255]) < 2 ^ 18 ∧ 2 ^ 18 ≤ beNat (B [4, 0, 0])
      ∧ (B [0, 0]).length ≠ 3 ∧ (∀ b ∈ B (List.replicate 18 3), b.toNat < 4) ∧ (B (List.replicate 18 3)).length = 18
      ∧ (∃ b ∈ B (List.replicate 18 4), 4 ≤ b.toNat) ∧ (B (List.replicate 17 1)).length ≠ 18 := by decide

theorem witness_FaultsOfferedAndReleased :
    s0.mainRuns = true ∧ (B [1, 2, 3, 4]).length < 5 ∧ crc16 (B [1, 2, 3, 4, 5]) ≠ 0#16
      ∧ (let f := withCrc (B [0x80, 1, 1])
         5 ≤ f.length ∧ crc16 f = 0#16 ∧ f.length ≠ 5 + byteAt f 2)
      ∧ ∀ k ∈ [0x7F, 0xA0],
          let f := withCrc (B [k, 1, 0])
          5 ≤ f.length ∧ crc16 f = 0#16 ∧ f.length = 5 + byteAt f 2 ∧ (byteAt f 0 < 0x80 ∨ 0x9F < byteAt f 0) := by
  decide

theorem witness_AcceptChecksAndBids :
    s0.mainRuns = true ∧ s0.entry (beNat (B [0, 6])) = none
      ∧ (bidding .sent s0).entry (beNat (B [0, 6])) = some (entryOf 6 .shown) ∧ BidElsewhere (bidding .sent s0) 6
      ∧ (trip .hired trip1 (bidding .sent s0)).meter.state ≠ .vacant
      ∧ (offering [entryOf 6 .lost] none s0).entry (beNat (B [0, 6])) = some (entryOf 6 .lost)
      ∧ ¬ BidElsewhere (offering [entryOf 6 .lost] none s0) 6
      ∧ ¬ BidPlace (queued [.bidCancel 1 .busy, .bidCancel 2 .busy] s0)
      ∧ BidElsewhere (offering [entryOf 6 .shown] (some { offer := 5, stage := .inFlight, mark := .cancelOnDone }) s0) 6
      ∧ (let s := queued [.bidCancel 1 .busy, .status, .status, .status, .status, .status]
           (offering [entryOf 7 .lost, entryOf 6 .shown] none s0)
         s.tableBounded = true ∧ s.offers.entries = [entryOf 7 .lost] ++ entryOf 6 .shown :: []
           ∧ (entryOf 6 .shown).id = beNat (B [0, 6]) ∧ s.meter.state = .vacant ∧ ¬ BidElsewhere s 6 ∧ BidPlace s) := by
  unfold BidElsewhere BidPlace
  decide

theorem witness_DismissAndPositionTaken :
    s0.mainRuns = true ∧ s0.entry (beNat (B [0, 6])) = none
      ∧ (bidding .sent s0).entry (beNat (B [0, 5])) = some { entryOf 5 .bid with lifetime := 0, waiting := some 0 }
      ∧ (bidding .sent s0).entry (beNat (B [0, 6])) = some (entryOf 6 .shown) ∧ (bidding .sent s0).tableBounded = true
      ∧ 999 < beNat (B [3, 232]) ∧ beNat (B [0, 0]) = 0 ∧ beNat (B [0, 1]) = 1 ∧ beNat (B [3, 231]) = 999
      ∧ s0.HoldsZone (beNat (B [0, 12])) ∧ ¬ s0.HoldsZone (beNat (B [3, 231])) := by
  unfold State.HoldsZone
  decide

theorem witness_RanksAndCancelList :
    (s0.zones.map Zone.number).Nodup ∧ s0.offers.zone = some 12
      ∧ (∃ c r, s0.offers.zone = some c ∧ r ∈ s0.zones ∧ r.number = c ∧ 13 ∈ r.neighbours)
      ∧ (¬ ∃ c r, s0.offers.zone = some c ∧ r ∈ s0.zones ∧ r.number = c ∧ 20 ∈ r.neighbours)
      ∧ (let full : List Cancel :=
           [{ offer := 1, reason := .driverCancel, stage := .owed }, { offer := 2, reason := .busy, stage := .queued },
            { offer := 3, reason := .busy, stage := .owed }, { offer := 4, reason := .busy, stage := .owed }]
         full.length ≤ 4 ∧ 4 ≤ full.length ∧ (full.map Cancel.offer).Nodup ∧ (∀ x ∈ full, x.offer ≠ 9)
           ∧ (∃ x ∈ full, x.offer = 3) ∧ (∀ y ∈ full.take 2, y.stage ≠ .owed ∨ y.reason = .driverCancel)
           ∧ full = full.take 2 ++ { offer := 3, reason := .busy, stage := .owed } :: full.drop 3
           ∧ (full.take 3).length < 4) := by
  refine ⟨by decide, by decide, ⟨12, { number := 12, neighbours := [13] }, by decide⟩, ?_, by decide⟩
  rintro ⟨c, r, h, m, e, n⟩
  obtain rfl : 12 = c := Option.some.inj h
  revert r
  decide

/-- A table of eight entries in SHOWN, entry 3 of rank 2, with a closed one where asked. -/
def fullTable (closed : Bool) : State :=
  offering ((List.range 8).map fun i =>
    { entryOf (i + 1) (if closed && i = 3 then .expired else .shown) with rank := if i = 2 then 2 else 1 }) none s0

/-- An OFFER frame of id 512 to the cab. -/
def offer512 : List Byte := B [2, 0, 20, 0, 0, 0, 0, 0]

theorem witness_OfferFindsItsPlace :
    parseOffer offer512 = .ok { id := 512, lifetime := 20, account := false, estimate := none, text := [] }
      ∧ (∀ s ∈ [s0, fullTable true, fullTable false], s.admits .offer (H 0 300) offer512 = true ∧ s.Accepts (H 0 300)
          ∧ s.tableBounded = true ∧ ∀ e ∈ s.offers.entries, e.id ≠ 512)
      ∧ s0.admits .offer (H 2 13) offer512 = true ∧ s0.Accepts (H 2 13)
      ∧ s0.offers.entries.length < 8 ∧ (fullTable true).offers.entries.length = 8
      ∧ (∃ as c bs, (fullTable true).offers.entries = as ++ c :: bs ∧ (∀ e ∈ as, e.state.closed = false)
          ∧ c.state.closed = true)
      ∧ (fullTable false).offers.entries.length = 8 ∧ (∀ e ∈ (fullTable false).offers.entries, e.state.closed = false)
      ∧ ∃ as c bs, (fullTable false).offers.entries = as ++ c :: bs ∧ c.state = .shown ∧ c.rank ≤ 2
          ∧ (∀ e ∈ as, e.state = .shown → e.rank < c.rank) ∧ (∀ e ∈ bs, e.state = .shown → e.rank ≤ c.rank) := by
  unfold State.Accepts State.HoldsZone
  refine ⟨by decide, by decide, by decide, by decide, by decide, by decide,
    ⟨(fullTable true).offers.entries.take 3, { entryOf 4 .expired with rank := 1 }, (fullTable true).offers.entries.drop 4,
      by decide⟩, by decide, by decide,
    ⟨(fullTable false).offers.entries.take 2, { entryOf 3 .shown with rank := 2 }, (fullTable false).offers.entries.drop 3,
      by decide⟩⟩

theorem witness_OfferDiscardedOrRefreshes :
    parseOffer offer512 = .ok { id := 512, lifetime := 20, account := false, estimate := none, text := [] }
      ∧ s0.admits .offer (H 2 20) offer512 = true ∧ ¬ s0.Accepts (H 2 20)
      ∧ (let s := offering [entryOf 512 .shown, entryOf 6 .lost] none s0
         s.admits .offer (H 0 300) offer512 = true ∧ s.Accepts (H 0 300) ∧ s.tableBounded = true
           ∧ s.offers.entries = [] ++ entryOf 512 .shown :: [entryOf 6 .lost] ∧ 1 ≤ (entryOf 512 .shown).lifetime)
      ∧ (let s := offering [entryOf 512 .lost] none s0
         s.admits .offer (H 0 300) offer512 = true ∧ s.Accepts (H 0 300) ∧ s.tableBounded = true
           ∧ s.offers.entries = [] ++ entryOf 512 .lost :: []) := by
  unfold State.Accepts State.HoldsZone
  decide

/-- The entry of the bid of `bidding`. -/
def bidEntry : OfferEntry := { entryOf 5 .bid with lifetime := 0, waiting := some 0 }

theorem witness_AwardTakenOrAnswered :
    (let s := bidding .sent s0
     s.admits .award (H 0 300) (B [0, 5]) = true ∧ parseId (B [0, 5]) = .ok bidEntry.id ∧ s.tableBounded = true
       ∧ s.offers.entries = [entryOf 6 .shown] ++ bidEntry :: []
       ∧ s.offers.bid = some { offer := 5, stage := .sent, mark := .none } ∧ s.meter.state = .vacant)
      ∧ (let s := offering [entryOf 5 .awarded] none (s0.withMeter { s0.meter with state := .assigned, jobId := some 5 })
         s.admits .award (H 0 300) (B [0, 5]) = true ∧ s.AwardRepeats 5
           ∧ ¬ (∃ e ∈ s.offers.entries, e.id = 5 ∧ e.state = .bid))
      ∧ s0.admits .award (H 0 300) (B [0, 5]) = true ∧ ¬ s0.AwardRepeats 5
      ∧ ¬ (∃ e ∈ s0.offers.entries, e.id = 5 ∧ e.state = .bid) := by
  unfold State.AwardRepeats
  decide

theorem witness_RefuseLosesBid :
    s0.admits .refuse (H 0 300) (B [0, 5]) = true ∧ parseId (B [0, 5]) = .ok 5
      ∧ (∀ e ∈ s0.offers.entries, e.id = 5 → e.state ≠ .bid)
      ∧ ∀ stage ∈ [BidStage.queued, .inFlight, .sent],
          let s := bidding stage s0
          s.admits .refuse (H 0 300) (B [0, 5]) = true ∧ s.tableBounded = true ∧ s.bidMatched = true
            ∧ s.offers.entries = [entryOf 6 .shown] ++ bidEntry :: [] ∧ bidEntry.id = 5 ∧ bidEntry.state = .bid
            ∧ s.offers.bid = some { offer := 5, stage, mark := .none } := by decide

theorem witness_WithdrawByState :
    parseId (B [0, 5]) = .ok 5 ∧ s0.admits .offerWithdraw (H 0 300) (B [0, 5]) = true
      ∧ (∀ e ∈ s0.offers.entries, e.id ≠ 5) ∧ s0.meter.state ≠ .assigned
      ∧ (let s := s0.withMeter { s0.meter with state := .assigned, jobId := some 5 }
         s.admits .offerWithdraw (H 0 300) (B [0, 5]) = true ∧ (∀ e ∈ s.offers.entries, e.id ≠ 5)
           ∧ s.meter.jobId = some 5
           ∧ (offering [entryOf 5 .awarded] none s).tableBounded = true
           ∧ (offering [entryOf 5 .awarded] none s).admits .offerWithdraw (H 0 300) (B [0, 5]) = true)
      ∧ (∀ st ∈ [OfferState.expired, .shown],
          let s := offering [entryOf 5 st] none s0
          s.admits .offerWithdraw (H 0 300) (B [0, 5]) = true ∧ s.tableBounded = true
            ∧ s.offers.entries = [] ++ entryOf 5 st :: [])
      ∧ (bidding .queued s0).admits .offerWithdraw (H 0 300) (B [0, 5]) = true ∧ (bidding .queued s0).bidMatched = true
      ∧ (bidding .queued s0).tableBounded = true ∧ (bidding .queued s0).offers.entries = [entryOf 6 .shown] ++ bidEntry :: [] := by
  decide

theorem witness_SecondTimersExpire :
    (let s := offering [{ entryOf 6 .shown with lifetime := 0 }] none s0
     s.mainRuns = true ∧ s.tableBounded = true ∧ s.bidMatched = true
       ∧ s.offers.entries = [] ++ { entryOf 6 .shown with lifetime := 0 } :: [])
      ∧ (∀ stage ∈ [BidStage.queued, .inFlight, .sent],
          let s := bidding stage s0
          s.mainRuns = true ∧ s.tableBounded = true ∧ s.bidMatched = true
            ∧ s.offers.entries = [entryOf 6 .shown] ++ bidEntry :: [] ∧ bidEntry.state = .bid ∧ bidEntry.lifetime = 0
            ∧ bidEntry.waiting = some 0 ∧ s.offers.bid = some { offer := 5, stage, mark := .none })
      ∧ (∀ es ∈ [[], [entryOf 5 .bid], [entryOf 5 .lost]],
          (∀ e ∈ (offering es none s0).offers.entries, e.state = .bid → e.lifetime ≠ 0)
            ∧ ∀ e ∈ (offering es none s0).offers.entries, e.state = .bid → e.waiting ≠ some 0)
      ∧ (let s := storing [rec1 1 700] (.sent 1 0) s0
         s.mainRuns = true ∧ s.monitor.holding = false ∧ s.store.sender = .sent 1 0 ∧ s.storeInOrder = true
           ∧ classCount s.arbiter.queue 2 = 0)
      ∧ s0.store.sender = .idle
      ∧ (s0.withLink { s0.link with lossTimer := some 0 }).link.state = .synced ∧ s0.link.lossTimer ≠ some 0 := by decide

theorem witness_OffersFollowMeter :
    (∀ stage ∈ [BidStage.queued, .inFlight, .sent], ∀ c ∈ [Instr.hire 1 (B [0]), .shiftClose 1 []],
      let s := bidding stage s0
      s.mainRuns = true ∧ s.meter.state = .vacant ∧ s.tableBounded = true ∧ s.bidMatched = true
        ∧ s.offers.entries = [entryOf 6 .shown] ++ bidEntry :: []
        ∧ s.offers.bid = some { offer := 5, stage, mark := .none } ∧ (after c s).meter.state ≠ .vacant)
      ∧ (let s := s0.withMeter { s0.meter with state := .assigned, jobId := some 5 }
         s.mainRuns = true ∧ s.meter.state = .assigned ∧ s.meter.jobId = some 5) := by decide

theorem witness_ShiftOpens :
    (let s := s0.withMeter { s0.meter with state := .off }
     s.mainRuns = true ∧ s.meter.state = .off ∧ s.identity.cab ≠ 0 ∧ s.tariff ≠ none ∧ s.roof = .steady
       ∧ s.monitor.holding = false)
      ∧ State.reset.mainRuns = true ∧ State.reset.meter.state = .off ∧ State.reset.identity.cab = 0 := by decide

theorem witness_ShiftCloses :
    (∀ q ∈ [[Entry.shift 11], [], [.status, .passUp 1 [], .passUp 2 [], .passUp 3 [], .passUp 4 [], .passUp 5 []]],
      let s := queued q s0
      s.mainRuns = true ∧ s.meter.state = .vacant ∧ ∀ e ∈ s.offers.entries, e.state ≠ .bid)
      ∧ (queued [Entry.shift 11] s0).arbiter.queue.any Entry.isShift = true
      ∧ ∀ stage ∈ [BidStage.queued, .inFlight, .sent],
          let s := bidding stage (queued [.bid 5] s0)
          s.mainRuns = true ∧ s.meter.state = .vacant ∧ s.tableBounded = true ∧ s.bidMatched = true
            ∧ s.offers.entries = [entryOf 6 .shown] ++ bidEntry :: [] ∧ bidEntry.state = .bid
            ∧ s.offers.bid = some { offer := 5, stage, mark := .none } := by decide

theorem witness_BandAndFiguresChosen :
    (bands.map Band.number).Nodup ∧ { band1 with selectable := false } ∈ bands
      ∧ Band.Windowed { band1 with number := 2, window := some { start := 79200, stop := 21600, days := 0x60#8 }, selectable := false }
          { day := 5, second := 79200 }
      ∧ (∀ x ∈ bands, ¬ x.Windowed { day := 0, second := 3600 })
      ∧ 10 * 100 + 500 < 65536000 ∧ 65536000 ≤ 1093 * 60000 + 500
      ∧ metres 0 1 < 4294967295 ∧ 4294967295 * 1000 + 1 / 2 ≥ 4294967296 * 1 := by
  unfold Band.Windowed
  refine ⟨by decide, by decide, ⟨by decide, by decide, _, rfl, by decide⟩, ?_, by decide⟩
  intro x m
  rintro ⟨h, -, w, e, d, -⟩
  revert x w
  simp [bands, band1]

theorem witness_HireStartsTrip :
    s0.mainRuns = true ∧ s0.meter.state = .vacant ∧ (∀ e ∈ s0.offers.entries, e.state ≠ .bid)
      ∧ chooseBand s0.tariff s0.time (9#8).toNat = none ∧ s0.tariff = some tariff1
      ∧ chooseBand s0.tariff s0.time (0#8).toNat = some band1
      ∧ (let s := s0.withMeter { s0.meter with state := .assigned, jobId := some 5 }
         s.mainRuns = true ∧ s.meter.state = .assigned ∧ chooseBand s.tariff s.time (1#8).toNat = some band1)
      ∧ (∀ stage ∈ [BidStage.queued, .inFlight, .sent],
          let s := bidding stage s0
          s.mainRuns = true ∧ s.meter.state = .vacant ∧ s.tableBounded = true ∧ s.bidMatched = true
            ∧ s.offers.entries = [entryOf 6 .shown] ++ bidEntry :: [] ∧ bidEntry.state = .bid
            ∧ chooseBand s.tariff s.time (1#8).toNat = some band1)
      ∧ ∀ p ∈ [4095, 4096], (s0.withPulses p).meter.state = .vacant := by decide

theorem witness_TripRequestsTaken :
    (∀ st ∈ [MeterState.hired, .total],
      let s := trip st trip1 s0
      s.mainRuns = true ∧ s.meter.state = st ∧ s.meter.trip = some trip1)
      ∧ trip1.extras.length < (3#8).toNat
      ∧ (∃ e, trip1.extras[(2#8).toNat - 1]? = some e ∧ e.max ≤ e.used)
      ∧ trip1.extras = [] ++ { amount := 100, max := 2, used := 0 } :: trip1.extras.drop 1 ∧ (1#8).toNat = 0 + 1 := by decide

theorem witness_TripPaid :
    ∀ n ∈ [0, 15, 16], ∀ p ∈ [4095, 4096],
      let s := (trip .total trip1 (storing ((List.range n).map fun i => rec1 (i + 1) 700) (.sent 1 9) s0)).withPulses p
      s.mainRuns = true ∧ s.meter.state = .total ∧ s.meter.trip = some trip1 ∧ s.store.records.length = n
        ∧ s.queueBounded = true ∧ s.store.sender = .sent 1 9 ∧ classCount s.arbiter.queue 2 = 0 := by decide

theorem witness_FareProgresses :
    (∀ gate ∈ [true, false],
      let x := { trip1 with gateOpen := gate, increments := 999999, fare := 999999 }
      let s := trip .hired x s0
      s.monitor.holding = false ∧ s.meter.state = .hired ∧ s.meter.trip = some x ∧ x.increments ≤ 999999
        ∧ x.fare ≤ 999999 ∧ 0 < x.copy.pulses * x.copy.seconds ∧ x.gateOpen = gate)
      ∧ (∀ c : BandCopy, ∃ money : Nat → Nat, ∀ i, money i =
          if i ≤ c.coverage then 0 else if c.length1 = 0 ∨ i ≤ c.coverage + c.length1 then c.value1 else c.value2) :=
  ⟨by decide, fun _ => ⟨_, fun _ => rfl⟩⟩

theorem witness_SecondTakesEffect :
    s0.monitor.holding = false ∧ (after .powerUp s0).monitor.holding = true
      ∧ 4095 < (s0.withPulses 4096).pulses ∧ (s0.withPulses 4096).mainRuns = true ∧ (s0.withPulses 4095).pulses ≤ 4095
      ∧ (storing [] (.sent 1 0) s0).store.sender = .sent 1 0 ∧ (alarm .acked s0).emergency.state = .acked
      ∧ s0.emergency.state = .clear ∧ s0.meter.state = .vacant
      ∧ (∀ gate ∈ [true, false],
          let s := trip .total { trip1 with gateOpen := gate, pulses := 4294967295 } s0
          s.monitor.holding = false ∧ s.meter.state = .total
            ∧ s.meter.trip = some { trip1 with gateOpen := gate, pulses := 4294967295 }) := by decide

theorem witness_TotalsAcknowledged :
    parseId (B [0, 2]) = .ok 2 ∧ s0.admits .totalAck (H 0 300) (B [0, 2]) = true ∧ (∀ r ∈ s0.store.records, r.trip ≠ 2)
      ∧ (let s := queued [.total 2] (storing [rec1 2 700, rec1 3 800] (.queued 2) s0)
         s.admits .totalAck (H 0 300) (B [0, 2]) = true ∧ s.store.records = [] ++ rec1 2 700 :: [rec1 3 800]
           ∧ s.queueBounded = true ∧ s.store.sender = .queued 2 ∧ .total 2 ∈ s.arbiter.queue)
      ∧ (let s := flying (.entry (.total 2)) (queued [.total 2] (storing [rec1 2 700] (.queued 2) s0))
         s.admits .totalAck (H 0 300) (B [0, 2]) = true ∧ s.store.records = [] ++ rec1 2 700 :: [] ∧ s.queueBounded = true
           ∧ s.store.sender = .queued 2 ∧ .total 2 ∈ s.arbiter.queue ∧ s.entryInFlight (.total 2) = true)
      ∧ (let s := storing [rec1 1 900, rec1 2 700] (.sent 1 0) s0
         s.admits .totalAck (H 0 300) (B [0, 2]) = true ∧ s.store.records = [rec1 1 900] ++ rec1 2 700 :: []
           ∧ (∀ x ∈ [rec1 1 900], x.trip ≠ 2) ∧ s.store.sender.served ≠ some 2)
      ∧ (let s := storing [rec1 2 700] (.sent 2 0) s0
         s.admits .totalAck (H 0 300) (B [0, 2]) = true ∧ s.queueBounded = true ∧ classCount s.arbiter.queue 2 = 0) := by
  decide

/-- A MESSAGE of id 9, one character, receipt wanted. -/
def message9 : List Byte := B [0, 9, 2, 0, 1, 65]

/-- Twelve stored messages, the first READ where asked. -/
def twelve (first : MessageState) : State :=
  holding ((List.range 12).map fun i => msg (i + 20) (if i = 0 then first else .unread) none) s0

theorem witness_MessageArrives :
    parseMessage message9 = .ok { id := 9, urgent := false, wanted := true, options := [], text := B [65] }
      ∧ (∀ s ∈ [s0, twelve .read, twelve .unread],
          s.admits .message (H 0 300) message9 = true ∧ (s.messages.list.map Message.id).Nodup
            ∧ s.messages.refusal = none ∧ ∀ m ∈ s.messages.list, m.id ≠ 9)
      ∧ GoneForRoom false 1 s0.messages.list [] ∧ GoneForRoom false 1 (twelve .read).messages.list [20]
      ∧ (∀ gone, gone <+: removalOrder false (twelve .unread).messages.list →
          ¬ Fits 1 (without gone (twelve .unread).messages.list))
      ∧ (let s := holding [msg 8 .read none, { msg 9 .read none with lastSent := some .read }] s0
         s.admits .message (H 0 300) message9 = true ∧ (s.messages.list.map Message.id).Nodup
           ∧ s.messages.list = [msg 8 .read none] ++ { msg 9 .read none with lastSent := some .read } :: []) := by
  refine ⟨by decide, by decide, ⟨by decide, by unfold Fits; decide, ?_⟩, ⟨by decide, by unfold Fits; decide, ?_⟩, ?_, by decide⟩
  · intro g h n
    exact absurd (List.prefix_nil.mp h) n
  · intro g h n
    have e : removalOrder false (twelve .read).messages.list = [20] := by decide
    have h1 : g ∈ [20].inits := (List.mem_inits _ _).mpr h
    obtain rfl : g = [] := by
      simp only [List.inits, List.map_cons, List.map_nil, List.mem_cons, List.not_mem_nil, or_false] at h1
      exact h1.resolve_right n
    unfold Fits
    decide
  · intro g h
    have h1 : g = [] := by
      have : removalOrder false (twelve .unread).messages.list = [] := by decide
      rw [this] at h
      exact List.prefix_nil.mp h
    subst h1
    unfold Fits
    decide

theorem witness_StoredMessageDealtWith :
    parseId (B [0, 9]) = .ok 9
      ∧ (∀ st ∈ [MessageState.unread, .read, .answered],
          let s := holding [msg 8 .read none, msg 9 st none] s0
          s.mainRuns = true ∧ s.admits .messageRecall (H 0 300) (B [0, 9]) = true
            ∧ (s.messages.list.map Message.id).Nodup ∧ s.messages.list = [msg 8 .read none] ++ msg 9 st none :: []
            ∧ ¬ s.ReceiptHeldBack)
      ∧ s0.admits .messageRecall (H 0 300) (B [0, 9]) = true ∧ (∀ m ∈ s0.messages.list, m.id ≠ 9)
      ∧ (∀ m ∈ s0.messages.list, m.id ≠ beNat (B [0, 9]))
      ∧ (s0.withMessages { s0.messages with refusal := some { id := 9, stage := .owed, replaced := false } }).admits
          .messageRecall (H 0 300) (B [0, 9]) = true
      ∧ (∀ wanted ∈ [true, false], { msg 9 .unread none with wanted }.state = .unread)
      ∧ beNat (B [0, 9]) = 9 ∧ (3#8).toNat ∉ (msg 9 .read none).options ∧ (2#8).toNat ∈ (msg 9 .read none).options
      ∧ (1#8) ≠ 0#8 := by
  unfold State.ReceiptHeldBack
  decide

theorem witness_TerminalSendsUplink :
    s0.mainRuns = true ∧ sharedCount s0.arbiter.queue < 6
      ∧ (List.replicate 255 1#8).length < 256 ∧ 64 < (List.replicate 65 1#8).length
      ∧ 199 < (List.replicate 200 1#8).length ∧ (List.replicate 199 1#8).length ≤ 199
      ∧ (let s := queued [.status, .passUp 1 [], .passUp 2 [], .passUp 3 [], .passUp 4 [], .passUp 5 []] s0
         s.mainRuns = true ∧ 6 ≤ sharedCount s.arbiter.queue) := by decide

theorem witness_PassThroughQueue :
    ∀ n ∈ [0, 3, 4],
      let s := s0.withTerminal { s0.terminal with pass := List.replicate n { mode := 0, data := B [1] } }
      s.mainRuns = true ∧ s.admits .pass (H 0 300) (B [1]) = true ∧ s.terminal.pass.length = n := by decide

theorem witness_DispatchAnswersEmergency :
    ∀ st ∈ [EmergencyState.clear, .pressing, .active, .acked],
      let s := alarm st s0
      s.admits .emergencyAck (H 0 300) [] = true ∧ s.admits .emergencyClear (H 0 300) [] = true
        ∧ s.emergency.state = st ∧ s.monitor.holding = false := by decide

theorem witness_EmergencyTimersExpire :
    (∀ st ∈ [EmergencyState.pressing, .active, .acked],
      let s := alarm st s0
      s.monitor.holding = false ∧ true = (s.mainRuns && s.identity.cab != 0) ∧ s.emergency.state = st
        ∧ s.emergency.press = some 0 ∧ s.emergency.interval = some 0)
      ∧ s0.emergency.press ≠ some 0 ∧ s0.emergency.interval ≠ some 0 := by decide

theorem witness_EmergencyLeftOnlyByClear :
    (alarm .acked s0).emergency.state = .acked
      ∧ exec (.emergencyClear (H 0 300) []) (alarm .acked s0) = .next (after (.emergencyClear (H 0 300) []) (alarm .acked s0))
      ∧ (after (.emergencyClear (H 0 300) []) (alarm .acked s0)).emergency.state = .clear
      ∧ (after .supplyReturn (lost (shed (alarm .active s0)))).emergency.state = .clear :=
  ⟨by decide, goes_next (by decide), by decide, by decide⟩

/-- The lines of a tick. -/
def lines (emerg ign : Bool) : TickLines := { seat := ign, emerg0 := emerg, emerg1 := false, ign, supplyOk := true }

theorem witness_TickSamplesAndCounts :
    s0.monitor.holding = false ∧ (after .powerUp s0).monitor.holding = true
      ∧ true = ((lines true true).emerg0 || (lines true true).emerg1)
      ∧ false = ((lines false true).emerg0 || (lines false true).emerg1)
      ∧ (∀ st ∈ [EmergencyState.clear, .pressing, .active, .acked],
          (alarm st s0).emergency.state = st ∧ (alarm st s0).emergency.lastSample = false)
      ∧ s0.emergency.lastSample = true ∧ (shed s0).monitor.supplyUp = false
      ∧ (lines true true).ign = s0.monitor.ignition ∧ (lines true false).ign ≠ s0.monitor.ignition
      ∧ (lines true true).seat = true ∧ s0.meter.state = .vacant ∧ s0.condition = .driving
      ∧ (trip .hired trip1 s0).meter.state ≠ .off ∧ (trip .hired trip1 s0).meter.state ≠ .vacant ∧ s0.mainRuns = true
      ∧ (s0.withRoof (.armed true)).roof = .armed true ∧ (s0.withRoof (.blinking true 5)).roof = .blinking true 5 := by decide

theorem witness_TickEventsTakeEffect :
    s0.monitor.holding = false ∧ s0.seat.due = false ∧ (s0.withSeat { s0.seat with due := true }).seat.due = true
      ∧ (s0.withRoof (.blinking true 5)).roof = .blinking true 5 ∧ s0.monitor.ignCount ≠ 20
      ∧ (∀ a ∈ [true, false], ∀ o ∈ [true, false], ∀ level ∈ [true, false],
          let s := (withSettings (fun x => { x with stopAir := a, stopOffers := o }) (bidding .sent s0)).withMonitor
            { s0.monitor with ignCount := 20, ignLevel := level }
          s.monitor.holding = false ∧ s.monitor.ignCount = 20 ∧ s.mainRuns = true ∧ s.monitor.ignLevel = level
            ∧ s.settings.stopAir = a ∧ s.settings.stopOffers = o ∧ s.link.run = .running ∧ s.offers.run = .running)
      ∧ (∀ es ∈ [[], [entryOf 6 .shown], [entryOf 6 .lost]], ∀ run ∈ [RunState.running, .stopping, .stopped],
          let s := (s0.withOffers { s0.offers with entries := es, run }).withLink { s0.link with run }
          s.offers.run = run ∧ s.link.run = run ∧ ∀ e ∈ s.offers.entries, e.state ≠ .bid)
      ∧ (low (s0.withMonitor { s0.monitor with ignCount := 20 })).mainRuns = false := by decide

/-- The cab before its identity is set. -/
def unset : State := s0.withIdentity { cab := 0, fleet := 0, k := 0 }

/-- The addressing that a frame's bytes carry. -/
def hdrOf (f : List Byte) : AirHeader :=
  { fleet := f.getD 0 0, mode := f.getD 2 0, addr := BitVec.ofNat 16 (beNat (slice f 3 2)) }

/-- Frames of good form whose payloads fail, in CAB, GROUP, ZONE and FLEET mode and with the identity unset (the CYCLE with
allowance 9 is chapter 12's), and addressings that are not accepted. -/
theorem witness_ReceptionInEveryMode :
    (∀ x ∈ [(6, 0, 300, [0, 9], DownKind.message, 2), (6, 1, 90, [], .pass, 1), (6, 2, 1, [0, 9], .offer, 2),
        (6, 2, 999, [0, 0], .offer, 1), (6, 3, 0, [3, 0, 0xAF, 0xC8, 40, 9, 0], .cycle, 4), (6, 3, 0, [0, 9], .message, 2),
        (1, 3, 0, [3, 0, 0xAF, 0xC8, 40, 9, 0], .cycle, 4)],
      let f := airFrame x.1 x.2.2.2.2.1.code x.2.1 x.2.2.1 (B x.2.2.2.1)
      8 ≤ f.length ∧ crc16 f = 0#16 ∧ byteAt f 5 ≤ 200 ∧ f.length = 8 + byteAt f 5
        ∧ DownKind.ofCode (byteAt f 1) = some x.2.2.2.2.1
        ∧ hdrOf f = { fleet := BitVec.ofNat 8 x.1, mode := BitVec.ofNat 8 x.2.1, addr := BitVec.ofNat 16 x.2.2.1 }
        ∧ payloadFault x.2.2.2.2.1 (slice f 6 (byteAt f 5)) = some x.2.2.2.2.2)
      ∧ (∀ x ∈ [(DownKind.message, H 0 300), (.pass, H 1 90), (.offer, H 2 1), (.offer, H 2 999), (.cycle, H 3 0), (.message, H 3 0)],
          s0.Addressed x.1 x.2)
      ∧ (∀ x ∈ [(DownKind.message, H 1 91), (.offer, H 2 1000), (.message, H 2 12), (.totalAck, H 3 0)], ¬ s0.Addressed x.1 x.2)
      ∧ unset.Addressed .cycle { H 3 0 with fleet := 1 } ∧ ¬ unset.Addressed .cycle { H 3 0 with fleet := 0 }
      ∧ ¬ unset.Addressed .message (H 0 300) ∧ s0.ToThisCab (H 0 300) ∧ ¬ s0.ToThisCab (H 0 301) ∧ ¬ unset.ToThisCab (H 0 300) := by
  refine ⟨by decide, ?_, ?_, ?_, ?_, ?_, ?_⟩ <;>
    first
    | (unfold State.Addressed State.HoldsAddress; decide)
    | (unfold State.ToThisCab; decide)

theorem witness_ReceptionBeginsAndFails :
    s0.mainRuns = true ∧ unset.mainRuns = true ∧ s0.link.record = some { bytes := [], count := 0, crc := 0xFFFF#16 }
      ∧ unset.link.record = some { bytes := [], count := 0, crc := 0xFFFF#16 }
      ∧ (s0.withLink (.fresh .running)).link.record = none
      ∧ (B [1, 2, 3, 4, 5, 6, 7]).length < 8 ∧ crc16 (B [6, 5, 0, 1, 161, 0, 1, 2]) ≠ 0#16
      ∧ (let f := withCrc (B [6, 1, 0, 1, 44, 201])
         8 ≤ f.length ∧ crc16 f = 0#16 ∧ 200 < byteAt f 5)
      ∧ (let f := withCrc (B [6, 3, 0, 1, 44, 4, 0])
         8 ≤ f.length ∧ crc16 f = 0#16 ∧ byteAt f 5 ≤ 200 ∧ f.length ≠ 8 + byteAt f 5)
      ∧ (let f := airFrame 7 0x30 0 300 []
         crc16 f = 0#16 ∧ f.length = 8 + byteAt f 5 ∧ s0.identity.cab ≠ 0 ∧ byteAt f 0 ≠ s0.identity.fleet)
      ∧ (∀ k ∈ [0x40, 0x49], crc16 (airFrame 6 k 0 300 []) = 0#16 ∧ 0x40 ≤ byteAt (airFrame 6 k 0 300 []) 1
          ∧ byteAt (airFrame 6 k 0 300 []) 1 ≤ 0x49)
      ∧ (∀ k ∈ [0, 0x11, 0x3F, 0x4A], ∀ cab ∈ [300, 301],
          let f := airFrame 6 k 0 cab []
          crc16 f = 0#16 ∧ f.length = 8 + byteAt f 5 ∧ byteAt f 0 = s0.identity.fleet
            ∧ DownKind.ofCode (byteAt f 1) = none ∧ byteAt f 2 = 0 ∧ beNat (slice f 3 2) = cab)
      ∧ (let f := airFrame 6 3 0 300 (B [0, 0])
         crc16 f = 0#16 ∧ f.length = 8 + byteAt f 5 ∧ DownKind.ofCode (byteAt f 1) = some .award
           ∧ beNat (slice f 3 2) = s0.identity.cab ∧ payloadFault .award (slice f 6 (byteAt f 5)) = some 1) := by decide

/-- Where a payload fails, field by field (R195): the frames through the receive path give 2 for an OFFER's lifetime, chapter 12 gives
4 for a CYCLE's allowance; the others are counted from the table. -/
theorem test_failing_positions :
    (∀ x ∈ [(DownKind.offer, [0, 9, 4, 0, 0, 0, 0, 0], 2), (.offer, [0, 9, 5, 0, 0, 0, 1, 0], 4), (.offer, [0, 9, 5, 2, 0, 10, 0, 0], 4),
        (.offer, [0, 9, 5, 0, 0, 0, 0, 121], 5), (.offer, [0, 9, 5, 0, 0, 0, 0, 0, 1], 6), (.message, [0, 9, 4, 0, 1, 65], 2),
        (.message, [0, 9, 0, 5, 1, 65], 3), (.message, [0, 9, 0, 2, 7, 0, 1, 65], 5), (.message, [0, 9, 0, 2, 7, 8, 0], 6),
        (.message, [0, 9, 0, 0, 1, 65, 66], 5), (.cycle, [3, 1, 0x51, 0x80, 40, 2, 0], 2), (.tableOpen, [6, 0, 1, 0, 1], 1),
        (.tableOpen, [5, 0, 1, 16, 1], 3), (.tableSegment, [2, 0, 3, 0, 0], 4), (.tableCommit, [2, 0, 0, 1, 2], 2),
        (.statusPoll, [0], 1), (.pass, [], 1)],
      payloadFault x.1 (B x.2.1) = some x.2.2) := by decide

/-- For each clause on a failing position a payload that meets it, with fields at the ends of their ranges. -/
theorem witness_FailingPositions :
    FieldsHold ((leadingFields .offer 0).take 1) (B [0, 9, 4]) ∧ ¬ FieldsHold ((leadingFields .offer 0).take 2) (B [0, 9, 4])
      ∧ FieldsHold (leadingFields .offer 3) (B [255, 255, 255, 3, 0x99, 0x99, 0x99, 0])
      ∧ EstimateHolds 3 (B [0x99, 0x99, 0x99, 0]) ∧ ¬ EstimateHolds 3 (B [0, 10, 0, 0]) ∧ EstimateHolds 0 (B [0, 0, 0, 0])
      ∧ TextHolds 0 120 (B [0]) ∧ ¬ TextHolds 0 120 (B [121])
      ∧ FieldsHold (leadingFields .message 2) (B [0, 1, 3, 2, 1, 255, 1, 65]) ∧ TextHolds 1 180 (B [1, 65])
      ∧ ¬ TextHolds 1 180 (B [0]) ∧ ¬ TextHolds 1 180 (B [2, 65])
      ∧ FieldsHold (leadingFields .cycle 0xC8) (B [6, 1, 0x51, 0x7F, 255, 7, 1]) ∧ FieldsHold (leadingFields .pass 0) []
      ∧ FieldsHold (leadingFields .tableSegment 0) (B [5, 255, 255, 15, 255]) := by
  refine ⟨⟨by decide, by decide, by decide, trivial⟩, fun h => absurd h.2.2.2.2.1 (by decide), ?_, ?_,
    fun h => ?_, ?_, ?_, ?_, ?_, ?_, ?_, ?_, ?_, trivial, ?_⟩
  case refine_3 =>
    obtain ⟨v, hv⟩ := h.2.1 (by decide)
    exact absurd hv (by rw [show bcdNat ((B [0, 10, 0, 0]).take 3) = none by decide]; nofun)
  all_goals first
    | (unfold TextHolds; decide)
    | exact ⟨by decide, fun _ => ⟨_, rfl⟩, by decide⟩
    | (simp only [leadingFields, List.replicate, List.cons_append, List.nil_append, FieldsHold]; decide)

theorem witness_AddressCheckRoutes :
    s0.screenFrame DownKind.pass.code (H 1 90) (B [1]) = .accepted .pass (H 1 90) (B [1])
      ∧ State.reset.screenFrame DownKind.statusPoll.code (H 3 9) [] = .accepted .statusPoll (H 3 9) []
      ∧ (s0.withLink (.fresh .running)).link.record = none
      ∧ (let s := s0.withLink { s0.link with run := .stopped }
         s.mainRuns = true ∧ s.link.record ≠ none ∧ s.link.run = .stopped
           ∧ s.screenFrame DownKind.pass.code (H 1 90) (B [1]) = .accepted .pass (H 1 90) (B [1])) := by decide

theorem witness_CycleOpensOrRepeats :
    ∀ n ∈ [0, 40, 255], ∀ q ∈ [0, 1],
      let p := B [6, 1, 0x51, 0x7F, n, 7, q]
      s0.admits .cycle (H 3 0) p = true
        ∧ parseCycle p = .ok { day := 6, second := 86399, number := n, allowance := 7, quiet := q = 1 }
        ∧ s0.link.cycle = some { number := 40, loaded := 5, quiet := false } := by decide

theorem witness_PollsAndGrants :
    s0.admits .statusPoll (H 3 0) [] = true ∧ s0.identity.cab ≠ 0 ∧ .status ∉ s0.arbiter.queue
      ∧ sharedCount s0.arbiter.queue < 6
      ∧ (let s := State.reset.withLink { State.reset.link with record := some .fresh }
         s.admits .statusPoll (H 3 0) [] = true ∧ s.identity.cab = 0)
      ∧ (s0.withArbiter { s0.arbiter with slot := true }).arbiter.slot = true
      ∧ s0.mainRuns = true ∧ s0.arbiter.inFlight = none ∧ s0.arbiter.settle = none ∧ s0.arbiter.slot = false
      ∧ s0.arbiter.queue = []
      ∧ (∀ e ∈ [Entry.bid 5, .bidCancel 5 .busy, .receipt 9, .receiptRefusal, .total 1],
          let s := (queued [.status, e, .passUp 1 []] s0).withLink { s0.link with allowance := 1 }
          s.mainRuns = true ∧ s.link.state = .synced ∧ 1 ≤ s.link.allowance ∧ s.condition ≠ .parked
            ∧ s.arbiter.queue = [.status] ++ e :: [.passUp 1 []] ∧ (∀ x ∈ [Entry.status], e.cls < x.cls)
            ∧ ∀ x ∈ [Entry.passUp 1 []], e.cls ≤ x.cls)
      ∧ (queued [.status, .passUp 1 []] s0).arbiter.queue = [] ++ .status :: [.passUp 1 []]
      ∧ s0.offers.zone = some 12 ∧ s0.HoldsZone 12
      ∧ (s0.withOffers { s0.offers with zone := none }).offers.zone = none
      ∧ (storing [rec1 1 700, rec1 2 800] .idle s0).store.records = [rec1 1 700] ++ rec1 2 800 :: []
      ∧ (∀ kind ∈ [ReceiptKind.delivered, .read, .answer 255],
          let m := msg 9 .read (some { kind, stage := .queued, next := none })
          (holding [m] s0).messages.list = [] ++ m :: [] ∧ m.mark = some { kind, stage := .queued, next := none })
      ∧ (after (.shiftClose 1 []) s0).store.pendingReport = some s0.shiftReport
      ∧ (after .activation (alarm .pressing s0)).emergency.activation
          = some { clock := { day := 3, second := 45000 }, known := true } := by
  unfold State.HoldsZone
  decide

/-- Each kind of entry in flight, with what its owner holds for it. -/
theorem witness_TxDoneEndsFrame :
    (∀ g ∈ [Granted.slot, .detached], (flying g s0).mainRuns = true ∧ (flying g s0).arbiter.inFlight.map InFlight.granted = some g)
      ∧ (∀ e ∈ [Entry.status, .tableResult ((load1 .air []).ends .timeout 0), .driverMsg 1 (.code 1), .passUp 1 [], .total 1, .shift 12,
            .bid 5, .bidCancel 5 .busy, .receipt 9, .receiptRefusal],
          let s := flying (.entry e) (queued [e] s0)
          s.mainRuns = true ∧ s.arbiter.inFlight.map InFlight.granted = some (.entry e) ∧ e ∈ s.arbiter.queue)
      ∧ (let s := flying (.entry (.total 1)) (queued [.total 1] (storing [rec1 1 700] (.queued 1) s0))
         s.mainRuns = true ∧ s.store.sender = .queued 1)
      ∧ (∀ n ∈ [12, 11],
          let s := flying (.entry (.shift n)) (queued [.shift n] (s0.withStore { s0.store with pendingReport := some s0.shiftReport }))
          s.mainRuns = true ∧ s.store.pendingReport = some s0.shiftReport ∧ s0.shiftReport.shift = 12
            ∧ (∀ x ∈ s.arbiter.queue.erase (.shift n), x.isShift = false) ∧ sharedCount (s.arbiter.queue.erase (.shift n)) < 6)
      ∧ (∀ mark ∈ [BidMark.none, .expiryPending, .cancelOnDone],
          let s := flying (.entry (.bid 5)) (queued [.bid 5] (offering [] (some { offer := 5, stage := .inFlight, mark }) s0))
          s.mainRuns = true ∧ s.offers.bid = some { offer := 5, stage := .inFlight, mark })
      ∧ (∀ next ∈ [none, some (.answer 1)],
          let m := msg 9 .read (some { kind := .read, stage := .inFlight, next })
          let s := flying (.entry (.receipt 9)) (queued [.receipt 9] (holding [msg 8 .read none, m] s0))
          s.mainRuns = true ∧ s.messages.list = [msg 8 .read none] ++ m :: [] ∧ (s.messages.list.map Message.id).Nodup)
      ∧ ∀ replaced ∈ [true, false],
          let s := flying (.entry .receiptRefusal) (queued [.receiptRefusal]
            (s0.withMessages { s0.messages with refusal := some { id := 9, stage := .inFlight, replaced } }))
          s.mainRuns = true ∧ s.messages.refusal = some { id := 9, stage := .inFlight, replaced } := by decide

/-- R70, R76: a bid with its expiry pending is given up on TX_FAIL, and the cancel that waited gets its place. -/
theorem test_marked_bid_given_up :
    let s := flying (.entry (.bid 5)) (queued [.bid 5, .bidCancel 7 .busy]
      (offering [bidEntry] (some { offer := 5, stage := .inFlight, mark := .expiryPending })
        (s0.withOffers { s0.offers with cancels :=
          [{ offer := 7, reason := .busy, stage := .queued }, { offer := 8, reason := .busy, stage := .owed }] })))
    let t := after (.txFail false) s
    t.arbiter.queue = [.bidCancel 7 .busy, .bidCancel 8 .busy] ∧ t.offers.entries.map OfferEntry.state = [.expired] := by
  decide

theorem witness_UnsentFrameKept :
    (∀ g ∈ [Granted.slot, .detached, .entry (.total 1), .entry (.bidCancel 5 .busy), .entry (.receipt 9),
        .entry .receiptRefusal, .entry (.shift 12)],
      (flying g s0).mainRuns = true
        ∧ (flying g s0).arbiter.inFlight
            = some { granted := g, kind := 0x41, cls := some 1, cycle := some 40, timer := 0, frame := [] })
      ∧ (∀ mark ∈ [BidMark.none, .expiryPending, .cancelOnDone],
          let s := flying (.entry (.bid 5)) (queued [.bid 5] (offering [] (some { offer := 5, stage := .inFlight, mark }) s0))
          s.mainRuns = true ∧ s.offers.bid = some { offer := 5, stage := .inFlight, mark })
      ∧ (let s := flying (.entry (.bid 5)) (queued [.bid 5] (offering [entryOf 6 .shown, bidEntry]
           (some { offer := 5, stage := .inFlight, mark := .expiryPending }) s0))
         s.mainRuns = true ∧ s.arbiter.inFlight.map InFlight.granted = some (.entry (.bid 5)) ∧ s.tableBounded = true
           ∧ s.bidMatched = true ∧ s.offers.entries = [entryOf 6 .shown] ++ bidEntry :: [] ∧ bidEntry.id = 5)
      ∧ ∀ n ∈ [11, 12],
          let s := flying (.entry (.shift n)) (queued [.shift n] (s0.withStore { s0.store with pendingReport := some s0.shiftReport }))
          s.mainRuns = true ∧ s.store.pendingReport = some s0.shiftReport ∧ s0.shiftReport.shift = 12 := by decide

theorem witness_ModemFaults :
    s0.mainRuns = true ∧ s0.arbiter.inFlight = none ∧ s0.arbiter.settle = none
      ∧ (flying .slot s0).mainRuns = true ∧ (flying .slot s0).arbiter.inFlight.map InFlight.timer = some 0
      ∧ (∀ n ∈ [0, 2],
          let s := s0.withArbiter { s0.arbiter with settle := some n }
          s.mainRuns = true ∧ s.arbiter.inFlight = none ∧ s.arbiter.settle ≠ none)
      ∧ (s0.withArbiter { s0.arbiter with settle := some 0 }).arbiter.settle = some 0 := by decide

/-- A cab whose every owner waits: two cancels, a record, a pending report and two receipts. -/
def waiting : State :=
  let s := storing [rec1 1 700] .idle (s0.withStore { s0.store with pendingReport := some s0.shiftReport })
  let m := fun id => msg id .read (some { kind := .read, stage := .owed, next := none })
  (s.withOffers { s.offers with cancels := [{ offer := 3, reason := .busy, stage := .owed },
    { offer := 4, reason := .notBidding, stage := .owed }, { offer := 5, reason := .driverCancel, stage := .owed }] }).withMessages
    { s.messages with list := [m 8, m 9], refusal := some { id := 7, stage := .owed, replaced := false }
                      owed := [.message 9, .refusal, .message 8] }

theorem witness_PlacesRefilled :
    waiting.mainRuns = true ∧ waiting.cancelsBounded = true ∧ waiting.messagesMatched = true ∧ waiting.messages.owed.Nodup
      ∧ waiting.ReceiptHeldBack ∧ waiting.store.sender = .idle
      ∧ (after (.placeAppears .messagesStoreOffers) waiting).arbiter.queue
          = [.receipt 9, .receiptRefusal, .receipt 8, .total 1, .shift 12, .bidCancel 3 .busy, .bidCancel 4 .notBidding] := by
  unfold State.ReceiptHeldBack
  decide

/-- Six shared entries, the newest of class 5 a PASS_UP, a SHIFT or a result as asked. -/
def crowded (e : Entry) (s : State) : State :=
  queued [.status, .passUp 1 [], .passUp 2 [], .driverMsg 1 (.code 1), .tableResult ((load1 .air []).ends .timeout 0), e] s

/-- The queues a result may meet: room, a PASS_UP or a SHIFT to displace, and none to displace. -/
theorem witness_ResultOffered :
    sharedCount s0.arbiter.queue < 6
      ∧ (∀ e ∈ [Entry.passUp 3 [], .shift 11],
          let s := crowded e s0
          6 ≤ sharedCount s.arbiter.queue ∧ s.arbiter.queue = s.arbiter.queue.take 5 ++ e :: [] ∧ e ∉ s.arbiter.queue.take 5
            ∧ e.cls = 5 ∧ e.isTableResult = false ∧ s.entryInFlight e = false)
      ∧ (let s := flying (.entry (.passUp 3 [])) (queued [.passUp 3 [], .driverMsg 1 (.code 1), .receipt 1, .receipt 2, .receipt 3,
           .tableResult ((load1 .air []).ends .timeout 0)] s0)
         6 ≤ sharedCount s.arbiter.queue
           ∧ ∀ x ∈ s.arbiter.queue, x.cls = 5 → x.isTableResult = true ∨ s.entryInFlight x = true) := by decide

theorem witness_LoadsOpen :
    s0.mainRuns = true ∧ parseOpen (B [2, 0, 3, 0, 0]) = .error 3
      ∧ (∀ x ∈ [(1, TableId.address), (2, .zone), (3, .tariff), (4, .settings), (5, .identity)],
          ∀ s ∈ [s0, crowded (.passUp 3 []) s0, loading (load1 .air []) s0, loading (load1 .terminal []) s0,
              loading (load1 .air []) (crowded (.shift 11) s0), loading (load1 .terminal []) (crowded (.shift 11) s0)],
            parseOpen (B [x.1, 0, 3, 16, 0]) = .ok { table := x.2, generation := 3, length := 4096 }
              ∧ s.mainRuns = true ∧ s.admits .tableOpen (H 0 300) (B [x.1, 0, 3, 16, 0]) = true)
      ∧ s0.loader.context = none
      ∧ (∀ p ∈ [LoadPort.air, .terminal],
          let s := loading (load1 p []) (crowded (.shift 11) s0)
          s.loader.context = some (load1 p []) ∧ (load1 p []).port = p
            ∧ s.admits .tableOpen (H 0 300) (B [2, 0, 3, 0, 1]) = true)
      ∧ Load.Same (load1 .air []) { table := .zone, generation := 3, length := 1 }
      ∧ ¬ Load.Same (load1 .air []) { table := .zone, generation := 3, length := 4096 }
      ∧ ¬ Load.Same (load1 .air []) { table := .zone, generation := 4, length := 1 } := by
  unfold Load.Same
  decide

/-- Both ports bring the same payload. -/
theorem fromPort_both {s : State} {k : DownKind} {payload : List Byte} {r : Byte → Instr} {a : AirHeader → Instr}
    (h : s.mainRuns = true) (m : s.admits k (H 0 300) payload = true) (p : LoadPort) :
    FromPort p s k payload r a (match p with
      | .terminal => r 1#8
      | .air => a (H 0 300)) := by
  cases p
  · exact ⟨_, rfl, m⟩
  · exact ⟨h, _, rfl⟩

theorem witness_OpenLoadFed :
    (∀ p ∈ [LoadPort.air, .terminal], ∀ b ∈ [[], B [7]], ∀ q ∈ [s0, crowded (.passUp 3 []) s0],
      let s := loading (load1 p b) q
      s.loader.context = some (load1 p b) ∧ s.mainRuns = true ∧ (load1 p b).table = .zone ∧ (load1 p b).generation = 3
        ∧ s.admits .tableSegment (H 0 300) (B [2, 0, 3, 0, 0, 9]) = true
        ∧ s.admits .tableSegment (H 0 300) (B [2, 0, 3, 0, 1, 9]) = true
        ∧ s.admits .tableSegment (H 0 300) (B [2, 0, 3, 0, 0, 9, 9]) = true
        ∧ s.admits .tableAbort (H 0 300) (B [2, 0, 3]) = true ∧ (load1 p b).timer = 0)
      ∧ parseSegment (B [2, 0, 3, 0, 0, 9]) = .ok { table := .zone, generation := 3, offset := 0, data := B [9] }
      ∧ parseSegment (B [2, 0, 3, 0, 1, 9]) = .ok { table := .zone, generation := 3, offset := 1, data := B [9] }
      ∧ parseSegment (B [2, 0, 3, 0, 0, 9, 9]) = .ok { table := .zone, generation := 3, offset := 0, data := B [9, 9] }
      ∧ parseAbort (B [2, 0, 3]) = .ok { table := .zone, generation := 3 }
      ∧ (load1 .air []).buffer.length < 1 ∧ 0 < (load1 .air (B [7])).buffer.length ∧ (load1 .air []).buffer.length = 0
      ∧ (load1 .air []).length < 0 + (B [9, 9]).length ∧ 0 + (B [9]).length ≤ (load1 .air []).length
      ∧ ({ load1 .air [] with timer := 30 }).timer ≠ 0 := by decide

/-- A whole load of a table. -/
def whole (p : LoadPort) (table : TableId) (image : List Byte) : Load :=
  { port := p, table, generation := 3, length := image.length, buffer := image, timer := 30 }

/-- Images of each table: one that is applied, and one that is rejected. -/
def goodImage : TableId → List Byte
  | .address | .zone => B [0]
  | .tariff => B [0, 7, 1, 0, 1, 0, 0, 0, 0, 0, 0, 0, 0, 0, 3, 0x50, 1, 0, 0, 0x20, 0, 50, 0, 0, 0x25, 0, 100, 0, 20, 3]
  | .settings => B [2, 7, 7, 10, 5, 3, 10, 0, 1, 5, 0, 1]
  | .identity => B [1, 44, 6, 4, 226]

/-- The five tables with their codes, an image that is applied and its check. -/
def images : List (TableId × Nat × List Byte × Nat) :=
  [(.address, 1, goodImage .address, 57840), (.zone, 2, goodImage .zone, 57840), (.tariff, 3, goodImage .tariff, 9486),
   (.settings, 4, goodImage .settings, 50071), (.identity, 5, goodImage .identity, 24617)]

/-- A commit of generation 3 with a check. -/
def commitOf (code check : Nat) : List Byte := u8 code ++ B [0, 3] ++ u16 check

set_option maxRecDepth 50000 in
/-- The image `[1]`, of check 61905, is rejected for every table. -/
theorem witness_CommitTakesSteps :
    (∀ x ∈ images, (crc16 x.2.2.1).toNat = x.2.2.2) ∧ (crc16 (B [1])).toNat = 61905
      ∧ (∀ x ∈ images, ∀ c ∈ [x.2.2.2, 61905],
          parseCommit (commitOf x.2.1 c) = .ok { table := x.1, generation := 3, check := c }
            ∧ parseCommit (commitOf x.2.1 258) = .ok { table := x.1, generation := 3, check := 258 } ∧ c ≠ 258)
      ∧ (∀ p ∈ [LoadPort.air, .terminal], ∀ x ∈ images, ∀ image ∈ [x.2.2.1, B [1]],
          let c := whole p x.1 image
          (loading c s0).loader.context = some c ∧ c.length ≤ c.buffer.length ∧ c.table = x.1 ∧ c.generation = 3
            ∧ c.port = p ∧ (loading c s0).mainRuns = true)
      ∧ (∀ x ∈ images, ∀ c ∈ [x.2.2.2, 61905, 258], s0.admits .tableCommit (H 0 300) (commitOf x.2.1 c) = true)
      ∧ (load1 .air []).buffer.length < (load1 .air []).length
      ∧ ((∃ x, addressImage (goodImage .address) = .ok x) ∧ ∃ d, addressImage (B [1]) = .error d)
      ∧ ((∃ x, zoneImage (goodImage .zone) = .ok x) ∧ ∃ d, zoneImage (B [1]) = .error d)
      ∧ ((∃ x, tariffImage (goodImage .tariff) = .ok x) ∧ ∃ d, tariffImage (B [1]) = .error d)
      ∧ ((∃ x, settingsImage (goodImage .settings) = .ok x) ∧ ∃ d, settingsImage (B [1]) = .error d)
      ∧ ((∃ x, identityImage (goodImage .identity) = .ok x) ∧ ∃ d, identityImage (B [1]) = .error d)
      ∧ s0.meter.state ≠ .off ∧ (s0.withMeter { s0.meter with state := .off }).meter.state = .off := by
  refine ⟨by decide, by decide, by decide, by decide, by decide, by decide, ?_, ?_, ?_, ?_, ?_, by decide, by decide⟩
  all_goals exact ⟨⟨_, rfl⟩, _, rfl⟩

/-- A cab in PARKED under VISIBLE whose blocks stand in a run state. -/
def parked (r : RunState) (es : List OfferEntry) : State :=
  let s := withSettings (fun x => { x with visible := true })
    ((offering es none s0).withMonitor { s0.monitor with ignition := false })
  (s.withLink { s.link with run := r }).withOffers { s.offers with run := r }

/-- What a settings commit meets: PARKED with the blocks running, stopping and stopped, and an entry in BID or none. -/
theorem witness_SettingsCommitted :
    (∀ es ∈ [[], [entryOf 6 .shown, bidEntry]], ∀ r ∈ [RunState.running, .stopping, .stopped],
      let s := parked r es
      s.settings.visible = true ∧ s.condition = .parked ∧ s.link.run = r ∧ s.offers.run = r ∧ s.mainRuns = true
        ∧ s.offers.entries = es ∧ s.flagged .offerClosed = false)
      ∧ (∃ e ∈ [entryOf 6 .shown, bidEntry], e.state = .bid)
      ∧ (s0.withEvents { s0.events with flags := 0x3FFFF#18 }).flagged .offerClosed = true
      ∧ (alarm .acked s0).roof = .steady ∧ (alarm .acked s0).emergency.state = .acked ∧ s0.condition ≠ .parked
      ∧ (s0.withRoof (.armed true)).roof ≠ .steady ∧ s0.settings.visible = false := by decide

theorem witness_StrayFramesAndDisplacement :
    s0.mainRuns = true ∧ s0.loader.context = none
      ∧ (∀ p ∈ [LoadPort.air, .terminal],
          let s := loading (load1 p []) s0
          s.mainRuns = true ∧ s.loader.context = some (load1 p []) ∧ (load1 p []).port = p)
      ∧ (∀ s ∈ [s0, loading (load1 .terminal []) s0, loading (load1 .air []) s0],
          s.admits .tableSegment (H 0 300) (B [1, 0, 3, 0, 0, 9]) = true
            ∧ s.admits .tableCommit (H 0 300) (B [1, 0, 3, 1, 2]) = true ∧ s.admits .tableAbort (H 0 300) (B [1, 0, 3]) = true)
      ∧ parseSegment (B [1, 0, 3, 0, 0, 9]) = .ok { table := .address, generation := 3, offset := 0, data := B [9] }
      ∧ parseCommit (B [1, 0, 3, 1, 2]) = .ok { table := .address, generation := 3, check := 258 }
      ∧ parseAbort (B [1, 0, 3]) = .ok { table := .address, generation := 3 } ∧ (load1 .air []).table ≠ .address
      ∧ (let s := loading (load1 .air []) (crowded (.passUp 3 []) s0)
         s.admits .tableAbort (H 0 300) (B [2, 0, 3]) = true ∧ parseAbort (B [2, 0, 3]) = .ok { table := .zone, generation := 3 }
           ∧ s.admits .tableSegment (H 0 300) (B [2, 0, 3, 0, 1, 9]) = true
           ∧ s.admits .tableSegment (H 0 300) (B [2, 0, 3, 0, 0, 9, 9]) = true
           ∧ s.admits .tableCommit (H 0 300) (B [2, 0, 3, 1, 2]) = true ∧ (load1 .air []).timer = 0
           ∧ s.admits .tableOpen (H 0 300) (B [2, 0, 4, 0, 1]) = true ∧ s.loader.context = some (load1 .air [])) := by decide

/-- An image as numbers: a zone of a number with neighbours. -/
def zones2 (a n b : Nat) : List Byte := B [2, 0, a, 1, 0, n, 0, b, 0]

/-- The images that a rule rejects, and those it applies, at the ends of its ranges (R27, R163, R164, R166, R168). -/
theorem witness_AppliedTablesValid :
    zoneImage (zones2 12 13 13) = .ok [{ number := 12, neighbours := [13] }, { number := 13, neighbours := [] }]
      ∧ (∀ x ∈ [([], 0), (B [33], 0), (B [1, 0, 12], 0), (zones2 12 12 13, 12), (zones2 12 14 13, 12), (zones2 12 13 12, 12)],
          zoneImage x.1 = .error x.2)
      ∧ addressImage (B [1, 1, 0, 90, 18]) = .ok [{ fleet := false, value := 90, classes := 18#8 }]
      ∧ (∀ x ∈ [(B [2, 2, 0, 0, 1, 1, 0xFF, 0xFF, 1], 2), (B [1], 0), (B [16], 0), (B [2, 1, 0, 1, 31, 1, 0, 1, 1], 2),
            (B [1, 2, 0, 0, 32], 1)], addressImage x.1 = .error x.2)
      ∧ identityImage (B [0xFF, 0xFE, 255, 0xEA, 0x60]) = .ok { cab := 65534, fleet := 255, k := 60000 }
      ∧ (∀ x ∈ [(B [0xFF, 0xFF, 1, 0, 100], 1), (B [0, 1, 0, 0, 100], 2), (B [0, 1, 1, 0, 99], 3), (B [1], 0)],
          identityImage x.1 = .error x.2)
      ∧ (∀ x ∈ [(B [2, 4, 7, 10, 5, 3, 10, 0, 1, 5, 0, 1], 2), (B [2, 7, 7, 10, 5, 3, 10, 0, 1, 5, 0, 2], 12), (B [2], 0)],
          settingsImage x.1 = .error x.2)
      ∧ (let good := goodImage .tariff
         ∀ x ∈ [(good ++ [0#8], 0), (good.set 4 2#8, 1), (good.set 4 9#8, 9), (good.set 3 1#8 ++ B [0, 1, 0, 0], 0)],
           tariffImage x.1 = .error x.2)
      ∧ (∃ x, settingsImage (goodImage .settings) = .ok x) ∧ ∃ t, tariffImage (goodImage .tariff) = .ok t := by
  refine ⟨?_, ?_, ?_, ?_, ?_, ?_, ?_, ?_, ⟨_, rfl⟩, _, rfl⟩ <;> decide

/-- Zones that an image can hold, at the ends of its counts and fields, good and not; and an image of none. -/
theorem witness_ZoneImages :
    ZonesFit [{ number := 65535, neighbours := [0, 1, 2, 3, 4, 65535] }] ∧ ZonesFit []
      ∧ zoneTableBytes [{ number := 12, neighbours := [13] }, { number := 13, neighbours := [] }] = zones2 12 13 13
      ∧ ZoneGood [] { number := 999, neighbours := [1] } ∧ ¬ ZoneGood [] { number := 0, neighbours := [] }
      ∧ ∀ zs, ZonesFit zs → [] ≠ zoneTableBytes zs := by
  refine ⟨?_, ?_, by decide, ?_, ?_, fun zs _ h => by simp [zoneTableBytes, u8] at h⟩ <;>
    first
    | (unfold ZonesFit; decide)
    | (unfold ZoneGood; decide)

/-- A tariff image written out from R198: band 1, and band 2 with the window of chapter 2's example; one extra. -/
theorem test_tariff_image :
    tariffImage (B ([0, 7, 2, 1] ++ [1, 0, 0, 0, 0, 0, 0, 0, 0, 0, 3, 0x50, 1, 0, 0, 0x20, 0, 50, 0, 0, 0x25, 0, 100, 0, 20, 3]
        ++ [2, 1, 1, 0x35, 0x60, 0, 0x54, 0x60, 0x60, 0, 3, 0x50, 1, 0, 0, 0x20, 0, 50, 0, 0, 0x25, 0, 100, 0, 20, 1]
        ++ [0, 1, 0, 2])) =
      .ok { version := 7, extras := [{ amount := 100, max := 2 }]
            bands := [band1, { band1 with
              number := 2, window := some { start := 79200, stop := 21600, days := 0x60#8 }, selectable := false }] } := by decide

theorem witness_SoftResetTakesValues :
    waiting.mainRuns = true ∧ waiting.cancelsBounded = true ∧ waiting.messagesMatched = true
      ∧ waiting.store.records = rec1 1 700 :: [] ∧ waiting.store.pendingReport = some s0.shiftReport
      ∧ waiting.offers.cancels = { offer := 3, reason := .busy, stage := .owed } :: waiting.offers.cancels.drop 1
      ∧ 3 ≤ waiting.messages.owed.length ∧ 3 ≤ waiting.offers.cancels.length := by decide

theorem witness_SupplyLostAndBack :
    s0.monitor.supplyUp = true ∧ (s0.withMonitor { s0.monitor with supplyOk := false }).monitor.supplyOk = false
      ∧ s0.monitor.supplyOk = true ∧ (trip .hired trip1 s0).meter.state = .hired
      ∧ (trip .hired trip1 s0).meter.trip = some trip1
      ∧ (∀ level ∈ [true, false],
          let s := trip .hired trip1 (fit (shed s0))
          let u := s.withMonitor { s.monitor with resetLow := level }
          u.monitor.supplyUp = false ∧ u.monitor.confirm = 5 ∧ u.monitor.holding = false ∧ u.monitor.resetLow = level
            ∧ u.meter.state = .hired ∧ u.meter.hold = false ∧ u.meter.trip = some trip1)
      ∧ ∀ level, ((fit (shed s0)).withMonitor { (shed s0).monitor with resetLow := level }).checkFails = false :=
  ⟨by decide, by decide, by decide, by decide, by decide, by decide, fun _ => by
    show (false || (shed s0).givenCheck != (shed s0).givenCheck) = false
    simp⟩

theorem witness_ResetsTakeValues :
    (shed s0).monitor.supplyUp = false ∧ s0.monitor.supplyUp = true ∧ s0.monitor.resetLow = false
      ∧ (fit s0).checkFails = false ∧ (altered s0).checkFails = true ∧ (low s0).monitor.resetLow = true
      ∧ (low s0).monitor.supplyUp = true ∧ s0.arbiter.slot = false ∧ State.reset.MainFresh
      ∧ (let s := low (State.reset.withStore { State.reset.store with records := [rec1 1 700] })
         s.monitor.supplyUp = true ∧ s.monitor.resetLow = true ∧ s.MainFresh ∧ s.arbiter.queue = []
           ∧ s.store.sender = .idle ∧ s.store.records = rec1 1 700 :: [])
      ∧ (∀ u ∈ [lost (shed s0), altered (shed s0)],
          u.monitor.supplyUp = false ∧ u.monitor.confirm = 5 ∧ u.monitor.resetLow = false ∧ u.pending = [])
      ∧ (lost (shed s0)).checkFails = true ∧ (altered (shed s0)).checkFails = true := by
  have f : State.reset.MainFresh := by unfold State.MainFresh; decide
  exact ⟨by decide, by decide, by decide, test_check_fits rfl, test_check_altered _, by decide, by decide, by decide, f,
    ⟨by decide, by decide, f, by decide, by decide, by decide⟩, by decide, by decide, test_check_altered _⟩

theorem witness_QueueStaysBounded :
    let s := (queued [.bid 1, .bidCancel 2 .busy, .total 1, .status, .passUp 1 [], .passUp 2 [], .passUp 3 [], .passUp 4 []]
      s0)
    (s.withPending [.grant]).queueBounded = true ∧ step (s.withPending [.grant]) = .next (after .grant (s.withPending [])) :=
  ⟨by decide, goes_step (by decide)⟩

theorem witness_OffersStayMatched :
    let c := Instr.hire 1 (B [0])
    let s := bidding .inFlight s0
    (s.withPending [c]).tableBounded = true ∧ (s.withPending [c]).bidMatched = true
      ∧ step (s.withPending [c]) = .next (after c (s.withPending [])) :=
  ⟨by decide, by decide, goes_step (by decide)⟩

/-- The cancel list and the Message Store of a cab whose owners wait. -/
theorem witness_OwedListsStayBounded :
    let s := waiting.withPending [.grant]
    s.cancelsBounded = true ∧ s.messagesMatched = true ∧ step s = .next (after .grant (waiting.withPending [])) :=
  ⟨by decide, by decide, goes_step (by decide)⟩

theorem witness_MeterKeepsShape :
    let c := Instr.holdOn 1 []
    let s := trip .hired trip1 s0
    (s.withPending [c]).meterShape = true ∧ step (s.withPending [c]) = .next (after c (s.withPending [])) :=
  ⟨by decide, goes_step (by decide)⟩

/-- A closed shift with one record stored, in which one trip has ended. -/
def oneStored : State :=
  (storing [rec1 1 700] (.sent 1 9) (s0.withMeter { s0.meter with state := .off })).withStore
    { records := [rec1 1 700], totals := { ShiftTotals.fresh 12 with ended := 1 }, sender := .sent 1 9
      pendingReport := none }

theorem witness_StoreStaysBalanced :
    let c := Instr.shiftOpen 1 []
    let s := oneStored.withPending [c]
    s.storeInOrder = true ∧ s.balanced = true ∧ step s = .next (after c (oneStored.withPending []))
      ∧ ∀ r ∈ s.store.records, r.shift ≠ if s.store.totals.shift = 65535 then 1 else s.store.totals.shift + 1 :=
  ⟨by decide, by decide, goes_step (by decide), by decide⟩

theorem witness_RunningTripOnlyGrows :
    let x := { trip1 with fare := 999999, extrasTotal := 999999, increments := 999999, pulses := 4294967295
                          gatedPulses := 4294967295 }
    let s := trip .hired x s0
    exec .meterSecond s = .next (after .meterSecond s) ∧ s.meter.state = .hired ∧ s.meter.trip = some x
      ∧ ((after .meterSecond s).meter.trip).isSome = true := ⟨goes_next (by decide), by decide, by decide, by decide⟩

theorem witness_GuardedStateKept :
    let s := after .txDone s0
    exec .txDone s = .next (after .txDone s) ∧ s.fault.map FaultRecord.kind = some .modemProtocol
      ∧ (let u := loading { port := .terminal, table := .identity, generation := 3, length := 5
                            buffer := B [1, 45, 6, 4, 226], timer := 30 } (s0.withMeter { s0.meter with state := .off })
         let c := Instr.localTableCommit true 1 (B [5, 0, 3] ++ u16 (crc16 (B [1, 45, 6, 4, 226])).toNat)
         exec c u = .next (after c u) ∧ (after c u).identity ≠ u.identity) :=
  ⟨goes_next (by decide), by decide, goes_next (by decide), by decide⟩

/-- Payloads written out from R195's table (the CYCLE is chapter 12's), with fields at the ends of their ranges. -/
theorem test_payload_fields :
    parseOffer (B [255, 255, 5, 3, 0x12, 0x34, 0x56, 2, 65, 66])
        = .ok { id := 65535, lifetime := 5, account := true, estimate := some 123456, text := B [65, 66] }
      ∧ parseOffer (B [0, 1, 255, 0, 0, 0, 0, 0]) = .ok { id := 1, lifetime := 255, account := false, estimate := none, text := [] }
      ∧ parseMessage (B [1, 2, 1, 2, 7, 255, 1, 65])
        = .ok { id := 258, urgent := true, wanted := false, options := [7, 255], text := B [65] }
      ∧ parseCycle (B [3, 0, 0xAF, 0xC8, 40, 2, 0]) = .ok { day := 3, second := 45000, number := 40, allowance := 2, quiet := false }
      ∧ parseId (B [1, 2]) = .ok 258
      ∧ parseOpen (B [2, 1, 2, 16, 0]) = .ok { table := .zone, generation := 258, length := 4096 }
      ∧ parseSegment (B [3, 1, 2, 15, 255, 9, 8]) = .ok { table := .tariff, generation := 258, offset := 4095, data := B [9, 8] }
      ∧ parseCommit (B [4, 1, 2, 0xAB, 0xCD]) = .ok { table := .settings, generation := 258, check := 0xABCD }
      ∧ parseAbort (B [5, 1, 2]) = .ok { table := .identity, generation := 258 } := by decide

theorem witness_FramesReadBack :
    (∀ k ∈ [0x80, 0x9F], selectionCommand true (localFrame k 1 []) ≠ none)
      ∧ s0.screenFrame DownKind.award.code (H 0 300) (B [0, 5]) = .accepted .award (H 0 300) (B [0, 5]) := by decide

end Sys2Proof.Tests
end

section
/-! PROOFS. The statements of 00_scope.md: a DIST pulse and a meter second (R1, R33, R34, R36). -/

namespace Sys2Proof.Machine

variable {s : State}

/-! ## A fault offered between two states (R182) -/

/-- A fault looks at the capture record, the clock and the flags alone, so what else changes before the offer and
after it does not count. -/
theorem FaultOffered.of_unchanged {as bs : List Block} {kind : FaultKind} {port : FaultPort} {kindByte detail : Nat}
    {s u v t : State} (f : FaultOffered kind port kindByte detail u v) (before : OnlyChanges as s u)
    (after : OnlyChanges bs v t) (ha : ∀ b ∈ [Block.time, .fault, .events], b ∉ as)
    (hb : ∀ b ∈ [Block.fault, .events], b ∉ bs) : FaultOffered kind port kindByte detail s t := by
  have time : u.time = s.time := before.keep .time (ha _ (by decide))
  have fault : u.fault = s.fault := before.keep .fault (ha _ (by decide))
  have events : u.events = s.events := before.keep .events (ha _ (by decide))
  have fault' : t.fault = v.fault := after.keep .fault (hb _ (by decide))
  have events' : t.events = v.events := after.keep .events (hb _ (by decide))
  simpa only [FaultOffered, Raised, State.faultAfter, time, fault, events, fault', events'] using f

theorem State.offerFault_offered (kind : FaultKind) (port : FaultPort) (kindByte detail : Nat) (h : s.mainRuns = true) :
    FaultOffered kind port kindByte detail s (s.offerFault kind port kindByte detail) := by
  refine ⟨by rw [State.offerFault_fault, if_pos h], ?_⟩
  rw [Raised, State.offerFault_events]
  cases s.fault <;> simp [h]

theorem State.offerFault_held (kind : FaultKind) (port : FaultPort) (kindByte detail : Nat) (h : s.mainRuns = false) :
    s.offerFault kind port kindByte detail = s := by
  simp [State.offerFault, h]

/-! ## Closing the pulse count (R33, R34) -/

/-- The admitted pulses in the shift totals and in the trip: the closing without its overrate fault. -/
def State.sharePulses (s : State) : State :=
  let s1 := s.withStore { s.store with totals := s.store.totals.take s.admitted s.meter.onTrip }
  if s.meter.onTrip then s1.mapTrip (Trip.take s.admitted (decide (Config.clamp < s.pulses))) else s1

theorem State.only_sharePulses (s : State) : OnlyChanges [.store, .meter] s s.sharePulses := by
  have stored : ∀ v, OnlyChanges [.store, .meter] s (s.withStore v) := fun v =>
    (OnlyChanges.refl s).withStore (by decide)
  unfold State.sharePulses
  split
  · exact (stored _).mapTrip _ (by decide)
  · exact stored _

theorem State.closePulses_eq : s.closePulses =
    (if 4095 < s.pulses then s.sharePulses.offerFault .distOverrate .none 0 s.pulses else s.sharePulses).withPulses 0 := by
  simp only [State.closePulses, State.sharePulses, decide_eq_true_eq]

theorem State.closePulses_overrate (h : 4095 < s.pulses) (m : s.mainRuns = true) :
    FaultOffered .distOverrate .none 0 s.pulses s s.closePulses := by
  have share := s.only_sharePulses
  have m' : s.sharePulses.mainRuns = true := (share.mainRuns_eq (by decide)).trans m
  rw [State.closePulses_eq, if_pos h]
  exact (State.offerFault_offered _ _ _ _ m').of_unchanged share
    ((OnlyChanges.refl _).withPulses (bs := [.pulses]) (by decide)) (by decide) (by decide)

/-- Without an overrate, or with fault capture unpowered or in reset, the closing offers nothing (R34, R190). -/
theorem State.closePulses_silent (h : s.pulses ≤ 4095 ∨ s.mainRuns = false) :
    OnlyChanges [.pulses, .store, .meter] s s.closePulses := by
  have share := s.only_sharePulses
  have closed : OnlyChanges [.pulses, .store, .meter] s (s.sharePulses.withPulses 0) :=
    (share.mono (by decide)).withPulses (by decide)
  rw [State.closePulses_eq]
  split
  next excess =>
    have held : s.sharePulses.mainRuns = false := (share.mainRuns_eq (by decide)).trans (h.resolve_left (by omega))
    rwa [State.offerFault_held _ _ _ _ held]
  next => exact closed

theorem State.closePulses_meter_state : s.closePulses.meter.state = s.meter.state := by
  rw [State.closePulses_meter]
  split <;> rfl

theorem Meter.onTrip_iff {m : Meter} : m.onTrip = true ↔ m.state = .hired ∨ m.state = .total := by
  simp [Meter.onTrip]

theorem Meter.onTrip_eq_false {m : Meter} (h : m.state = .off ∨ m.state = .vacant ∨ m.state = .assigned) :
    m.onTrip = false := by
  rcases h with h | h | h <;> simp [Meter.onTrip, h]

/-! ## The parts of a meter second (R36, log 15) -/

theorem State.fareSecond_meter (d : Nat) : (s.fareSecond d).meter =
    if s.meter.state = .hired then
      { s.meter with trip := s.meter.trip.map fun x => if x.gateOpen then x.progress d else x }
    else s.meter := by
  unfold State.fareSecond
  split <;> rfl

theorem State.fareSecond_store (d : Nat) : (s.fareSecond d).store = s.store :=
  (State.only_fareSecond d s).keep .store (by decide)

theorem State.fareSecond_emergency (d : Nat) : (s.fareSecond d).emergency = s.emergency :=
  (State.only_fareSecond d s).keep .emergency (by decide)

/-- Fare progress sees the meter alone, and not the clock. -/
theorem State.fareSecond_meter_congr {u : State} (d : Nat) (h : u.meter = s.meter) :
    (u.fareSecond d).meter = (s.fareSecond d).meter := by
  rw [State.fareSecond_meter, State.fareSecond_meter, h]

theorem State.fareSecond_of_not_hired (d : Nat) (h : s.meter.state ≠ .hired) : s.fareSecond d = s := if_neg h

/-- The part of a meter second that the retained domain carries out. -/
def State.retainedSecond (s : State) : State :=
  let u := s.closePulses.withTime { s.closePulses.time with clock := s.closePulses.time.clock.next }
  let t := u.fareSecond s.admitted
  (t.withEmergency t.emergency.second).withSender t.store.sender.second

/-- The part that the main domain carries out while it works. -/
def State.mainSecond (s : State) : State :=
  (s.offersSecond.withLink s.offersSecond.link.second).withLoader s.offersSecond.loader.second

theorem State.second_holding (h : s.monitor.holding = true) : s.second = s := if_pos h

theorem State.second_running (h : s.monitor.holding = false) :
    s.second = s.retainedSecond.whenMain State.mainSecond := by
  simp only [State.second, h]
  rfl

/-- From the closed count on, the retained domain's second leaves the count, fault capture and the flags alone. -/
theorem State.only_afterClose (s : State) :
    OnlyChanges [.time, .meter, .emergency, .store] s.closePulses s.retainedSecond :=
  have priced := ((OnlyChanges.refl s.closePulses).withTime (by decide)).fareSecond s.admitted (by decide)
  (priced.withEmergency (by decide)).withSender _ (by decide)

theorem State.only_retainedSecond (s : State) :
    OnlyChanges [.time, .pulses, .meter, .store, .emergency, .events, .fault] s s.retainedSecond :=
  (s.only_closePulses.trans s.only_afterClose).mono (by decide)

theorem State.only_mainSecond (s : State) : OnlyChanges [.offers, .link, .loader] s s.mainSecond :=
  (((OnlyChanges.refl s).offersSecond (by decide)).withLink (by decide)).withLoader (by decide)

theorem State.only_whenMain {bs : List Block} {f : State → State} (h : OnlyChanges bs s (f s)) :
    OnlyChanges bs s (s.whenMain f) := by
  unfold State.whenMain
  split
  · exact h
  · exact .refl s

/-- What the main domain does in a second is the offers, the link and the loader. -/
theorem State.only_second_main (h : s.monitor.holding = false) :
    OnlyChanges [.offers, .link, .loader] s.retainedSecond s.second := by
  rw [State.second_running h]
  exact State.only_whenMain (State.only_mainSecond _)

theorem State.second_mainRuns (h : s.monitor.holding = false) (m : s.mainRuns = true) :
    s.second = s.retainedSecond.mainSecond := by
  have m' : s.retainedSecond.mainRuns = true := (s.only_retainedSecond.mainRuns_eq (by decide)).trans m
  rw [State.second_running h, State.whenMain, if_pos m']

/-! ## A meter second, block by block -/

section Running
variable (h : s.monitor.holding = false)
include h

theorem State.second_pulses : s.second.pulses = 0 := by
  have main : s.second.pulses = s.retainedSecond.pulses := (State.only_second_main h).keep .pulses (by decide)
  have closed : s.retainedSecond.pulses = s.closePulses.pulses := s.only_afterClose.keep .pulses (by decide)
  rw [main, closed, State.closePulses_pulses]

theorem State.second_time : s.second.time = { s.time with clock := s.time.clock.next } := by
  have main : s.second.time = s.retainedSecond.time := (State.only_second_main h).keep .time (by decide)
  have fare : s.retainedSecond.time = { s.closePulses.time with clock := s.closePulses.time.clock.next } :=
    (State.only_fareSecond _ _).keep .time (by decide)
  have closed : s.closePulses.time = s.time := s.only_closePulses.keep .time (by decide)
  rw [main, fare, closed]

theorem State.second_store : s.second.store = { s.store with
    totals := s.store.totals.take s.admitted s.meter.onTrip, sender := s.store.sender.second } := by
  have main : s.second.store = s.retainedSecond.store := (State.only_second_main h).keep .store (by decide)
  have fare : s.retainedSecond.store = { s.closePulses.store with sender := s.closePulses.store.sender.second } := by
    simp [State.retainedSecond, State.withSender, State.fareSecond_store]
  rw [main, fare, State.closePulses_store]

theorem State.second_emergency : s.second.emergency = s.emergency.second := by
  have main : s.second.emergency = s.retainedSecond.emergency := (State.only_second_main h).keep .emergency (by decide)
  have fare : s.retainedSecond.emergency = s.closePulses.emergency.second := by
    simp [State.retainedSecond, State.withSender, State.fareSecond_emergency]
  have closed : s.closePulses.emergency = s.emergency := s.only_closePulses.keep .emergency (by decide)
  rw [main, fare, closed]

theorem State.second_meter : s.second.meter = (s.closePulses.fareSecond s.admitted).meter := by
  have main : s.second.meter = s.retainedSecond.meter := (State.only_second_main h).keep .meter (by decide)
  have fare : s.retainedSecond.meter = (s.closePulses.fareSecond s.admitted).meter :=
    State.fareSecond_meter_congr _ rfl
  rw [main, fare]

theorem State.second_meter_of_not_hired (n : s.meter.state ≠ .hired) : s.second.meter = s.closePulses.meter := by
  rw [State.second_meter h, State.fareSecond_of_not_hired _ (by rwa [State.closePulses_meter_state])]

/-- Outside HIRED and TOTAL the meter does not see the second (R11). -/
theorem State.second_meter_idle (i : s.meter.state = .off ∨ s.meter.state = .vacant ∨ s.meter.state = .assigned) :
    s.second.meter = s.meter := by
  have n : s.meter.state ≠ .hired := by rcases i with i | i | i <;> simp [i]
  rw [State.second_meter_of_not_hired h n, State.closePulses_meter, Meter.onTrip_eq_false i]
  rfl

/-- In TOTAL the admitted pulses enter the trip, and no fare does (R12, R36). -/
theorem State.second_meter_total {x : Trip} (i : s.meter.state = .total) (k : s.meter.trip = some x) :
    s.second.meter = { s.meter with trip := some (x.take s.admitted (decide (4095 < s.pulses))) } := by
  have n : s.meter.state ≠ .hired := by simp [i]
  rw [State.second_meter_of_not_hired h n, State.closePulses_meter, if_pos (Meter.onTrip_iff.mpr (.inr i)), k]
  rfl

theorem State.second_overrate (o : 4095 < s.pulses) (m : s.mainRuns = true) :
    FaultOffered .distOverrate .none 0 s.pulses s s.second :=
  (State.closePulses_overrate o m).of_unchanged (OnlyChanges.refl (bs := []) s)
    (s.only_afterClose.trans (State.only_second_main h)) (by decide) (by decide)

theorem State.second_silent (o : s.pulses ≤ 4095 ∨ s.mainRuns = false) :
    s.second.fault = s.fault ∧ s.second.events = s.events := by
  have only := ((State.closePulses_silent o).trans s.only_afterClose).trans (State.only_second_main h)
  exact ⟨only.keep .fault (by decide), only.keep .events (by decide)⟩

theorem State.second_link (m : s.mainRuns = true) : s.second.link = s.link.second := by
  have retained : s.retainedSecond.link = s.link := s.only_retainedSecond.keep .link (by decide)
  rw [State.second_mainRuns h m, ← retained]
  rfl

theorem State.second_loader (m : s.mainRuns = true) : s.second.loader = s.loader.second := by
  have retained : s.retainedSecond.loader = s.loader := s.only_retainedSecond.keep .loader (by decide)
  rw [State.second_mainRuns h m, ← retained]
  rfl

theorem State.second_offers (m : s.mainRuns = true) : s.second.offers = { s.offers with
    entries := s.offers.entries.map (OfferEntry.second (s.offers.bid.any fun b => b.stage = .sent)) } := by
  have retained : s.retainedSecond.offers = s.offers := s.only_retainedSecond.keep .offers (by decide)
  rw [State.second_mainRuns h m, ← retained]
  rfl

end Running

/-! ## What the timers of the blocks do in a second -/

/-- R67, R70, R71: the lifetime runs in SHOWN, and in BID until the bid is sent; then the award wait runs. -/
theorem OfferEntry.second_eq (bid : Option BidRecord) (e : OfferEntry) :
    e.second (bid.any fun b => b.stage = .sent) =
      if e.state = .shown ∨ e.state = .bid ∧ ¬ (∃ b, bid = some b ∧ b.stage = .sent) then
        { e with lifetime := e.lifetime - 1 }
      else if e.state = .bid then { e with waiting := e.waiting.map (· - 1) }
      else e := by
  have sent : (bid.any fun b => b.stage = .sent) = decide (∃ b, bid = some b ∧ b.stage = .sent) := by
    cases bid <;> simp
  rw [sent]
  cases hs : e.state with
  | bid => by_cases hb : ∃ b, bid = some b ∧ b.stage = .sent <;> simp [OfferEntry.second, hs, hb]
  | _ => simp [OfferEntry.second, hs]

theorem Sender.second_of_not_sent {x : Sender} (h : ∀ n k, x ≠ .sent n k) : x.second = x := by
  cases x with
  | sent n k => exact absurd rfl (h n k)
  | idle => rfl
  | queued n => rfl

theorem Emergency.second_raised {e : Emergency} (h : e.state = .active ∨ e.state = .acked) :
    e.second = { e with elapsed := min 65535 (e.elapsed + 1), interval := e.interval.map (· - 1) } := by
  rcases h with h | h <;> simp [Emergency.second, EmergencyState.raised, h, satAdd]

theorem Emergency.second_quiet {e : Emergency} (h : e.state = .clear ∨ e.state = .pressing) : e.second = e := by
  rcases h with h | h <;> simp [Emergency.second, EmergencyState.raised, h]

/-! ## The two commands -/

theorem exec_distPulse_running (h : s.monitor.holding = false) :
    exec .distPulse s = .next (s.updateCheck s.countPulse).drive := by
  simp [exec, execDistPulse, State.whenRetained, h, done]

theorem exec_distPulse_holding (h : s.monitor.holding = true) : exec .distPulse s = .next (s.updateCheck s).drive := by
  simp [exec, execDistPulse, State.whenRetained, h, done]

/-- A command that changes nothing moves the output lines at most (log 21). -/
theorem State.only_ended_self (s : State) : OnlyChanges [.pins] s (s.updateCheck s).drive :=
  (OnlyChanges.refl s).endedMain (by decide) (by decide)

theorem State.only_countPulse (s : State) : OnlyChanges [.pulses, .check, .pins] s (s.updateCheck s.countPulse).drive :=
  ((OnlyChanges.refl s).withPulses (by decide)).ended (by decide) (by decide)

/-- R33: a pulse counts, unless the retained domain holds still (R191). -/
theorem distPulse_counts (s : State) : ∃ t, exec .distPulse s = .next t
    ∧ (s.monitor.holding = false → OnlyChanges [.pulses, .check, .pins] s t ∧ t.pulses = min 65535 (s.pulses + 1))
    ∧ (s.monitor.holding = true → OnlyChanges [.pins] s t) := by
  cases h : s.monitor.holding with
  | false => exact ⟨_, exec_distPulse_running h, fun _ => ⟨s.only_countPulse, rfl⟩, nofun⟩
  | true => exact ⟨_, exec_distPulse_holding h, nofun, fun _ => s.only_ended_self⟩

theorem exec_meterSecond (s : State) : exec .meterSecond s = .next (s.updateCheck s.second).drive := rfl

/-- R1, R36: outside the retained check and the output lines, `State.second` is all that METER_SECOND does. -/
theorem State.only_ended_second (s : State) :
    OnlyChanges [.time, .pulses, .meter, .store, .emergency, .offers, .link, .loader, .fault, .events, .check, .pins] s
      (s.updateCheck s.second).drive :=
  OnlyChanges.ended (s.only_second.mono (by decide)) (by decide) (by decide)

theorem meterSecond_holding (h : s.monitor.holding = true) : OnlyChanges [.pins] s (s.updateCheck s.second).drive := by
  rw [State.second_holding h]
  exact s.only_ended_self

/-- The end of a command adds to what it did the retained check and the output lines alone. -/
theorem State.only_ended (s u : State) : OnlyChanges [.check, .pins] u (s.updateCheck u).drive :=
  ((OnlyChanges.refl u).withCheck (by decide)).drive (by decide)

/-- Settles O26, block by block from the lemmas on `State.second`: the end of the command keeps each of those blocks. -/
theorem secondTakesEffect : Obligations.SecondTakesEffect := by
  refine ⟨fun s => ⟨distPulse_counts s, _, exec_meterSecond s, meterSecond_holding, ?running⟩,
    fun s h => ⟨_, exec_meterSecond s, ?_⟩⟩
  case running =>
    rintro h d rfl
    have known : s.second.time.known = s.time.known := by rw [State.second_time h]
    have clock : s.second.time.clock = s.time.clock.next := by rw [State.second_time h]
    have records : s.second.store.records = s.store.records := by rw [State.second_store h]
    have report : s.second.store.pendingReport = s.store.pendingReport := by rw [State.second_store h]
    have totals : s.second.store.totals = s.store.totals.take s.admitted s.meter.onTrip := by rw [State.second_store h]
    refine ⟨s.only_ended_second, State.second_pulses h, known, clock, records, report, totals.trans ?_,
      State.second_meter_idle h, fun x => State.second_meter_total h, fun o m => ?_, State.second_silent h⟩
    · simp only [ShiftTotals.take, satAdd, State.admitted, Meter.onTrip_iff]
    · exact (State.second_overrate h o m).of_unchanged (OnlyChanges.refl (bs := []) s) (s.only_ended _) (by decide)
        (by decide)
  have sender : s.second.store.sender = s.store.sender.second := by rw [State.second_store h]
  refine ⟨?sentTimer, ?noTimer, ?raised, ?quiet, ?mainDomain⟩
  case sentTimer =>
    intro n k sent
    exact sender.trans (congrArg Sender.second sent)
  case noTimer =>
    intro notSent
    exact sender.trans (Sender.second_of_not_sent notSent)
  case raised => exact fun e => (State.second_emergency h).trans (Emergency.second_raised e)
  case quiet => exact fun e => (State.second_emergency h).trans (Emergency.second_quiet e)
  case mainDomain =>
    refine fun m => ⟨State.second_link h m, State.second_loader h m, (State.second_offers h m).trans ?_⟩
    exact congrArg (fun es => { s.offers with entries := es })
      (List.map_congr_left fun e _ => OfferEntry.second_eq s.offers.bid e)

end Sys2Proof.Machine
end

section
/-! PROOFS. The statements of 01_fare_meter.md: how a whole command is framed, and what a step can do to the meter. -/

namespace Sys2Proof.Machine

variable {s t u : State} {bs : List Block}

/-! ## The blocks a whole command can change -/

theorem only_done (h : OnlyChanges bs s u) (e : done s u = .next t) (mp : Block.pins ∈ bs) (mc : Block.check ∈ bs) :
    OnlyChanges bs s t := by
  obtain rfl : (s.updateCheck u).drive = t := Host.Outcome.next.inj e
  exact h.ended mp mc

theorem State.only_whenRetained {f : State → State} (h : OnlyChanges bs s (f s)) :
    OnlyChanges bs s (s.whenRetained f) := by
  unfold State.whenRetained
  split
  · exact .refl s
  · exact h

theorem only_handed {α : Type} {fields : Except Nat α} {owner : α → State → State}
    (h : ∀ v u, OnlyChanges bs u (owner v u)) (u : State) : OnlyChanges bs u (handed fields owner u) := by
  cases fields with
  | ok v => exact h v u
  | error _ => exact .refl u

theorem only_serve {α : Type} {kind tag : Byte} {args : Option α} {owner : α → State → State × Answer}
    (h : ∀ a, OnlyChanges bs s (owner a s).1) (e : serve kind tag args owner s = .next t)
    (m : ∀ b ∈ [Block.terminal, .pins, .check], b ∈ bs) : OnlyChanges bs s t := by
  have reply : ∀ b ∈ [Block.terminal], b ∈ bs := fun b hb => m b (by simp_all)
  have pins : Block.pins ∈ bs := m _ (by decide)
  have check : Block.check ∈ bs := m _ (by decide)
  cases hm : s.mainRuns with
  | false => exact only_done (.refl s) ((serve_held kind tag args owner hm).symm.trans e) pins check
  | true =>
    cases args with
    | none =>
      exact only_done (.putReply _ _ _ (.refl s) reply) ((serve_malformed kind tag owner hm).symm.trans e) pins check
    | some a => exact only_done (.putReply _ _ _ (h a) reply) ((serve_served kind tag a owner hm).symm.trans e) pins check

/-- A block that is none of the meter, the Condition Monitor and the waiting commands. -/
def Block.offMeter : Block → Bool
  | .meter | .monitor | .pending => false
  | _ => true

/-- Two states with the same meter, Condition Monitor and waiting commands. -/
def OffMeter (s t : State) : Prop := ∀ b : Block, b.offMeter = false → b.same s t

theorem OnlyChanges.toOffMeter (h : OnlyChanges bs s t) (m : bs.all Block.offMeter = true) : OffMeter s t :=
  fun b hb => h.keep b fun hm => by simp [List.all_eq_true.mp m b hm] at hb

/-- The commands that can change the meter or the supply. -/
def reachesMeter : Instr → Bool
  | .jobCancel _ _ | .hire _ _ | .endTrip _ _ | .paid _ _ | .holdOn _ _ | .holdOff _ _ | .extra _ _ | .shiftOpen _ _
  | .shiftClose _ _ | .offerWithdraw _ _ | .award _ _ | .activation | .escalation | .ignDebounceEnd | .timerTick _
  | .meterSecond | .shedEntry | .supplyReturn | .powerUp | .mainReset _ => true
  | _ => false

theorem done_offMeter (h : OnlyChanges bs s u) (m : bs.all Block.offMeter = true) (e : done s u = .next t) :
    OffMeter s t := by
  have ended : OnlyChanges (bs ++ [.pins, .check]) s t :=
    only_done (h.mono fun _ hb => List.mem_append_left _ hb) e (by simp) (by simp)
  exact ended.toOffMeter (by rw [List.all_append, m]; rfl)

/-- A request whose owner keeps off the meter keeps off it. -/
theorem serve_offMeter {α : Type} {kind tag : Byte} {args : Option α} {owner : α → State → State × Answer}
    (h : ∀ a, OnlyChanges bs s (owner a s).1) (m : bs.all Block.offMeter = true)
    (e : serve kind tag args owner s = .next t) : OffMeter s t := by
  have served : OnlyChanges (bs ++ [.terminal, .pins, .check]) s t :=
    only_serve (fun a => (h a).mono fun _ hb => List.mem_append_left _ hb) e (fun _ hb => List.mem_append_right _ hb)
  exact served.toOffMeter (by rw [List.all_append, m]; rfl)

/-- So does a frame. -/
theorem receive_offMeter {k : DownKind} {hdr : AirHeader} {payload : List Byte} {owner : State → State}
    (h : ∀ u, OnlyChanges bs u (owner u)) (m : bs.all Block.offMeter = true)
    (e : done s (s.receive k hdr payload owner) = .next t) : OffMeter s t := by
  have received : OnlyChanges (bs ++ [.link, .events, .fault]) s (s.receive k hdr payload owner) :=
    State.only_receive k hdr payload owner s (fun u => (h u).mono fun _ hb => List.mem_append_left _ hb)
      fun _ hb => List.mem_append_right _ hb
  exact done_offMeter received (by rw [List.all_append, m]; rfl) e

end Sys2Proof.Machine
end

section
/-! PROOFS. What the owners of the requests and frames that keep off the meter can change. -/

namespace Sys2Proof.Machine

variable (s : State)

/-! ## The Offer Unit's and the Message Store's requests -/

theorem State.only_acceptOffer (id : Nat) : OnlyChanges [.offers, .arbiter] s (s.acceptOffer id).1 := by
  have bid : OnlyChanges [.offers, .arbiter] s (s.placeBid id) :=
    .withBid _ (.enqueue _ (.setEntry _ _ (.refl s) (by decide)) (by decide)) (by decide)
  unfold State.acceptOffer
  repeat' split
  case h_2.isFalse.isFalse.isFalse.isFalse => exact bid
  all_goals exact .refl s

theorem State.only_dismissOffer (id : Nat) : OnlyChanges [.offers] s (s.dismissOffer id).1 := by
  unfold State.dismissOffer
  repeat' split
  case h_2.isFalse => exact .withEntries _ (.refl s) (by decide)
  all_goals exact .refl s

theorem State.only_position (zone : Nat) : OnlyChanges [.offers] s (s.position zone).1 := by
  unfold State.position
  split
  · exact .refl s
  · exact (OnlyChanges.refl s).withOffers (by decide)

theorem State.only_readByDriver (id : Nat) : OnlyChanges [.messages, .arbiter] s (s.readByDriver id).1 := by
  have marked : ∀ m : Message, OnlyChanges [.messages, .arbiter] s (s.markRead m) := by
    intro m
    have read : OnlyChanges [.messages, .arbiter] s (s.mapMessage m.id fun x => { x with state := .read }) :=
      .mapMessage _ _ (.refl s) (by decide)
    unfold State.markRead
    dsimp only
    split
    · exact .oweReceipt _ _ read (by decide)
    · exact read
  unfold State.readByDriver
  repeat' split
  case h_2.isTrue => exact marked _
  all_goals exact .refl s

theorem State.only_answerByDriver (a : Nat × Nat) : OnlyChanges [.messages, .arbiter] s (s.answerByDriver a).1 := by
  unfold State.answerByDriver
  repeat' split
  case h_2.isFalse.isTrue => exact .oweReceipt _ _ (.mapMessage _ _ (.refl s) (by decide)) (by decide)
  all_goals exact .refl s

theorem State.only_sendDriver (body : DriverText) : OnlyChanges [.messages, .arbiter] s (s.sendDriver body).1 := by
  unfold State.sendDriver
  split
  · exact (OnlyChanges.enqueue _ (.refl s) (by decide)).withMessages (by decide)
  · exact .refl s

/-! ## The Terminal Port's requests and frames -/

theorem State.only_readPass : OnlyChanges [.terminal] s s.readPass.1 := by
  unfold State.readPass
  split
  · exact .refl s
  · exact (OnlyChanges.refl s).withTerminal (by decide)

theorem State.only_passUp (data : List Byte) : OnlyChanges [.arbiter, .terminal] s (s.passUp data).1 := by
  unfold State.passUp
  split
  · exact (OnlyChanges.enqueue _ (.refl s) (by decide)).withTerminal (by decide)
  · exact .refl s

theorem State.only_passArrives (mode : Byte) (data : List Byte) :
    OnlyChanges [.terminal, .events] s (s.passArrives mode data) := by
  unfold State.passArrives
  split
  · exact .raise _ ((OnlyChanges.refl s).withTerminal (by decide)) (by decide)
  · exact .raise _ ((OnlyChanges.refl s).withTerminal (by decide)) (by decide)

theorem State.only_rejectLocal (bytes : List Byte) :
    OnlyChanges [.fault, .events, .terminal] s (s.rejectLocal bytes) := by
  have offered : ∀ d, OnlyChanges [.fault, .events, .terminal] s
      (s.offerFault .terminalMalformed .terminal (byteAt bytes 0) d) := fun d =>
    .offerFault _ _ _ _ (.refl s) (by decide)
  unfold State.rejectLocal
  dsimp only
  split
  · exact .refl s
  · split
    · exact .refl s
    · split
      · exact .putReply _ _ _ (offered _) (by decide)
      · exact offered _

/-! ## Loads of the terminal -/

theorem State.only_strayLoad (bs : List Block) : OnlyChanges bs s s.strayLoad.1 := by
  unfold State.strayLoad
  split <;> exact .refl s

theorem State.only_localOpen (svc : Bool) (f : OpenFields) :
    OnlyChanges [.loader, .arbiter, .terminal, .events] s (s.localOpen svc f).1 := by
  unfold State.localOpen
  split
  · exact .refl s
  · split
    · exact .openLoad _ _ (.refl s) (by decide)
    · split
      · exact State.only_reopen _ f s
      · exact .refl s

theorem State.only_localSegment (f : SegmentFields) :
    OnlyChanges [.loader, .arbiter, .terminal, .events] s (s.localSegment f).1 := by
  unfold State.localSegment
  split
  · exact State.only_takeSegment _ f s
  · exact s.only_strayLoad _

theorem State.only_localCommit (svc : Bool) (f : CommitFields) :
    OnlyChanges [.loader, .arbiter, .terminal, .events, .addresses, .zones, .tariff, .settings, .roof, .offers, .link,
      .identity] s (s.localCommit svc f).1 := by
  unfold State.localCommit
  split
  · exact State.only_commitLoad _ _ svc s
  · exact s.only_strayLoad _

theorem State.only_localAbort (f : AbortFields) :
    OnlyChanges [.loader, .arbiter, .terminal, .events] s (s.localAbort f).1 := by
  unfold State.localAbort
  split
  · exact State.only_abortLoad _ s
  · exact s.only_strayLoad _

/-! ## Loads of the air port -/

theorem State.only_airSegment (f : SegmentFields) :
    OnlyChanges [.loader, .arbiter, .terminal, .events] s (s.airSegment f) := by
  unfold State.airSegment
  split
  · exact State.only_takeSegment _ f s
  · exact .refl s

theorem State.only_airCommit (f : CommitFields) :
    OnlyChanges [.loader, .arbiter, .terminal, .events, .addresses, .zones, .tariff, .settings, .roof, .offers, .link,
      .identity] s (s.airCommit f) := by
  unfold State.airCommit
  split
  · exact State.only_commitLoad _ _ false s
  · exact .refl s

theorem State.only_airAbort (f : AbortFields) :
    OnlyChanges [.loader, .arbiter, .terminal, .events] s (s.airAbort f) := by
  unfold State.airAbort
  split
  · exact State.only_abortLoad _ s
  · exact .refl s

/-! ## Steps of the retained domain -/

theorem State.only_expireAck : OnlyChanges [.store, .arbiter] s s.expireAck := by
  unfold State.expireAck
  split
  · exact .placeTotal (.withSender _ (.refl s) (by decide)) (by decide)
  · exact .refl s

theorem State.only_reportSeat : OnlyChanges [.seat, .events] s s.reportSeat := by
  unfold State.reportSeat
  split
  · exact .raise _ ((OnlyChanges.refl s).withSeat (by decide)) (by decide)
  · exact .refl s

theorem State.only_toggleRoof : OnlyChanges [.roof] s s.toggleRoof := (OnlyChanges.refl s).withRoof (by decide)

variable {s} {t : State}

/-! ## The commands that keep off the meter -/

/-- A command that does not reach the meter leaves the meter and the Condition Monitor as they are. -/
theorem exec_offMeter (c : Instr) (h : reachesMeter c = false) (e : exec c s = .next t) : OffMeter s t := by
  cases c with
  | jobCancel | hire | endTrip | paid | holdOn | holdOff | extra | shiftOpen | shiftClose | offerWithdraw | award
  | activation | escalation | ignDebounceEnd | timerTick | meterSecond | shedEntry | supplyReturn | powerUp
  | mainReset => exact nomatch h
  | readStatus | readNotices | readOffers | readMeter | readStore | readMessage | readFault =>
    exact serve_offMeter (bs := []) (fun _ => .refl s) rfl e
  | clearEvents | noticeSetup =>
    exact serve_offMeter (bs := [.events]) (fun _ => (OnlyChanges.refl s).withEvents (by decide)) rfl e
  | accept => exact serve_offMeter s.only_acceptOffer rfl e
  | dismiss => exact serve_offMeter s.only_dismissOffer rfl e
  | position => exact serve_offMeter s.only_position rfl e
  | msgRead => exact serve_offMeter s.only_readByDriver rfl e
  | msgAnswer => exact serve_offMeter s.only_answerByDriver rfl e
  | driverMsg => exact serve_offMeter s.only_sendDriver rfl e
  | readPass => exact serve_offMeter (fun _ => s.only_readPass) rfl e
  | passUp => exact serve_offMeter s.only_passUp rfl e
  | releaseFault =>
    exact serve_offMeter (bs := [.fault]) (fun _ => (OnlyChanges.refl s).withFault (by decide)) rfl e
  | localTableOpen svc => exact serve_offMeter (s.only_localOpen svc) rfl e
  | localTableSegment => exact serve_offMeter s.only_localSegment rfl e
  | localTableCommit svc => exact serve_offMeter (s.only_localCommit svc) rfl e
  | localTableAbort => exact serve_offMeter s.only_localAbort rfl e
  | softReset => exact serve_offMeter (owner := fun _ t => t.softReset.answered []) (fun _ => s.only_softReset) rfl e
  | localFrameMalformed bytes => exact done_offMeter (State.only_whenMain (s.only_rejectLocal bytes)) rfl e
  | startMarker => exact done_offMeter s.only_startMarker rfl e
  | airFrameRejected bytes => exact done_offMeter (s.only_rejectFrame bytes) rfl e
  | offer hdr =>
    exact receive_offMeter (only_handed fun v u => u.only_offerArrives (offerZone hdr) v) rfl e
  | refuse => exact receive_offMeter (only_handed fun v u => u.only_refuseArrives v) rfl e
  | message => exact receive_offMeter (only_handed fun v u => u.only_messageArrives v) rfl e
  | messageRecall => exact receive_offMeter (only_handed fun v u => u.only_recallMessage v) rfl e
  | cycle => exact receive_offMeter (only_handed fun v u => u.only_takeCycle v) rfl e
  | statusPoll => exact receive_offMeter State.only_pollArrives rfl e
  | airTableOpen => exact receive_offMeter (only_handed fun v u => u.only_airOpen v) rfl e
  | airTableSegment => exact receive_offMeter (only_handed fun v u => u.only_airSegment v) rfl e
  | airTableCommit => exact receive_offMeter (only_handed fun v u => u.only_airCommit v) rfl e
  | airTableAbort => exact receive_offMeter (only_handed fun v u => u.only_airAbort v) rfl e
  | totalAck => exact receive_offMeter (only_handed fun v u => u.only_acknowledge v) rfl e
  | emergencyAck => exact receive_offMeter State.only_acknowledgeEmergency rfl e
  | emergencyClear => exact receive_offMeter State.only_clearEmergency rfl e
  | pass hdr => exact receive_offMeter (only_handed fun v u => u.only_passArrives hdr.mode v) rfl e
  | grant => exact done_offMeter s.only_makeGrant rfl e
  | txDone => exact done_offMeter s.only_takeDone rfl e
  | txFail withDone => exact done_offMeter (s.only_takeFail withDone) rfl e
  | responseTimerExpiry => exact done_offMeter s.only_expireResponse rfl e
  | settleTimerExpiry => exact done_offMeter s.only_expireSettle rfl e
  | placeAppears order => exact done_offMeter (State.only_whenMain (s.only_offerAgain order)) rfl e
  | ackTimerExpiry => exact done_offMeter (State.only_whenRetained s.only_expireAck) rfl e
  | linkLossTimerExpiry => exact done_offMeter (State.only_whenMain s.only_loseLink) rfl e
  | offerLifetimeExpiry id => exact done_offMeter (State.only_whenMain (s.only_expireShown id)) rfl e
  | bidLifetimeExpiry => exact done_offMeter (State.only_whenMain s.only_expireBid) rfl e
  | awardWaitExpiry => exact done_offMeter (State.only_whenMain s.only_expireAward) rfl e
  | inactivityTimerExpiry => exact done_offMeter (State.only_whenMain s.only_expireLoad) rfl e
  | intervalTimerExpiry => exact done_offMeter (State.only_whenRetained s.only_expireInterval) rfl e
  | seatCheck => exact done_offMeter (State.only_whenRetained s.only_reportSeat) rfl e
  | roofBlinkToggle => exact done_offMeter (State.only_whenRetained s.only_toggleRoof) rfl e
  | distPulse =>
    exact done_offMeter (bs := [.pulses]) (State.only_whenRetained ((OnlyChanges.refl s).withPulses (by decide)))
      rfl e

end Sys2Proof.Machine
end

section
/-! PROOFS. What a step can do to the meter, and from that what belongs to each meter state (R2, R12) and what a trip
keeps from HIRE to PAID (R10). -/

namespace Sys2Proof.Machine

variable {s t u : State} {x y z : Trip}

/-! ## A trip that runs on (R10, R33, R36) -/

/-- A trip whose figures are within their limits (R10). -/
structure Trip.Within (x : Trip) : Prop where
  fare : x.fare ≤ 999999
  extrasTotal : x.extrasTotal ≤ 999999
  increments : x.increments ≤ 999999
  pulses : x.pulses ≤ 4294967295
  gatedPulses : x.gatedPulses ≤ 4294967295

/-- A trip that keeps what HIRE copied and whose figures and flags only grow, within their limits (R10). -/
structure Trip.Grows (x y : Trip) : Prop where
  number : y.number = x.number
  jobId : y.jobId = x.jobId
  band : y.band = x.band
  copy : y.copy = x.copy
  version : y.version = x.version
  startClock : y.startClock = x.startClock
  amounts : y.extras.map TripExtra.amount = x.extras.map TripExtra.amount
  within : y.Within
  fare : x.fare ≤ y.fare
  extrasTotal : x.extrasTotal ≤ y.extrasTotal
  increments : x.increments ≤ y.increments
  pulses : x.pulses ≤ y.pulses
  gatedPulses : x.gatedPulses ≤ y.gatedPulses
  flags : ∀ f ∈ [TripFlags.fareCapped, TripFlags.timeUnknown, TripFlags.holdUsed, TripFlags.emergencyDuring,
    TripFlags.distOverrate], f x.flags = true → f y.flags = true

theorem Trip.Grows.refl (h : x.Within) : x.Grows x where
  number := rfl
  jobId := rfl
  band := rfl
  copy := rfl
  version := rfl
  startClock := rfl
  amounts := rfl
  within := h
  fare := le_rfl
  extrasTotal := le_rfl
  increments := le_rfl
  pulses := le_rfl
  gatedPulses := le_rfl
  flags := fun _ _ => id

theorem Trip.Grows.trans (h : x.Grows y) (k : y.Grows z) : x.Grows z where
  number := k.number.trans h.number
  jobId := k.jobId.trans h.jobId
  band := k.band.trans h.band
  copy := k.copy.trans h.copy
  version := k.version.trans h.version
  startClock := k.startClock.trans h.startClock
  amounts := k.amounts.trans h.amounts
  within := k.within
  fare := h.fare.trans k.fare
  extrasTotal := h.extrasTotal.trans k.extrasTotal
  increments := h.increments.trans k.increments
  pulses := h.pulses.trans k.pulses
  gatedPulses := h.gatedPulses.trans k.gatedPulses
  flags := fun f hf => k.flags f hf ∘ h.flags f hf

/-- A flag more, and any gate, accumulator and end clock: the figures stand. -/
theorem Trip.Grows.of_flags (h : x.Within) (g : TripFlags) (gate : Bool) (a : Nat) (c : Option Clock)
    (hg : ∀ f ∈ [TripFlags.fareCapped, TripFlags.timeUnknown, TripFlags.holdUsed, TripFlags.emergencyDuring,
      TripFlags.distOverrate], f x.flags = true → f g = true) :
    x.Grows { x with flags := g, gateOpen := gate, accumulator := a, endClock := c } :=
  { Trip.Grows.refl h with within := ⟨h.fare, h.extrasTotal, h.increments, h.pulses, h.gatedPulses⟩, flags := hg }

theorem Trip.closeGate_grows (h : x.Within) : x.Grows x.closeGate := by
  unfold Trip.closeGate
  split
  · exact .of_flags h _ _ _ _ fun _ _ => id
  · exact .refl h

theorem Trip.openGate_grows (h : x.Within) : x.Grows x.openGate := .of_flags h _ _ _ _ fun _ _ => id

theorem Trip.holdUsed_grows (h : x.Within) : x.Grows { x with flags := { x.flags with holdUsed := true } } :=
  .of_flags h _ _ _ _ (by simp)

theorem Trip.emergencyDuring_grows (h : x.Within) :
    x.Grows { x with flags := { x.flags with emergencyDuring := true } } := .of_flags h _ _ _ _ (by simp)

theorem Trip.cap_grows (c : Bool) (h : x.Within) : x.Grows (x.cap c) := by
  unfold Trip.cap
  split
  · exact .of_flags h _ _ _ _ (by simp)
  · exact .refl h

/-- An addition that stays at its maximum does not fall (00, Counts and Money). -/
theorem le_satAdd {m a : Nat} (h : a ≤ m) (b : Nat) : a ≤ satAdd m a b := by
  unfold satAdd
  omega

theorem satAdd_le (m a b : Nat) : satAdd m a b ≤ m := Nat.min_le_left _ _

theorem Trip.take_grows (d : Nat) (excess : Bool) (h : x.Within) : x.Grows (x.take d excess) := by
  have gated : x.gatedPulses ≤ (x.take d excess).gatedPulses ∧ (x.take d excess).gatedPulses ≤ 4294967295 := by
    unfold Trip.take
    dsimp only
    split
    · exact ⟨le_rfl, h.gatedPulses⟩
    · exact ⟨le_satAdd h.gatedPulses d, satAdd_le _ _ _⟩
  exact { Trip.Grows.refl h with
    within := ⟨h.fare, h.extrasTotal, h.increments, satAdd_le _ _ _, gated.2⟩
    pulses := le_satAdd h.pulses d
    gatedPulses := gated.1
    flags := by simp +contextual [Trip.take] }

theorem Trip.increment_grows (h : x.Within) : x.Grows x.increment := by
  have priced : ∀ v, x.Grows { x with increments := satAdd Config.moneyMax x.increments 1
                                      fare := satAdd Config.moneyMax x.fare v } := fun v =>
    { Trip.Grows.refl h with
      within := ⟨satAdd_le _ _ _, h.extrasTotal, satAdd_le _ _ _, h.pulses, h.gatedPulses⟩
      fare := le_satAdd h.fare v
      increments := le_satAdd h.increments 1 }
  exact (priced _).trans (Trip.cap_grows _ (priced _).within)

theorem Trip.advance_grows (n : Nat) : ∀ {x : Trip}, x.Within → x.Grows (Trip.advance n x) := by
  induction n with
  | zero => exact fun h => .refl h
  | succ n ih => exact fun h => (Trip.increment_grows h).trans (ih (Trip.increment_grows h).within)

theorem Trip.progress_grows (d : Nat) (h : x.Within) : x.Grows (x.progress d) := by
  have counted : ∀ a, x.Grows { x with accumulator := a } := fun a => .of_flags h _ _ a _ fun _ _ => id
  exact (counted _).trans (Trip.advance_grows _ (counted _).within)

theorem Trip.extraFor_some {i : Nat} {e : TripExtra} (h : x.extraFor i = some e) :
    i ≠ 0 ∧ x.extras[i - 1]? = some e ∧ e.used < e.max := by
  unfold Trip.extraFor at h
  split at h
  · cases h
  · obtain ⟨k, m⟩ := Option.filter_eq_some_iff.mp h
    exact ⟨by assumption, k, of_decide_eq_true m⟩

theorem Trip.addExtra_grows {i : Nat} {e : TripExtra} (k : x.extraFor i = some e) (h : x.Within) :
    x.Grows (x.addExtra i e) := by
  obtain ⟨-, at_i, -⟩ := Trip.extraFor_some k
  have amounts : (x.extras.set (i - 1) { e with used := e.used + 1 }).map TripExtra.amount
      = x.extras.map TripExtra.amount := by
    obtain ⟨inside, rfl⟩ := List.getElem?_eq_some_iff.mp at_i
    have fetched : (x.extras.map TripExtra.amount)[i - 1]'(by simpa using inside) = x.extras[i - 1].amount := by simp
    rw [List.map_set, ← fetched]
    exact List.set_getElem_self _
  have added : x.Grows { x with extrasTotal := satAdd Config.moneyMax x.extrasTotal e.amount
                                extras := x.extras.set (i - 1) { e with used := e.used + 1 } } :=
    { Trip.Grows.refl h with
      amounts := amounts
      within := ⟨h.fare, satAdd_le _ _ _, h.increments, h.pulses, h.gatedPulses⟩
      extrasTotal := le_satAdd h.extrasTotal e.amount }
  exact added.trans (Trip.cap_grows _ added.within)

/-- A trip that changes while the meter stays in its state: the gate and the end clock stand, and once `frozen`, in
TOTAL, so do the fare and the increments (R12, R15). -/
structure Trip.Runs (frozen : Prop) (x y : Trip) : Prop where
  grows : x.Within → x.Grows y
  gate : y.gateOpen = x.gateOpen
  endClock : y.endClock = x.endClock
  fare : frozen → y.fare = x.fare
  increments : frozen → y.increments = x.increments

end Sys2Proof.Machine
end

section
/-! PROOFS. What a step can do to the meter and the supply: one lemma an operation, then one for every command. -/

namespace Sys2Proof.Machine

variable {s t u : State} {x y : Trip} {bs : List Block}

/-! ## The moves of the meter -/

/-- What a command can make of the meter while the supply stays as it is; `main`: the main domain works (R4 to R17,
R36). -/
inductive Meter.Move (main : Bool) (m : Meter) : Meter → Prop
  | opened (h : m.state = .off) : Move main m { m with state := .vacant }
  | closed (h : m.state = .vacant) : Move main m { m with state := .off }
  | awarded (id : Nat) (h : m.state = .vacant) : Move main m { m with state := .assigned, jobId := some id }
  | released (h : m.state = .assigned) : Move main m { m with state := .vacant, jobId := none }
  | hired (n : Nat) (x : Trip) (runs : main = true) (h : m.state = .vacant ∨ m.state = .assigned)
      (g : x.gateOpen = true) : Move main m { state := .hired, jobId := none, lastTrip := n, hold := false, trip := some x }
  | ended (c : Clock) (h : m.state = .hired) : Move main m { m with
      state := .total, hold := false
      trip := m.trip.map fun x => { x with endClock := some c, accumulator := 0, gateOpen := false } }
  | paid (h : m.state = .total) : Move main m { m with state := .vacant, jobId := none, trip := none }
  | held (h : m.state = .hired) : Move main m { m with
      hold := true, trip := m.trip.map fun x => { x with flags := { x.flags with holdUsed := true } }.closeGate }
  | unheld (runs : main = true) (h : m.state = .hired) :
      Move main m { m with hold := false, trip := m.trip.map Trip.openGate }
  | ran (x y : Trip) (h : m.state = .hired ∨ m.state = .total) (k : m.trip = some x)
      (r : x.Runs (m.state = .total) y) : Move main m { m with trip := some y }

/-- The supply and the mark of a failed check stand (R188, R191). -/
def SupplyKept (s t : State) : Prop :=
  t.monitor.holding = s.monitor.holding ∧ t.monitor.supplyUp = s.monitor.supplyUp

/-- The meter with a HIRED trip changed. -/
def Meter.mapHired (f : Trip → Trip) (m : Meter) : Meter :=
  if m.state = .hired then { m with trip := m.trip.map f } else m

/-- What a step can do to the meter and the supply: the meter moves or stands while the supply is kept; the supply goes,
comes back, or the retained domain powers up or loses its contents (R14, R188, R189, R191). -/
inductive MeterStep (s t : State) : Prop
  | stood (k : SupplyKept s t) (h : t.meter = s.meter)
  | moved (k : SupplyKept s t) (h : Meter.Move s.mainRuns s.meter t.meter)
  | shed (hold : t.monitor.holding = s.monitor.holding) (was : s.monitor.supplyUp = true)
      (up : t.monitor.supplyUp = false) (h : t.meter = s.meter.mapHired Trip.closeGate)
  | returned (hold : s.monitor.holding = false) (hold' : t.monitor.holding = false) (was : s.monitor.supplyUp = false)
      (up : t.monitor.supplyUp = true) (h : t.meter = s.meter.mapHired fun x => if s.meter.hold then x else x.openGate)
  | poweredUp (hold : t.monitor.holding = true) (up : t.monitor.supplyUp = false) (h : t.meter = s.meter)
  | lost (hold : t.monitor.holding = false) (h : t.meter = Meter.fresh)

theorem SupplyKept.of_monitor (h : t.monitor = s.monitor) : SupplyKept s t := ⟨by rw [h], by rw [h]⟩

/-- The supply of the main domain holds a working main domain up. -/
theorem State.supplyUp_of_mainRuns (h : s.mainRuns = true) : s.monitor.supplyUp = true := (State.mainRuns_iff.mp h).1

theorem State.condition_of_mainRuns (h : s.mainRuns = true) : s.condition ≠ .shed := by
  unfold State.condition
  rw [State.supplyUp_of_mainRuns h]
  cases s.monitor.ignition <;> decide

/-- What follows a step on other blocks does not count. -/
theorem MeterStep.congr (h : MeterStep s u) (hm : t.meter = u.meter) (hs : t.monitor = u.monitor) : MeterStep s t := by
  have hh : t.monitor.holding = u.monitor.holding := by rw [hs]
  have hu : t.monitor.supplyUp = u.monitor.supplyUp := by rw [hs]
  cases h with
  | stood k h => exact .stood ⟨hh.trans k.1, hu.trans k.2⟩ (hm.trans h)
  | moved k h => exact .moved ⟨hh.trans k.1, hu.trans k.2⟩ (hm ▸ h)
  | shed hold was up h => exact .shed (hh.trans hold) was (hu.trans up) (hm.trans h)
  | returned hold hold' was up h => exact .returned hold (hh.trans hold') was (hu.trans up) (hm.trans h)
  | poweredUp hold up h => exact .poweredUp (hh.trans hold) (hu.trans up) (hm.trans h)
  | lost hold h => exact .lost (hh.trans hold) (hm.trans h)

theorem MeterStep.andThen (h : MeterStep s u) (k : OnlyChanges bs u t) (m : bs.all Block.offMeter = true) :
    MeterStep s t :=
  h.congr (k.toOffMeter m .meter rfl) (k.toOffMeter m .monitor rfl)

theorem MeterStep.refl (s : State) : MeterStep s s := .stood ⟨rfl, rfl⟩ rfl

theorem MeterStep.of_offMeter (h : OffMeter s t) : MeterStep s t :=
  .stood (.of_monitor (h .monitor rfl)) (h .meter rfl)

/-- The meter moves and the Condition Monitor stands. -/
theorem MeterStep.of_move (h : Meter.Move s.mainRuns s.meter u.meter) (k : u.monitor = s.monitor) : MeterStep s u :=
  .moved (.of_monitor k) h

theorem done_meterStep (h : MeterStep s u) (e : done s u = .next t) : MeterStep s t := by
  obtain rfl : (s.updateCheck u).drive = t := Host.Outcome.next.inj e
  exact h.andThen (State.only_ended s u) rfl

/-- A meter request moves the meter as its owner does in a permitted state, and otherwise not at all (R3). -/
theorem serveMeter_meterStep {α : Type} {kind tag : Byte} {states : List MeterState} {args : Option α}
    {owner : α → State → State × Answer}
    (h : s.mainRuns = true → s.meter.state ∈ states → ∀ a, MeterStep s (owner a s).1)
    (e : serveMeter kind tag states args owner s = .next t) : MeterStep s t := by
  have replied : ∀ {v : State} {a : Answer}, MeterStep s v → MeterStep s (v.putReply kind tag a) := fun k =>
    k.andThen (State.only_putReply _ _ _ _) rfl
  cases hm : s.mainRuns with
  | false =>
    unfold serveMeter at e
    split at e <;> exact done_meterStep (.refl s) ((serve_held _ _ _ _ hm).symm.trans e)
  | true =>
    by_cases hs : s.meter.state ∈ states
    · rw [serveMeter_permitted _ _ _ _ _ hs] at e
      cases args with
      | none => exact done_meterStep (replied (.refl s)) ((serve_malformed _ _ _ hm).symm.trans e)
      | some a => exact done_meterStep (replied (h hm hs a)) ((serve_served _ _ _ _ hm).symm.trans e)
    · exact done_meterStep (replied (.refl s)) ((serveMeter_refused _ _ _ _ _ hs hm).symm.trans e)

/-- A frame moves the meter as its owner does on a state with the same meter and supply. -/
theorem receive_meterStep {k : DownKind} {hdr : AirHeader} {payload : List Byte} {owner : State → State}
    (h : ∀ u, u.meter = s.meter → u.monitor = s.monitor → MeterStep s (owner u))
    (e : done s (s.receive k hdr payload owner) = .next t) : MeterStep s t := by
  refine done_meterStep ?_ e
  have closed : MeterStep s (s.withRecord none) := .stood ⟨rfl, rfl⟩ rfl
  unfold State.receive
  split
  · refine MeterStep.andThen ?_ (State.only_receiveBoundary _) rfl
    split
    · split
      · exact closed
      · exact h _ rfl rfl
    · exact closed.andThen (State.only_offerFault _ _ _ _ _) rfl
    · exact closed
  · exact .refl s

/-! ## The meter's requests -/

theorem State.openShift_meterStep (h : s.meter.state = .off) : MeterStep s s.openShift.1 := by
  unfold State.openShift
  repeat' split
  · exact .refl s
  · exact .refl s
  · exact .of_move (.opened h) rfl

theorem State.closeShift_meterStep (h : s.meter.state = .vacant) : MeterStep s s.closeShift.1 := by
  have closed : MeterStep s (s.withMeter { s.meter with state := .off }) := .of_move (.closed h) rfl
  exact (closed.andThen (State.only_pendReport _ _) rfl).andThen (State.only_lapseOffers _) rfl

theorem State.cancelJob_meterStep (h : s.meter.state = .assigned) : MeterStep s s.cancelJob.1 := by
  have given : ∀ u : State, u.meter = s.meter → u.monitor = s.monitor →
      MeterStep s (u.withMeter { u.meter with state := .vacant, jobId := none }) := fun u hm hs =>
    .of_move (by rw [State.withMeter_meter, hm]; exact .released h) hs
  unfold State.cancelJob
  cases s.meter.jobId with
  | none => exact given s rfl rfl
  | some id =>
    have owed : OnlyChanges [.offers, .arbiter, .events] s ((s.oweCancel id .driverCancel).closeAwarded (some id) .declined) :=
      .closeAwarded _ _ (.oweCancel _ _ (.refl s) (by decide)) (by decide)
    exact given _ (owed.keep .meter (by decide)) (owed.keep .monitor (by decide))

theorem State.startTrip_meterStep (f : Tariff) (b : Band) (m : s.mainRuns = true)
    (h : s.meter.state = .vacant ∨ s.meter.state = .assigned) : MeterStep s (s.startTrip f b) := by
  have started : MeterStep s (s.closePulses.withMeter { state := .hired, jobId := none
                                                        lastTrip := (s.newTrip f b).number, hold := false
                                                        trip := some (s.newTrip f b) }) :=
    .of_move (.hired _ _ m h rfl) (s.only_closePulses.keep .monitor (by decide))
  unfold State.startTrip
  dsimp only
  split
  · exact started.andThen (State.only_closeAwarded _ _ _) rfl
  · exact started.andThen (State.only_lapseOffers _) rfl

theorem State.hire_meterStep (n : Nat) (m : s.mainRuns = true)
    (h : s.meter.state = .vacant ∨ s.meter.state = .assigned) : MeterStep s (s.hire n).1 := by
  unfold State.hire
  split
  · exact State.startTrip_meterStep _ _ m h
  · exact .refl s

theorem State.endTrip_meterStep (h : s.meter.state = .hired) : MeterStep s s.endTrip.1 := .of_move (.ended _ h) rfl

theorem State.payTrip_meterStep (h : s.meter.state = .total) : MeterStep s s.payTrip.1 := by
  have paid : ({ s.closePulses.meter with state := .vacant, jobId := none, trip := none } : Meter)
      = { s.meter with state := .vacant, jobId := none, trip := none } := by
    rw [State.closePulses_meter]
    split <;> rfl
  unfold State.payTrip
  dsimp only
  split
  · exact .refl s
  · refine .of_move ?_ ((s.only_closePulses.trans (State.only_enterRecord _ _)).keep .monitor (by decide))
    exact paid ▸ .paid h

theorem State.holdOn_meterStep (h : s.meter.state = .hired) : MeterStep s s.holdOn.1 := .of_move (.held h) rfl

theorem State.holdOff_meterStep (m : s.mainRuns = true) (h : s.meter.state = .hired) : MeterStep s s.holdOff.1 := by
  have opened : (s.holdOff).1.meter = { s.meter with hold := false, trip := s.meter.trip.map Trip.openGate } := by
    simp [State.holdOff, State.answered, State.condition_of_mainRuns m]
  exact .of_move (opened ▸ .unheld m h) rfl

theorem Trip.addExtra_runs {i : Nat} {e : TripExtra} (k : x.extraFor i = some e) (p : Prop) : x.Runs p (x.addExtra i e) := by
  refine ⟨Trip.addExtra_grows k, ?_, ?_, fun _ => Trip.cap_fare _ _, fun _ => Trip.cap_increments _ _⟩
  · exact (Trip.cap_sameBut _ _).gateOpen
  · exact (Trip.cap_sameBut _ _).endClock

theorem State.takeExtra_meterStep (i : Nat) (h : s.meter.state = .hired ∨ s.meter.state = .total) :
    MeterStep s (s.takeExtra i).1 := by
  unfold State.takeExtra
  split
  · exact .refl s
  · next x k =>
    split
    · exact .refl s
    · next e ke => exact .of_move (.ran x _ h k (Trip.addExtra_runs ke _)) rfl

/-! ## The frames that move the meter -/

theorem State.awardArrives_meterStep (id : Nat) (hm : u.meter = s.meter) (hs : u.monitor = s.monitor) :
    MeterStep s (u.awardArrives id) := by
  have still : MeterStep s u := .stood (.of_monitor hs) hm
  unfold State.awardArrives
  split
  · next h =>
    have vacant : s.meter.state = .vacant := by simp_all
    refine .of_move ?_ (((State.only_takeAward id u).keep .monitor (by decide)).trans hs)
    rw [State.takeAward_meter, hm]
    exact .awarded id vacant
  · split
    · exact still
    · exact still.andThen (State.only_oweCancel _ _ _) rfl

theorem State.withdrawJob_meterStep (id : Nat) (hm : u.meter = s.meter) (hs : u.monitor = s.monitor) :
    MeterStep s (u.withdrawJob id) := by
  unfold State.withdrawJob
  split
  · next h =>
    have released : MeterStep s (u.withMeter { u.meter with state := .vacant, jobId := none }) :=
      .of_move (by rw [State.withMeter_meter, hm]; exact .released (hm ▸ h.1)) hs
    exact released.andThen (State.only_raise _ _) rfl
  · exact .stood (.of_monitor hs) hm

theorem State.withdrawArrives_meterStep (id : Nat) (hm : u.meter = s.meter) (hs : u.monitor = s.monitor) :
    MeterStep s (u.withdrawArrives id) := by
  have still : MeterStep s u := .stood (.of_monitor hs) hm
  unfold State.withdrawArrives
  split
  · exact State.withdrawJob_meterStep id hm hs
  · split
    · exact still.andThen (State.only_closeEntry _ _ _) rfl
    · refine still.andThen (bs := [.offers, .arbiter, .events]) ?_ rfl
      exact .offerBoundary (.closeEntry _ _ (.dropBid (.refl u) (by decide)) (by decide)) (by decide)
    · have closed := State.only_closeEntry id .withdrawn u
      exact State.withdrawJob_meterStep id ((closed.keep .meter (by decide)).trans hm)
        ((closed.keep .monitor (by decide)).trans hs)
    · exact still

/-! ## The steps of the retained domain -/

theorem Trip.emergencyDuring_runs (p : Prop) : x.Runs p { x with flags := { x.flags with emergencyDuring := true } } :=
  ⟨Trip.emergencyDuring_grows, rfl, rfl, fun _ => rfl, fun _ => rfl⟩

theorem State.markTrip_meterStep (hm : u.meter = s.meter) (hs : u.monitor = s.monitor) : MeterStep s u.markTrip := by
  have still : MeterStep s u := .stood (.of_monitor hs) hm
  unfold State.markTrip
  split
  · next h =>
    cases k : u.meter.trip with
    | none => exact still.congr (by rw [State.mapTrip, k]; exact congrArg (fun o => { u.meter with trip := o }) k.symm) rfl
    | some x =>
      refine .of_move ?_ hs
      have ran : (u.mapTrip fun x => { x with flags := { x.flags with emergencyDuring := true } }).meter
          = { s.meter with trip := some { x with flags := { x.flags with emergencyDuring := true } } } := by
        rw [State.mapTrip, State.withMeter_meter, k, hm]
        rfl
      exact ran ▸ .ran x _ (.inl (hm ▸ h)) (hm ▸ k) (Trip.emergencyDuring_runs _)
  · exact still

theorem State.activate_meterStep : MeterStep s s.activate := by
  have marked : ∀ v, MeterStep s (s.withEmergency v).markTrip := fun v => State.markTrip_meterStep rfl rfl
  have shown : ∀ v : State, OnlyChanges [.emergency, .arbiter, .roof, .events] v v.reportDue.startRoof.raiseEmergency :=
    fun v => .raiseEmergency (.startRoof (.reportDue (.refl v) (by decide)) (by decide)) (by decide)
  exact (marked _).andThen (shown _) rfl

theorem State.escalate_meterStep : MeterStep s s.escalate := by
  have marked : ∀ v, MeterStep s (s.withEmergency v).markTrip := fun v => State.markTrip_meterStep rfl rfl
  have shown : ∀ v : State, OnlyChanges [.emergency, .arbiter, .events] v v.reportDue.raiseEmergency :=
    fun v => .raiseEmergency (.reportDue (.refl v) (by decide)) (by decide)
  exact (marked _).andThen (shown _) rfl

/-- The second of a HIRED trip: the admitted pulses, then the fare where the gate is open (R33, R36). -/
def Trip.hiredSecond (d : Nat) (excess : Bool) (x : Trip) : Trip :=
  if (x.take d excess).gateOpen then (x.take d excess).progress d else x.take d excess

theorem Trip.take_runs (d : Nat) (excess : Bool) (p : Prop) : x.Runs p (x.take d excess) :=
  ⟨Trip.take_grows d excess, rfl, rfl, fun _ => rfl, fun _ => rfl⟩

theorem Trip.hiredSecond_runs (d : Nat) (excess : Bool) (p : Prop) (h : ¬ p) : x.Runs p (x.hiredSecond d excess) := by
  have taken := Trip.take_runs (x := x) d excess p
  unfold Trip.hiredSecond
  split
  · have only := Trip.progress_sameBut d (x.take d excess)
    refine ⟨fun w => ?_, only.gateOpen.trans taken.gate, only.endClock.trans taken.endClock, fun k => absurd k h,
      fun k => absurd k h⟩
    exact (taken.grows w).trans (Trip.progress_grows d (taken.grows w).within)
  · exact taken

theorem State.second_meter_hired (h : s.monitor.holding = false) (i : s.meter.state = .hired) : s.second.meter
    = { s.meter with trip := s.meter.trip.map (Trip.hiredSecond s.admitted (decide (4095 < s.pulses))) } := by
  rw [State.second_meter h, State.fareSecond_meter, if_pos (State.closePulses_meter_state.trans i),
    State.closePulses_meter, if_pos (Meter.onTrip_iff.mpr (.inl i))]
  simp only [Option.map_map]
  rfl

theorem State.second_meterStep : MeterStep s s.second := by
  cases h : s.monitor.holding with
  | true => rw [State.second_holding h]; exact .refl s
  | false =>
    have monitor : s.second.monitor = s.monitor := s.only_second.keep .monitor (by decide)
    have ran : ∀ x y, (s.meter.state = .hired ∨ s.meter.state = .total) → s.meter.trip = some x →
        x.Runs (s.meter.state = .total) y → s.second.meter = { s.meter with trip := some y } → MeterStep s s.second :=
      fun x y on k r e => .of_move (e ▸ .ran x y on k r) monitor
    cases i : s.meter.state with
    | off => exact .stood (.of_monitor monitor) (State.second_meter_idle h (.inl i))
    | vacant => exact .stood (.of_monitor monitor) (State.second_meter_idle h (.inr (.inl i)))
    | assigned => exact .stood (.of_monitor monitor) (State.second_meter_idle h (.inr (.inr i)))
    | hired =>
      have hired := State.second_meter_hired h i
      cases k : s.meter.trip with
      | none => exact .stood (.of_monitor monitor) (by rw [hired, k, Option.map_none, ← k])
      | some x =>
        rw [k, Option.map_some] at hired
        exact ran x _ (.inl i) k (Trip.hiredSecond_runs _ _ _ (by simp [i])) hired
    | total =>
      cases k : s.meter.trip with
      | none =>
        refine .stood (.of_monitor monitor) ?_
        rw [State.second_meter_of_not_hired h (by simp [i]), State.closePulses_meter, k, Option.map_none, ← k]
        split <;> rfl
      | some x => exact ran x _ (.inr i) k (Trip.take_runs _ _ _) (State.second_meter_total h i k)

theorem State.tick_supplyKept (l : TickLines) : SupplyKept s (s.tick l) := by
  unfold State.tick
  split
  · exact ⟨rfl, rfl⟩
  · have sampled := State.only_sampleSwitch (l.emerg0 || l.emerg1)
      ((s.withSeat (s.seat.tick l.seat s.seatIdle (10 * s.settings.seatTime))).withRoof s.roof.tick)
    have holding := congrArg Monitor.holding (sampled.keep .monitor (by decide))
    have supplyUp := congrArg Monitor.supplyUp (sampled.keep .monitor (by decide))
    dsimp only
    split <;> exact ⟨holding, supplyUp⟩

theorem State.endDebounce_meterStep : MeterStep s s.endDebounce := by
  unfold State.endDebounce
  split
  · have sampled : MeterStep s (s.withMonitor { s.monitor with ignition := s.monitor.ignLevel, ignCount := 0 }) :=
      .stood ⟨rfl, rfl⟩ rfl
    exact sampled.andThen (State.only_conditionChanged _) rfl
  · exact .refl s

/-! ## The supply and the resets -/

theorem State.enterShed_meterStep : MeterStep s s.enterShed := by
  unfold State.enterShed
  split
  · next h =>
    have up : s.monitor.supplyUp = true := by simp_all
    refine MeterStep.andThen (.shed ?_ up rfl ?_) (State.only_mainValues _) rfl
    · split <;> rfl
    · unfold Meter.mapHired
      dsimp only
      split <;> rfl
  · exact .refl s

/-- The state that a main reset finds once the retained check is tested and SHED is left (R189 to R191). -/
def State.tested (endsShed : Bool) (s : State) : State :=
  let s1 := if s.checkFails then s.backupLoss else s
  let s2 := s1.withMonitor { s1.monitor with supplyUp := true, confirm := 0, holding := false, abortHeld := false }
  if endsShed then s2.exitShed else s2

/-- The rest of a main reset (R184, R190): the main-domain blocks, its own events, and the owners' offers. -/
def State.restarted (lost endsShed : Bool) (s : State) : State :=
  let s4 := s.mainValues.idleSender
  let s5 := if lost then (s4.withFault (some (s4.captured .retainedLost .none 0 0))).setFlag .fault else s4
  let s6 := if s5.settings.visible ∧ s5.emergency.state ≠ .clear then s5.setFlag .emergency else s5
  let s7 := if endsShed then s6.setFlag .condition else s6
  if s7.mainRuns then s7.offerAfterReset else s7

/-- The blocks of the main domain, and the Fare Store for its sender. -/
def restartedBlocks : List Block :=
  [.store, .offers, .messages, .link, .arbiter, .loader, .addresses, .zones, .events, .fault, .terminal]

theorem State.only_restarted (lost endsShed : Bool) (s : State) :
    OnlyChanges restartedBlocks s (s.restarted lost endsShed) := by
  unfold State.restarted
  extract_lets s4 s5 s6 s7
  have h4 : OnlyChanges restartedBlocks s s4 := .idleSender (.mainValues (.refl s) (by decide)) (by decide)
  have h5 : OnlyChanges restartedBlocks s s5 := by
    unfold s5
    split
    · exact .setFlag _ (h4.withFault (by decide)) (by decide)
    · exact h4
  have h6 : OnlyChanges restartedBlocks s s6 := by
    unfold s6
    split
    · exact .setFlag _ h5 (by decide)
    · exact h5
  have h7 : OnlyChanges restartedBlocks s s7 := by
    unfold s7
    split
    · exact .setFlag _ h6 (by decide)
    · exact h6
  split
  · exact .offerAfterReset h7 (by decide)
  · exact h7

theorem State.exitShed_meter : s.exitShed.meter = s.meter.mapHired fun x => if s.meter.hold then x else x.openGate := by
  have kept : ∀ v : State, (if v.emergency.state.raised then v.withEmergency { v.emergency with owed := true }
      else v).meter = v.meter := fun v => by split <;> rfl
  unfold State.exitShed Meter.mapHired
  dsimp only
  rw [kept]
  by_cases i : s.meter.state = .hired
  · by_cases hold : s.meter.hold = true
    · have whole : (s.meter.trip.map fun x : Trip => if s.meter.hold then x else x.openGate) = s.meter.trip := by
        simp [hold]
      rw [if_neg fun h => by simp [hold] at h, if_pos i, whole]
    · rw [if_pos ⟨i, Bool.eq_false_of_not_eq_true hold⟩, if_pos i]
      simp [State.mapTrip, hold]
  · rw [if_neg fun h => i h.1, if_neg i]

theorem State.exitShed_monitor : s.exitShed.monitor = s.monitor := s.only_exitShed.keep .monitor (by decide)

/-- A main reset: without a failed check the meter is left alone, or its gate follows the exit from SHED (R14, R190). -/
theorem State.tested_meterStep (endsShed : Bool) (k : SupplyKept s u) (hm : u.meter = s.meter)
    (up : s.monitor.supplyUp = !endsShed) : MeterStep s (u.tested endsShed) := by
  unfold State.tested
  dsimp only
  cases lost : u.checkFails with
  | true =>
    rw [if_pos rfl]
    have emptied : ∀ v : State, v.meter = Meter.fresh → v.exitShed.meter = Meter.fresh := fun v h => by
      rw [State.exitShed_meter, h]
      rfl
    split
    · exact .lost (by rw [State.exitShed_monitor]; rfl) (emptied _ rfl)
    · exact .lost rfl rfl
  | false =>
    have works : s.monitor.holding = false := by
      unfold State.checkFails at lost
      exact k.1.symm.trans (Bool.or_eq_false_iff.mp lost).1
    cases endsShed with
    | true =>
      refine .returned works ?_ up ?_ (State.exitShed_meter.trans (hm ▸ rfl))
      · rw [if_pos rfl, State.exitShed_monitor]; rfl
      · rw [if_pos rfl, State.exitShed_monitor]; rfl
    | false => exact .stood ⟨works.symm, up.symm⟩ hm

theorem State.mainReset_meterStep (endsShed : Bool) (k : SupplyKept s u) (hm : u.meter = s.meter)
    (up : s.monitor.supplyUp = !endsShed) : MeterStep s (u.mainReset endsShed) :=
  (State.tested_meterStep endsShed k hm up).andThen (State.only_restarted _ _ _) rfl

theorem State.returnSupply_meterStep : MeterStep s s.returnSupply := by
  unfold State.returnSupply
  split
  · next h => exact State.mainReset_meterStep true ⟨rfl, rfl⟩ rfl (by simp_all)
  · exact .refl s

theorem State.resetPin_meterStep (level : Bool) : MeterStep s (s.resetPin level) := by
  have pin : MeterStep s (s.withMonitor { s.monitor with resetLow := !level }) := .stood ⟨rfl, rfl⟩ rfl
  unfold State.resetPin
  dsimp only
  split
  · exact pin
  · next h =>
    split
    · exact pin.andThen (State.only_releaseReset _) rfl
    · exact State.mainReset_meterStep false ⟨rfl, rfl⟩ rfl (by simp_all)

theorem State.powerUp_meterStep : MeterStep s s.powerUp := by
  have up : MeterStep s (s.withMonitor { s.monitor with supplyUp := false, confirm := 0, holding := true
                                                        abortHeld := false }) := .poweredUp rfl rfl rfl
  exact up.andThen (State.only_mainValues _) rfl

/-! ## Every command -/

theorem exec_meterStep (c : Instr) (e : exec c s = .next t) : MeterStep s t := by
  cases r : reachesMeter c with
  | false => exact .of_offMeter (exec_offMeter c r e)
  | true =>
    cases c with
    | jobCancel => exact serveMeter_meterStep (fun _ h _ => State.cancelJob_meterStep (by simpa using h)) e
    | hire => exact serveMeter_meterStep (fun m h n => State.hire_meterStep n m (by simpa using h)) e
    | endTrip => exact serveMeter_meterStep (fun _ h _ => State.endTrip_meterStep (by simpa using h)) e
    | paid => exact serveMeter_meterStep (fun _ h _ => State.payTrip_meterStep (by simpa using h)) e
    | holdOn => exact serveMeter_meterStep (fun _ h _ => State.holdOn_meterStep (by simpa using h)) e
    | holdOff => exact serveMeter_meterStep (fun m h _ => State.holdOff_meterStep m (by simpa using h)) e
    | extra => exact serveMeter_meterStep (fun _ h i => State.takeExtra_meterStep i (by simpa using h)) e
    | shiftOpen => exact serveMeter_meterStep (fun _ h _ => State.openShift_meterStep (by simpa using h)) e
    | shiftClose => exact serveMeter_meterStep (fun _ h _ => State.closeShift_meterStep (by simpa using h)) e
    | offerWithdraw hdr payload =>
      refine receive_meterStep (fun u hm hs => ?_) e
      rcases handed_cases (s := u) (parseId payload) State.withdrawArrives with ⟨id, -, h⟩ | h <;> rw [h]
      · exact State.withdrawArrives_meterStep id hm hs
      · exact .stood (.of_monitor hs) hm
    | award hdr payload =>
      refine receive_meterStep (fun u hm hs => ?_) e
      rcases handed_cases (s := u) (parseId payload) State.awardArrives with ⟨id, -, h⟩ | h <;> rw [h]
      · exact State.awardArrives_meterStep id hm hs
      · exact .stood (.of_monitor hs) hm
    | activation =>
      refine done_meterStep ?_ e
      unfold State.whenRetained State.takeActivation
      repeat' split
      case isFalse.isTrue => exact State.activate_meterStep
      all_goals exact .refl s
    | escalation =>
      refine done_meterStep ?_ e
      unfold State.whenRetained State.takeEscalation
      repeat' split
      case isFalse.isTrue => exact State.escalate_meterStep
      all_goals exact .refl s
    | ignDebounceEnd => exact done_meterStep State.endDebounce_meterStep e
    | timerTick l => exact done_meterStep (.stood (State.tick_supplyKept l) ((s.only_tick l).keep .meter (by decide))) e
    | meterSecond => exact done_meterStep State.second_meterStep e
    | shedEntry => exact done_meterStep State.enterShed_meterStep e
    | supplyReturn => exact done_meterStep State.returnSupply_meterStep e
    | powerUp => exact done_meterStep State.powerUp_meterStep e
    | mainReset level => exact done_meterStep (State.resetPin_meterStep level) e
    | _ => exact nomatch r

end Sys2Proof.Machine
end

section
/-! PROOFS. What belongs to each meter state stays with it (R2, R12, R14), and a running trip only grows (R10). -/

namespace Sys2Proof.Machine

variable {s t : State} {m n : Meter} {x y : Trip} {main up : Bool}

/-! ## What belongs to each meter state -/

/-- What belongs to each meter state while the supply is `up` or not (R2, R12). -/
def Meter.Shaped (up : Bool) (m : Meter) : Prop :=
  match m.state with
  | .off | .vacant => m.jobId = none ∧ m.trip = none
  | .assigned => (∃ id, m.jobId = some id) ∧ m.trip = none
  | .hired => m.jobId = none ∧ ∃ x, m.trip = some x ∧ x.gateOpen = (!m.hold && up)
  | .total => m.jobId = none ∧ ∃ x, m.trip = some x ∧ x.gateOpen = false ∧ ∃ c, x.endClock = some c

theorem Meter.shaped_idle (h : m.state = .off ∨ m.state = .vacant) : m.Shaped up ↔ m.jobId = none ∧ m.trip = none := by
  unfold Meter.Shaped
  rcases h with h | h <;> rw [h]

theorem Meter.shaped_assigned (h : m.state = .assigned) :
    m.Shaped up ↔ (∃ id, m.jobId = some id) ∧ m.trip = none := by
  unfold Meter.Shaped
  rw [h]

theorem Meter.shaped_hired (h : m.state = .hired) :
    m.Shaped up ↔ m.jobId = none ∧ ∃ x, m.trip = some x ∧ x.gateOpen = (!m.hold && up) := by
  unfold Meter.Shaped
  rw [h]

theorem Meter.shaped_total (h : m.state = .total) :
    m.Shaped up ↔ m.jobId = none ∧ ∃ x, m.trip = some x ∧ x.gateOpen = false ∧ ∃ c, x.endClock = some c := by
  unfold Meter.Shaped
  rw [h]

theorem Meter.map_trip (h : m.trip = some x) (f : Trip → Trip) : m.trip.map f = some (f x) := by rw [h, Option.map_some]

theorem State.condition_ne_shed : decide (s.condition ≠ .shed) = s.monitor.supplyUp := by
  unfold State.condition
  cases s.monitor.supplyUp <;> cases s.monitor.ignition <;> rfl

theorem State.meterShape_iff : s.meterShape = true ↔
    (s.monitor.holding = true → s.monitor.supplyUp = false)
      ∧ (s.monitor.holding = false → s.meter.Shaped s.monitor.supplyUp) := by
  unfold State.meterShape Meter.Shaped
  rw [State.condition_ne_shed]
  cases s.monitor.holding with
  | true => simp
  | false => cases s.meter.state <;> simp [Option.isSome_iff_exists, Option.any_eq_true]

theorem Trip.closeGate_gateOpen : x.closeGate.gateOpen = false := by
  unfold Trip.closeGate
  split
  · rfl
  · simp_all

/-- A move of the meter leaves to each state what belongs to it. -/
theorem Meter.Move.shaped (h : Meter.Move main m n) (works : main = true → up = true) (k : m.Shaped up) :
    n.Shaped up := by
  cases h with
  | opened h => exact (Meter.shaped_idle (.inr rfl)).mpr ((Meter.shaped_idle (.inl h)).mp k)
  | closed h => exact (Meter.shaped_idle (.inl rfl)).mpr ((Meter.shaped_idle (.inr h)).mp k)
  | awarded id h => exact (Meter.shaped_assigned rfl).mpr ⟨⟨id, rfl⟩, ((Meter.shaped_idle (.inr h)).mp k).2⟩
  | released h => exact (Meter.shaped_idle (.inr rfl)).mpr ⟨rfl, ((Meter.shaped_assigned h).mp k).2⟩
  | hired n x runs h g => exact (Meter.shaped_hired rfl).mpr ⟨rfl, x, rfl, by rw [g, works runs]; rfl⟩
  | ended c h =>
    obtain ⟨job, x, trip, -⟩ := (Meter.shaped_hired h).mp k
    exact (Meter.shaped_total rfl).mpr ⟨job, _, Meter.map_trip trip _, rfl, c, rfl⟩
  | paid h => exact (Meter.shaped_idle (.inr rfl)).mpr ⟨rfl, rfl⟩
  | held h =>
    obtain ⟨job, x, trip, -⟩ := (Meter.shaped_hired h).mp k
    exact (Meter.shaped_hired (by exact h)).mpr ⟨job, _, Meter.map_trip trip _, Trip.closeGate_gateOpen⟩
  | unheld runs h =>
    obtain ⟨job, x, trip, -⟩ := (Meter.shaped_hired h).mp k
    exact (Meter.shaped_hired (by exact h)).mpr ⟨job, _, Meter.map_trip trip _, by rw [works runs]; rfl⟩
  | ran x y h trip r =>
    rcases h with h | h
    · obtain ⟨job, x', trip', gate⟩ := (Meter.shaped_hired h).mp k
      obtain rfl := Option.some.inj (trip'.symm.trans trip)
      exact (Meter.shaped_hired (by exact h)).mpr ⟨job, y, rfl, r.gate.trans gate⟩
    · obtain ⟨job, x', trip', gate, c, clock⟩ := (Meter.shaped_total h).mp k
      obtain rfl := Option.some.inj (trip'.symm.trans trip)
      exact (Meter.shaped_total (by exact h)).mpr ⟨job, y, rfl, r.gate.trans gate, c, r.endClock.trans clock⟩

/-- Outside HIRED the supply does not count. -/
theorem Meter.Shaped.of_not_hired (h : m.state ≠ .hired) (k : m.Shaped up) (up' : Bool) : m.Shaped up' := by
  unfold Meter.Shaped at k ⊢
  split <;> simp_all

/-- The entry to SHED closes the gate of a HIRED trip (R14). -/
theorem Meter.Shaped.shed (k : m.Shaped up) : (m.mapHired Trip.closeGate).Shaped false := by
  unfold Meter.mapHired
  split
  · next h =>
    obtain ⟨job, x, trip, -⟩ := (Meter.shaped_hired h).mp k
    refine (Meter.shaped_hired (by exact h)).mpr ⟨job, _, Meter.map_trip trip _, ?_⟩
    rw [Trip.closeGate_gateOpen, Bool.and_false]
  · next h => exact k.of_not_hired h false

/-- The exit from SHED opens it, unless it is held (R14). -/
theorem Meter.Shaped.returned (k : m.Shaped false) :
    (m.mapHired fun x => if m.hold then x else x.openGate).Shaped true := by
  unfold Meter.mapHired
  split
  · next h =>
    obtain ⟨job, x, trip, gate⟩ := (Meter.shaped_hired h).mp k
    refine (Meter.shaped_hired (by exact h)).mpr ⟨job, _, Meter.map_trip trip _, ?_⟩
    cases hold : m.hold with
    | true => simpa [hold] using gate
    | false => simp [Trip.openGate]
  · next h => exact k.of_not_hired h true

theorem MeterStep.meterShape (e : MeterStep s t) (h : s.meterShape = true) : t.meterShape = true := by
  obtain ⟨off, shaped⟩ := State.meterShape_iff.mp h
  refine State.meterShape_iff.mpr ?_
  cases e with
  | stood k e => rw [k.1, k.2, e]; exact ⟨off, shaped⟩
  | moved k e =>
    rw [k.1, k.2]
    exact ⟨off, fun works => e.shaped State.supplyUp_of_mainRuns (shaped works)⟩
  | shed hold was up e =>
    rw [hold, up, e]
    exact ⟨fun _ => rfl, fun works => (shaped works).shed⟩
  | returned hold hold' was up e =>
    rw [hold', up, e]
    exact ⟨nofun, fun _ => (was ▸ shaped hold).returned⟩
  | poweredUp hold up e => rw [hold, up]; exact ⟨fun _ => rfl, nofun⟩
  | lost hold e => rw [hold, e]; exact ⟨nofun, fun _ => (Meter.shaped_idle (.inl rfl)).mpr ⟨rfl, rfl⟩⟩

/-- Settles O55: the condition looks at the meter and the supply alone, and `exec_meterStep` says what a command can do
to them. -/
theorem meterKeepsShape : Obligations.MeterKeepsShape := by
  intro s t h e
  unfold step at e
  cases hp : s.pending with
  | nil =>
    rw [hp] at e
    exact Host.Outcome.next.inj e ▸ h
  | cons c rest =>
    rw [hp] at e
    exact (exec_meterStep (s := s.withPending rest) c e).meterShape h

/-! ## A running trip -/

/-- A running trip goes on from one meter to another: it grows, and in TOTAL it stays there with its fare frozen. -/
def TripGoesOn (m n : Meter) (x y : Trip) : Prop :=
  (n.state = .hired ∨ n.state = .total) ∧ x.Grows y
    ∧ (m.state = .total → n.state = .total ∧ y.fare = x.fare ∧ y.increments = x.increments)

theorem TripGoesOn.of_hired (h : m.state = .hired) (on : n.state = .hired ∨ n.state = .total) (g : x.Grows y) :
    TripGoesOn m n x y := ⟨on, g, fun k => by simp [h] at k⟩

section
variable (on : m.state = .hired ∨ m.state = .total) (hx : m.trip = some x) (w : x.Within)
include on hx w

theorem TripGoesOn.refl (hy : m.trip = some y) : TripGoesOn m m x y := by
  obtain rfl := Option.some.inj (hx.symm.trans hy)
  exact ⟨on, .refl w, fun k => ⟨k, rfl, rfl⟩⟩

theorem Meter.Move.trip_goesOn (h : Meter.Move main m n) (hy : n.trip = some y) : TripGoesOn m n x y := by
  have mapped : ∀ f, m.trip.map f = some y → f x = y := fun f e => Option.some.inj ((Meter.map_trip hx f).symm.trans e)
  cases h with
  | opened h | closed h | awarded id h | released h => simp [h] at on
  | hired n x runs h g => rcases h with h | h <;> simp [h] at on
  | paid h => cases hy
  | ended c h =>
    obtain rfl := mapped _ hy
    exact .of_hired h (.inr rfl) (.of_flags w _ _ _ _ fun _ _ => id)
  | held h =>
    obtain rfl := mapped _ hy
    have used := Trip.holdUsed_grows w
    exact .of_hired h (.inl h) (used.trans (Trip.closeGate_grows used.within))
  | unheld runs h =>
    obtain rfl := mapped _ hy
    exact .of_hired h (.inl h) (Trip.openGate_grows w)
  | ran x' y' h k r =>
    obtain rfl := Option.some.inj (k.symm.trans hx)
    obtain rfl := Option.some.inj hy
    exact ⟨on, r.grows w, fun total => ⟨total, r.fare total, r.increments total⟩⟩

/-- A change of the gate of a HIRED trip (R14) lets the trip go on. -/
theorem Meter.mapHired_goesOn {f : Trip → Trip} (g : x.Grows (f x)) (hy : (m.mapHired f).trip = some y) :
    TripGoesOn m (m.mapHired f) x y := by
  unfold Meter.mapHired at hy ⊢
  split at hy
  · next h =>
    obtain rfl := Option.some.inj ((Meter.map_trip hx f).symm.trans hy)
    rw [if_pos h]
    exact .of_hired h (.inl h) g
  · next h =>
    rw [if_neg h]
    exact .refl on hx w hy

end

theorem MeterStep.trip_goesOn (e : MeterStep s t) (on : s.meter.state = .hired ∨ s.meter.state = .total)
    (hx : s.meter.trip = some x) (w : x.Within) (hy : t.meter.trip = some y) : TripGoesOn s.meter t.meter x y := by
  cases e with
  | stood k e | poweredUp hold up e => rw [e] at hy ⊢; exact .refl on hx w hy
  | moved k e => exact e.trip_goesOn on hx w hy
  | shed hold was up e => exact e ▸ Meter.mapHired_goesOn on hx w (Trip.closeGate_grows w) (e ▸ hy)
  | returned hold hold' was up e =>
    have opened : x.Grows (if s.meter.hold then x else x.openGate) := by
      split
      · exact .refl w
      · exact Trip.openGate_grows w
    exact e ▸ Meter.mapHired_goesOn on hx w opened (e ▸ hy)
  | lost hold e => rw [e] at hy; cases hy

/-- Settles O58, from what a command can do to the meter and what each move does to the trip. -/
theorem runningTripOnlyGrows : Obligations.RunningTripOnlyGrows := by
  intro c s t x y e on hx hy fare extrasTotal increments pulses gatedPulses
  obtain ⟨on', g, frozen⟩ :=
    (exec_meterStep c e).trip_goesOn on hx ⟨fare, extrasTotal, increments, pulses, gatedPulses⟩ hy
  exact ⟨on', g.number, g.jobId, g.band, g.copy, g.version, g.startClock, g.amounts, g.fare, g.within.fare,
    g.extrasTotal, g.within.extrasTotal, g.increments, g.pulses, g.gatedPulses, frozen, g.flags⟩

end Sys2Proof.Machine
end

section
/-! PROOFS. How a request is answered (R171 to R173), and the requests that are refused before their owner acts (R3,
R172, R197). -/

namespace Sys2Proof.Machine

variable {s u : State} {kind tag : Byte} {α : Type} {owner : α → State → State × Answer} {a : α}

/-! ## Answers -/

/-- A reply without a change of state. -/
theorem State.putReply_replied (code : ReplyCode) (p : List Byte) : OnlyReplied s
    (s.updateCheck (s.putReply kind tag { code, payload := p })).drive { kind, tag, code, payload := p } :=
  ⟨(OnlyChanges.putReply (bs := [.terminal, .pins]) kind tag _ (.refl s) (by decide)).endedMain (by decide) (by decide),
    rfl⟩

theorem serve_unfit {args : Option α} (m : s.mainRuns = true) (h : args = none) :
    ∃ t, serve kind tag args owner s = .next t
      ∧ OnlyReplied s t { kind, tag, code := .refusedRange, payload := [] } :=
  ⟨_, h ▸ serve_malformed kind tag owner m, s.putReply_replied _ _⟩

theorem serve_refused {code : ReplyCode} (m : s.mainRuns = true) (h : owner a s = s.refused code) :
    ∃ t, serve kind tag (some a) owner s = .next t ∧ OnlyReplied s t { kind, tag, code, payload := [] } := by
  refine ⟨_, serve_served kind tag a owner m, ?_⟩
  rw [h]
  exact s.putReply_replied _ _

/-- The state that a request answered OK from `u` ends in. -/
def State.answeredFrom (s u : State) (kind tag : Byte) (p : List Byte) : State :=
  (s.updateCheck (u.putReply kind tag (.ok p))).drive

theorem serve_ok {p : List Byte} (m : s.mainRuns = true) (h : owner a s = u.answered p) :
    serve kind tag (some a) owner s = .next (s.answeredFrom u kind tag p) := by
  rw [serve_served kind tag a owner m, h]
  rfl

/-- The reply, the retained check and the output lines are all that the answer adds. -/
theorem State.only_answeredFrom (s u : State) (kind tag : Byte) (p : List Byte) :
    OnlyChanges [.terminal, .check, .pins] u (s.answeredFrom u kind tag p) :=
  (OnlyChanges.putReply (bs := [.terminal]) kind tag (.ok p) (.refl u) (by decide)).trans (State.only_ended _ _)

theorem State.answeredFrom_answered {bs : List Block} {p : List Byte} (h : OnlyChanges bs s u) (mt : Block.terminal ∉ bs)
    (mc : Block.check ∈ bs) :
    Answered bs s (s.answeredFrom u kind tag p) { kind, tag, code := .ok, payload := p } := by
  refine ⟨(h.trans (s.only_answeredFrom u kind tag p)).mono ?_, ?_⟩
  · intro b hb
    rcases List.mem_append.mp hb with hb | hb
    · exact List.mem_cons_of_mem _ (List.mem_cons_of_mem _ hb)
    · have answer : b = .terminal ∨ b = .check ∨ b = .pins := by simpa using hb
      rcases answer with rfl | rfl | rfl <;> simp [mc]
  · have terminal : u.terminal = s.terminal := h.keep .terminal mt
    rw [← terminal]
    rfl

/-! ## Payloads that do not hold the fields of their kind (R197) -/

theorem argNone_none {p : List Byte} (h : p ≠ []) : argNone p = none := by
  simp [argNone, h]

theorem argByte_none {p : List Byte} (h : p.length ≠ 1) : argByte p = none := by
  unfold argByte
  split
  · simp at h
  · rfl

theorem argWord_none {p : List Byte} (h : p.length ≠ 2) : argWord p = none := by
  unfold argWord
  split
  · simp at h
  · rfl

theorem argEventSet_none {p : List Byte} (h : p.length ≠ 3 ∨ 2 ^ 18 ≤ beNat p) : argEventSet p = none := by
  unfold argEventSet
  split
  · exact if_neg (Nat.not_lt.mpr (h.resolve_left (by simp)))
  · rfl

theorem argNotices_none {p : List Byte} (h : p.length ≠ 18 ∨ ∃ b ∈ p, 4 ≤ b.toNat) : argNotices p = none := by
  refine if_neg fun ⟨length, small⟩ => ?_
  obtain ⟨b, hb, large⟩ := h.resolve_left (absurd length)
  have := of_decide_eq_true (List.all_eq_true.mp small b hb)
  omega

theorem argAnswer_none {p : List Byte} (h : p.length ≠ 3 ∨ byteAt p 2 = 0) : argAnswer p = none := by
  unfold argAnswer
  split
  · exact if_pos (h.resolve_left (by simp))
  · rfl

theorem argDriver_none {p : List Byte} (h : p.length < 2 ∨ p.length ≠ 2 + byteAt p 1
    ∨ byteAt p 0 = 0 ∧ (byteAt p 1 = 0 ∨ 64 < byteAt p 1) ∨ byteAt p 0 ≠ 0 ∧ byteAt p 1 ≠ 0) : argDriver p = none := by
  unfold argDriver
  split
  · next c n body =>
    have code : byteAt (c :: n :: body) 0 = c.toNat := rfl
    have count : byteAt (c :: n :: body) 1 = n.toNat := rfl
    rw [code, count, List.length_cons, List.length_cons] at h
    by_cases whole : n.toNat ≠ body.length
    · exact if_pos whole
    · rw [if_neg whole]
      by_cases coded : c.toNat ≠ 0
      · rw [if_pos coded, if_neg (by rw [List.isEmpty_iff_length_eq_zero]; omega)]
      · rw [if_neg coded, if_neg (by omega)]
  · rfl

theorem argUp_none {p : List Byte} (h : p = [] ∨ 199 < p.length) : argUp p = none := by
  refine if_neg fun ⟨least, most⟩ => ?_
  rcases h with rfl | h
  · simp at least
  · omega

theorem localFields_none {β : Type} {r : Except Nat β} (h : ∀ v, r ≠ .ok v) : localFields r = none := by
  cases r with
  | ok v => exact absurd rfl (h v)
  | error _ => rfl

theorem TableId.ofCode_range {n : Nat} {t : TableId} (h : TableId.ofCode n = some t) : 1 ≤ n ∧ n ≤ 5 := by
  unfold TableId.ofCode at h
  split at h
  case h_6 => cases h
  all_goals decide

theorem byteAt_eq_take {p : List Byte} (h : 1 ≤ p.length) : beNat (p.take 1) = byteAt p 0 := by
  obtain ⟨b, rest, rfl⟩ := List.exists_cons_of_length_pos h
  simp [beNat, byteAt]

/-- The table id and generation number at the head of a local table request. -/
theorem tableHead_holds {p : List Byte} {v : TableId × Nat} {d : Cursor} (h : (Cursor.start p).tableHead = .ok (v, d)) :
    3 ≤ p.length ∧ byteAt p 0 ≠ 0 ∧ byteAt p 0 ≤ 5 ∧ beNat (slice p 1 2) ≠ 0 ∧ d.rest = p.drop 3 := by
  unfold Cursor.tableHead at h
  obtain ⟨⟨table, c⟩, field, h⟩ := bind_ok.mp h
  obtain ⟨⟨generation, c'⟩, number, h⟩ := bind_ok.mp h
  obtain ⟨byte, code, rfl⟩ := Cursor.field_ok.mp field
  obtain ⟨word, value, low, -, rfl⟩ := Cursor.number_ok.mp number
  cases h
  change 1 ≤ p.length at byte
  change 2 ≤ (p.drop 1).length at word
  change beNat (slice p 1 2) = generation at value
  change TableId.ofCode (beNat (p.take 1)) = some table at code
  rw [byteAt_eq_take byte] at code
  have range := TableId.ofCode_range code
  rw [List.length_drop] at word
  refine ⟨by omega, by omega, range.2, by omega, ?_⟩
  exact List.drop_drop

theorem parseOpen_holds {p : List Byte} {f : OpenFields} (h : parseOpen p = .ok f) :
    p.length = 5 ∧ byteAt p 0 ≠ 0 ∧ byteAt p 0 ≤ 5 ∧ beNat (slice p 1 2) ≠ 0 ∧ beNat (slice p 3 2) ≠ 0
      ∧ beNat (slice p 3 2) ≤ 4096 := by
  obtain ⟨⟨v, c⟩, head, h⟩ := bind_ok.mp h
  obtain ⟨⟨length, d⟩, number, h⟩ := bind_ok.mp h
  obtain ⟨-, low, high, generation, rest⟩ := tableHead_holds head
  obtain ⟨word, value, least, most, rfl⟩ := Cursor.number_ok.mp number
  obtain ⟨empty, -⟩ := Cursor.done_ok.mp h
  rw [rest] at word value
  change beNat (slice p 3 2) = length at value
  have bound := congrArg List.length (rest ▸ empty : (p.drop 3).drop 2 = [])
  simp only [List.length_drop, List.length_nil] at word bound
  exact ⟨by omega, low, high, generation, by omega, by omega⟩

theorem parseSegment_holds {p : List Byte} {f : SegmentFields} (h : parseSegment p = .ok f) :
    6 ≤ p.length ∧ byteAt p 0 ≠ 0 ∧ byteAt p 0 ≤ 5 ∧ beNat (slice p 1 2) ≠ 0 ∧ beNat (slice p 3 2) ≤ 4095 := by
  obtain ⟨⟨v, c⟩, head, h⟩ := bind_ok.mp h
  obtain ⟨⟨offset, d⟩, number, h⟩ := bind_ok.mp h
  obtain ⟨⟨data, d'⟩, bytes, -⟩ := bind_ok.mp h
  obtain ⟨-, low, high, generation, rest⟩ := tableHead_holds head
  obtain ⟨word, value, least, most, rfl⟩ := Cursor.number_ok.mp number
  obtain ⟨some, all, -⟩ := Cursor.data_ok.mp bytes
  rw [rest] at word value
  change beNat (slice p 3 2) = offset at value
  have left := List.length_pos_of_ne_nil some
  rw [← all] at left
  simp only [rest, List.length_drop] at word left
  exact ⟨by omega, low, high, generation, by omega⟩

theorem parseCommit_holds {p : List Byte} {f : CommitFields} (h : parseCommit p = .ok f) :
    p.length = 5 ∧ byteAt p 0 ≠ 0 ∧ byteAt p 0 ≤ 5 ∧ beNat (slice p 1 2) ≠ 0 := by
  obtain ⟨⟨v, c⟩, head, h⟩ := bind_ok.mp h
  obtain ⟨⟨check, d⟩, number, h⟩ := bind_ok.mp h
  obtain ⟨-, low, high, generation, rest⟩ := tableHead_holds head
  obtain ⟨word, -, -, -, rfl⟩ := Cursor.number_ok.mp number
  obtain ⟨empty, -⟩ := Cursor.done_ok.mp h
  rw [rest] at word
  have bound := congrArg List.length (rest ▸ empty : (p.drop 3).drop 2 = [])
  simp only [List.length_drop, List.length_nil] at word bound
  exact ⟨by omega, low, high, generation⟩

theorem parseAbort_holds {p : List Byte} {f : AbortFields} (h : parseAbort p = .ok f) :
    p.length = 3 ∧ byteAt p 0 ≠ 0 ∧ byteAt p 0 ≤ 5 ∧ beNat (slice p 1 2) ≠ 0 := by
  obtain ⟨⟨v, c⟩, head, h⟩ := bind_ok.mp h
  obtain ⟨least, low, high, generation, rest⟩ := tableHead_holds head
  obtain ⟨empty, -⟩ := Cursor.done_ok.mp h
  have bound := congrArg List.length (rest ▸ empty : p.drop 3 = [])
  simp only [List.length_drop, List.length_nil] at bound
  exact ⟨by omega, low, high, generation⟩

/-! ## Requests that are refused -/

section
variable {states : List MeterState} {args : Option α}

theorem serveMeter_unfit (m : s.mainRuns = true) (h : s.meter.state ∈ states) (hn : args = none) :
    ∃ t, serveMeter kind tag states args owner s = .next t
      ∧ OnlyReplied s t { kind, tag, code := .refusedRange, payload := [] } := by
  rw [serveMeter_permitted _ _ _ _ _ h]
  exact serve_unfit m hn

theorem serveMeter_notPermitted (m : s.mainRuns = true) (h : s.meter.state ∉ states) :
    ∃ t, serveMeter kind tag states args owner s = .next t
      ∧ OnlyReplied s t { kind, tag, code := .refusedState, payload := [] } :=
  ⟨_, serveMeter_refused _ _ _ _ _ h m, s.putReply_replied _ _⟩

end

/-- R3: the nine meter requests, each in the states that do not permit it. -/
theorem exec_notPermitted {c : Instr} {k : Nat} {payload : List Byte} {states : List MeterState} (m : s.mainRuns = true)
    (parts : requestParts c = some (k, tag, payload)) (permits : (k, states) ∈ meterPermits)
    (h : s.meter.state ∉ states) : ∃ t, exec c s = .next t
      ∧ OnlyReplied s t { kind := BitVec.ofNat 8 k, tag, code := .refusedState, payload := [] } := by
  cases c with
  | jobCancel | hire | endTrip | paid | holdOn | holdOff | extra | shiftOpen | shiftClose =>
    cases parts
    obtain rfl : states = _ := by simpa [meterPermits] using permits
    exact serveMeter_notPermitted m h
  | _ => cases parts <;> simp [meterPermits] at permits

/-- A request's kind, tag and payload spell it, but for the level of SVC. -/
theorem requestCommand_of_parts {c : Instr} {k : Nat} {p : List Byte} (h : requestParts c = some (k, tag, p)) :
    ∃ svc, requestCommand svc k tag p = some c := by
  cases c with
  | localTableOpen svc | localTableCommit svc => cases h; exact ⟨svc, rfl⟩
  | _ => cases h <;> exact ⟨false, rfl⟩

section
variable {c : Instr} {svc : Bool} {k : Nat} {p : List Byte} (m : s.mainRuns = true)
  (e : requestCommand svc k tag p = some c) (permits : ∀ states, (k, states) ∈ meterPermits → s.meter.state ∈ states)
include m e permits

/-- The requests without fields (R197). -/
theorem exec_unfit_noFields (hp : p ≠ [])
    (hk : k ∈ [0x80, 0x81, 0x87, 0x89, 0x8B, 0x8C, 0x8D, 0x8E, 0x90, 0x91, 0x97, 0x99, 0x9A, 0x9F]) :
    ∃ t, exec c s = .next t
      ∧ OnlyReplied s t { kind := BitVec.ofNat 8 k, tag, code := .refusedRange, payload := [] } := by
  have none := argNone_none hp
  simp only [List.mem_cons, List.not_mem_nil, or_false] at hk
  rcases hk with rfl | rfl | rfl | rfl | rfl | rfl | rfl | rfl | rfl | rfl | rfl | rfl | rfl | rfl <;> cases e
  · exact serve_unfit m none
  · exact serve_unfit m none
  · exact serveMeter_unfit m (permits [.assigned] (by decide)) none
  · exact serve_unfit m none
  · exact serveMeter_unfit m (permits [.hired] (by decide)) none
  · exact serveMeter_unfit m (permits [.total] (by decide)) none
  · exact serveMeter_unfit m (permits [.hired] (by decide)) none
  · exact serveMeter_unfit m (permits [.hired] (by decide)) none
  · exact serveMeter_unfit m (permits [.off] (by decide)) none
  · exact serveMeter_unfit m (permits [.vacant] (by decide)) none
  · exact serve_unfit m none
  · exact serve_unfit m none
  · exact serve_unfit m none
  · exact serve_unfit (owner := fun _ t => t.softReset.answered []) m none

/-- The requests with one byte: HIRE, EXTRA and READ_STORE (R197). -/
theorem exec_unfit_byte (hp : p.length ≠ 1) (hk : k ∈ [0x8A, 0x8F, 0x92]) : ∃ t, exec c s = .next t
    ∧ OnlyReplied s t { kind := BitVec.ofNat 8 k, tag, code := .refusedRange, payload := [] } := by
  have none := argByte_none hp
  simp only [List.mem_cons, List.not_mem_nil, or_false] at hk
  rcases hk with rfl | rfl | rfl <;> cases e
  · exact serveMeter_unfit m (permits [.vacant, .assigned] (by decide)) none
  · exact serveMeter_unfit m (permits [.hired, .total] (by decide)) none
  · exact serve_unfit m none

omit permits in
/-- The requests with one two-byte field (R197). -/
theorem exec_unfit_word (hp : p.length ≠ 2) (hk : k ∈ [0x84, 0x85, 0x86, 0x88, 0x93, 0x94]) : ∃ t, exec c s = .next t
    ∧ OnlyReplied s t { kind := BitVec.ofNat 8 k, tag, code := .refusedRange, payload := [] } := by
  have none := argWord_none hp
  simp only [List.mem_cons, List.not_mem_nil, or_false] at hk
  rcases hk with rfl | rfl | rfl | rfl | rfl | rfl <;> cases e <;> exact serve_unfit m none

end

/-- Settles O4: in a permitted meter state each payload of the list fails its kind's layout or a range; in any other the
payload does not count. -/
theorem unfitRequestsRefused : Obligations.UnfitRequestsRefused := by
  refine ⟨fun s c k tag payload m parts permits h => ?_, fun s c k tag payload states => exec_notPermitted⟩
  obtain ⟨svc, e⟩ := requestCommand_of_parts parts
  rcases h with ⟨hk, hp⟩ | ⟨hk, hp⟩ | ⟨hk, hp⟩ | ⟨rfl, hp⟩ | ⟨rfl, hp⟩ | ⟨rfl, hp⟩ | ⟨rfl, hp⟩ | ⟨rfl, hp⟩ | ⟨rfl, hp⟩
    | ⟨rfl, hp⟩ | ⟨rfl, hp⟩ | ⟨rfl, hp⟩
  · exact exec_unfit_noFields m e permits hp hk
  · exact exec_unfit_byte m e permits hp hk
  · exact exec_unfit_word m e hp hk
  · cases e; exact serve_unfit m (argEventSet_none hp)
  · cases e; exact serve_unfit m (argNotices_none hp)
  · cases e; exact serve_unfit m (argAnswer_none hp)
  · cases e; exact serve_unfit m (argDriver_none hp)
  · cases e; exact serve_unfit m (argUp_none hp)
  · cases e
    refine serve_unfit m (localFields_none fun f hf => ?_)
    have holds := parseOpen_holds hf
    omega
  · cases e
    refine serve_unfit m (localFields_none fun f hf => ?_)
    have holds := parseSegment_holds hf
    omega
  · cases e
    refine serve_unfit m (localFields_none fun f hf => ?_)
    have holds := parseCommit_holds hf
    omega
  · cases e
    refine serve_unfit m (localFields_none fun f hf => ?_)
    have holds := parseAbort_holds hf
    omega

end Sys2Proof.Machine
end

section
/-! PROOFS. The meter's own requests: SHIFT_OPEN (R4, R53), END, HOLD_ON, HOLD_OFF and EXTRA (R12 to R17). -/

namespace Sys2Proof.Machine

variable {s u : State} {kind tag : Byte} {α : Type} {owner : α → State → State × Answer} {a : α}
  {states : List MeterState} {bs : List Block} {x : Trip}

/-! ## A meter request in a permitted state -/

theorem serveMeter_refusedBy {code : ReplyCode} (m : s.mainRuns = true) (p : s.meter.state ∈ states)
    (h : owner a s = s.refused code) : ∃ t, serveMeter kind tag states (some a) owner s = .next t
      ∧ OnlyReplied s t { kind, tag, code, payload := [] } := by
  rw [serveMeter_permitted _ _ _ _ _ p]
  exact serve_refused m h

theorem serveMeter_ok {p : List Byte} (m : s.mainRuns = true) (hs : s.meter.state ∈ states)
    (h : owner a s = u.answered p) :
    serveMeter kind tag states (some a) owner s = .next (s.answeredFrom u kind tag p) := by
  rw [serveMeter_permitted _ _ _ _ _ hs]
  exact serve_ok m h

section
variable (s u : State) (kind tag : Byte) (p : List Byte)

theorem State.answeredFrom_offers : (s.answeredFrom u kind tag p).offers = u.offers := rfl
theorem State.answeredFrom_arbiter : (s.answeredFrom u kind tag p).arbiter = u.arbiter := rfl

end

/-! ## Shifts -/

theorem State.openShift_refused (h : s.identity.cab = 0 ∨ s.tariff = none) : s.openShift = s.refused .refusedState := by
  unfold State.openShift
  split
  · rfl
  · next hc => rw [if_pos (by simp [h.resolve_left hc])]

/-- The state in which a shift has been opened. -/
def State.opened (s : State) : State :=
  (s.withMeter { s.meter with state := .vacant }).withStore
    { s.store with totals := .fresh (seqNext Config.countMax s.store.totals.shift) }

theorem State.openShift_ok (hc : s.identity.cab ≠ 0) (ht : s.tariff ≠ none) : s.openShift = s.opened.answered [] := by
  unfold State.openShift
  rw [if_neg hc, if_neg (by simpa using ht)]
  rfl

theorem State.only_opened : OnlyChanges [.meter, .store, .check] s s.opened :=
  ((OnlyChanges.refl s).withMeter (by decide)).withStore (by decide)

/-- ROOF is on in VACANT, unless the pattern shows or the retained domain holds still (R21, R191). -/
theorem State.roofLevel_vacant (roof : s.roof = .steady) (h : s.monitor.holding = false) (v : s.meter.state = .vacant) :
    s.roofLevel = true := by
  simp [State.roofLevel, roof, h, v]

/-- Settles O19, from the two outcomes of `State.openShift`. -/
theorem shiftOpens : Obligations.ShiftOpens := by
  intro s tag m off
  have permitted : s.meter.state ∈ [MeterState.off] := by simp [off]
  by_cases h : s.identity.cab = 0 ∨ s.tariff = none
  · obtain ⟨t, e, replied⟩ := serveMeter_refusedBy (kind := 0x90#8) (tag := tag) (a := ())
      (owner := fun _ t => t.openShift) m permitted (State.openShift_refused h)
    exact ⟨t, e, fun _ => replied, fun hc ht => absurd h (by simp [hc, ht])⟩
  · obtain ⟨hc, ht⟩ := not_or.mp h
    refine ⟨_, serveMeter_ok (a := ()) m permitted (State.openShift_ok hc ht), fun k => absurd k h, fun _ _ => ?_⟩
    exact ⟨State.answeredFrom_answered State.only_opened (by decide) (by decide), rfl, rfl, fun roof holding =>
      State.roofLevel_vacant (s := s.opened) roof holding rfl⟩

/-! ## The trip -/

theorem Trip.closeGate_eq (x : Trip) : x.closeGate
    = { x with gateOpen := false, accumulator := if x.gateOpen && x.copy.gateClears then 0 else x.accumulator } := by
  unfold Trip.closeGate
  split
  · next h => simp [h]
  · next h => cases x; simp_all

/-- The meter alone changes, to the answer OK. -/
theorem serveMeter_meter {p : List Byte} {v : Meter} (m : s.mainRuns = true) (hs : s.meter.state ∈ states)
    (h : owner a s = (s.withMeter v).answered p) : ∃ t, serveMeter kind tag states (some a) owner s = .next t
      ∧ Answered [.meter, .check] s t { kind, tag, code := .ok, payload := p } ∧ t.meter = v :=
  ⟨_, serveMeter_ok m hs h,
    State.answeredFrom_answered ((OnlyChanges.refl s).withMeter (by decide)) (by decide) (by decide), rfl⟩

theorem State.endTrip_eq (k : s.meter.trip = some x) : s.endTrip = (s.withMeter { s.meter with
    state := .total, hold := false
    trip := some { x with endClock := some s.time.clock, accumulator := 0, gateOpen := false } }).answered [] := by
  rw [State.endTrip, k]
  rfl

theorem State.holdOn_eq (k : s.meter.trip = some x) : s.holdOn = (s.withMeter { s.meter with
    hold := true
    trip := some { x with
      flags := { x.flags with holdUsed := true }
      gateOpen := false
      accumulator := if x.gateOpen && x.copy.gateClears then 0 else x.accumulator } }).answered [] := by
  rw [State.holdOn, k]
  simp only [Option.map_some, Trip.closeGate_eq]

theorem State.holdOff_eq (m : s.mainRuns = true) (k : s.meter.trip = some x) : s.holdOff =
    (s.withMeter { s.meter with hold := false, trip := some { x with gateOpen := true } }).answered [] := by
  rw [State.holdOff, k]
  simp only [Option.map_some, if_neg (State.condition_of_mainRuns m)]
  rfl

theorem State.takeExtra_refused {i : Nat} (k : s.meter.trip = some x) (h : x.extraFor i = none) :
    s.takeExtra i = s.refused .refusedRange := by
  rw [State.takeExtra, k]
  simp only [h]

theorem State.takeExtra_ok {i : Nat} {e : TripExtra} (k : s.meter.trip = some x) (h : x.extraFor i = some e) :
    s.takeExtra i = (s.withMeter { s.meter with trip := some (x.addExtra i e) }).answered
      (amount (x.addExtra i e).extrasTotal ++ amount (x.addExtra i e).total) := by
  rw [State.takeExtra, k]
  simp only [h]

/-- R17: no such extra in the list, or its maximum is reached. -/
theorem Trip.extraFor_none {i : Nat}
    (h : i = 0 ∨ x.extras.length < i ∨ ∃ e, x.extras[i - 1]? = some e ∧ e.max ≤ e.used) : x.extraFor i = none := by
  unfold Trip.extraFor
  by_cases zero : i = 0
  · exact if_pos zero
  · rw [if_neg zero]
    rcases h.resolve_left zero with beyond | ⟨e, at_i, used⟩
    · rw [List.getElem?_eq_none (by omega)]
      rfl
    · rw [at_i]
      exact Option.filter_eq_none_iff.mpr fun e' h' => by cases h'; simpa using used

theorem Trip.extraFor_append {as cs : List TripExtra} {e : TripExtra} {i : Nat} (h : x.extras = as ++ e :: cs)
    (at_i : i = as.length + 1) (free : e.used < e.max) : x.extraFor i = some e := by
  unfold Trip.extraFor
  rw [if_neg (by omega), h, at_i]
  simp [free]

/-- R17: the extra is used once more, and its amount is added within the limit. -/
theorem Trip.addExtra_append {as cs : List TripExtra} {e : TripExtra} {i sum : Nat} (h : x.extras = as ++ e :: cs)
    (at_i : i = as.length + 1) (hsum : sum = min 999999 (x.extrasTotal + e.amount)) : x.addExtra i e = { x with
      extrasTotal := sum, extras := as ++ { e with used := e.used + 1 } :: cs
      flags := { x.flags with
        fareCapped := x.flags.fareCapped || decide (999999 < x.extrasTotal + e.amount ∨ 999999 < x.fare + sum) } } := by
  have used : x.extras.set (i - 1) { e with used := e.used + 1 } = as ++ { e with used := e.used + 1 } :: cs := by
    rw [h, at_i]
    simp
  have total : satAdd Config.moneyMax x.extrasTotal e.amount = sum := hsum.symm
  unfold Trip.addExtra Trip.cap
  rw [used, total]
  by_cases capped : 999999 < x.extrasTotal + e.amount ∨ 999999 < x.fare + sum
  · rw [if_pos (by simpa using capped)]
    simp [capped]
  · rw [if_neg (by simpa using capped)]
    simp [capped]

/-- Settles O23: each request has one equation in the states that permit it, and EXTRA two. -/
theorem tripRequestsTaken : Obligations.TripRequestsTaken := by
  refine ⟨fun s tag x m h k => ?_, fun s tag x m h k => ⟨?_, ?_⟩, fun s tag p x m h k => ?_⟩
  · exact serveMeter_meter (a := ()) m (by simp [h]) (State.endTrip_eq k)
  · exact serveMeter_meter (a := ()) m (by simp [h]) (State.holdOn_eq k)
  · exact serveMeter_meter (a := ()) m (by simp [h]) (State.holdOff_eq m k)
  · have permitted : s.meter.state ∈ [MeterState.hired, .total] := by simpa using h
    cases none : x.extraFor p.toNat with
    | none =>
      obtain ⟨t, e, replied⟩ := serveMeter_refusedBy (kind := 0x8F#8) (tag := tag) m permitted
        (State.takeExtra_refused k none)
      refine ⟨t, e, fun _ => replied, fun as e' cs sum y h at_p free _ _ => ?_⟩
      rw [Trip.extraFor_append h at_p free] at none
      cases none
    | some e =>
      obtain ⟨t, et, answered, meter⟩ := serveMeter_meter (kind := 0x8F#8) (tag := tag) m permitted
        (State.takeExtra_ok k none)
      refine ⟨t, et, fun refusing => ?_, fun as e' cs sum y h at_p free hsum hy => ?_⟩
      · have zero : p.toNat = 0 ∨ x.extras.length < p.toNat ∨ ∃ e, x.extras[p.toNat - 1]? = some e ∧ e.max ≤ e.used :=
          refusing.imp_left (congrArg BitVec.toNat)
        rw [Trip.extraFor_none zero] at none
        cases none
      · obtain rfl : e' = e := Option.some.inj ((Trip.extraFor_append h at_p free).symm.trans none)
        rw [Trip.addExtra_append h at_p hsum] at answered meter
        subst hy
        exact ⟨answered, meter⟩

end Sys2Proof.Machine
end

section
/-! PROOFS. The flags, and what leaves with the entries of the Offer Unit (R60, R77, R81, R176). -/

namespace Sys2Proof.Machine

variable {s t : State}

/-! ## Flags -/

/-- The kinds in the order of R176. -/
def eventKinds : List EventKind :=
  [.offerNew, .offerClosed, .jobAwarded, .jobWithdrawn, .msgNew, .msgUrgent, .msgRecalled, .totalAcked, .totalBacklog,
    .storeFolded, .linkState, .tableResult, .seatCheck, .fault, .passReady, .passOverrun, .condition, .emergency]

theorem eventKinds_index (k : EventKind) : eventKinds[k.index]? = some k := by cases k <;> rfl

theorem EventKind.index_inj {j k : EventKind} : j.index = k.index ↔ j = k := by
  refine ⟨fun h => ?_, congrArg _⟩
  have same := eventKinds_index j
  rw [h, eventKinds_index k] at same
  exact (Option.some.inj same).symm

theorem Events.flag_set (e k : EventKind) (ev : Events) :
    (ev.set e).flags.getLsbD k.index = (ev.flags.getLsbD k.index || decide (k = e)) := by
  rw [Events.set_bit, decide_eq_decide.mpr EventKind.index_inj]

theorem Raised.flagged {es : List EventKind} (h : Raised es s t) (k : EventKind) :
    t.flagged k = (s.flagged k || decide (k ∈ es)) := by
  have folded : ∀ (es : List EventKind) (ev : Events), (es.foldl (fun ev e => ev.set e) ev).flags.getLsbD k.index
      = (ev.flags.getLsbD k.index || decide (k ∈ es)) := by
    intro es
    induction es with
    | nil => simp
    | cons e es ih => intro ev; simp [ih, Events.flag_set, Bool.or_assoc]
  rw [State.flagged, h, folded]
  rfl

/-! ## SHOWN entries lapse -/

theorem OfferEntry.lapse_eq (e : OfferEntry) : e.lapse = if e.state = .shown then e.become .lapsed else e := by
  unfold OfferEntry.lapse OfferEntry.become
  split <;> rfl

theorem OfferEntry.lapse_of_ne {e : OfferEntry} (h : e.state ≠ .shown) : e.lapse = e := if_neg h

theorem OfferEntry.lapse_not_shown (e : OfferEntry) : e.lapse.state ≠ .shown := by
  unfold OfferEntry.lapse
  split
  · simp
  · assumption

theorem OfferEntry.lapse_id (e : OfferEntry) : e.lapse.id = e.id := by
  unfold OfferEntry.lapse
  split <;> rfl

theorem State.lapseShown_offers :
    s.lapseShown.offers = { s.offers with entries := s.offers.entries.map OfferEntry.lapse } := by
  have entries := s.lapseShown_entries
  rw [← funext OfferEntry.lapse_eq] at entries
  have others : s.lapseShown.offers = { s.offers with entries := s.lapseShown.offers.entries } := by
    have raised : ∀ u : State, (u.raise .offerClosed).offers = u.offers := fun u =>
      (u.only_raise _).keep .offers (by decide)
    unfold State.lapseShown
    split
    · rw [raised]; rfl
    · rfl
  rw [others, entries]

theorem State.lapseShown_events (m : s.mainRuns = true) :
    s.lapseShown.events = if s.anyEntry .shown then s.events.set .offerClosed else s.events := by
  unfold State.lapseShown
  split
  · rw [State.raise_events]
    exact if_pos m
  · rfl

theorem State.anyEntry_iff {st : OfferState} : s.anyEntry st = true ↔ ∃ e ∈ s.offers.entries, e.state = st := by
  simp [State.anyEntry]

theorem State.anyEntry_eq_false {st : OfferState} : s.anyEntry st = false ↔ ∀ e ∈ s.offers.entries, e.state ≠ st := by
  simp [State.anyEntry]

/-! ## The stop in PARKED (R81, R129) -/

theorem State.stopAir_link : s.stopAir.link = if s.link.run = .running then
    { s.link with run := if s.link.record = none then .stopped else .stopping } else s.link := by
  unfold State.stopAir
  split
  · unfold State.receiveBoundary
    by_cases h : s.link.record = none <;> simp [h]
  · rfl

theorem State.stopOffers_of_not_running (h : s.offers.run ≠ .running) : s.stopOffers = s := if_neg h

/-- With an entry in BID the Offer Unit is stopping (R81). -/
theorem State.stopOffers_bid (h : s.offers.run = .running) (b : ∃ e ∈ s.offers.entries, e.state = .bid) :
    s.stopOffers = s.withOffers { s.offers with run := .stopping } := by
  have bid : (s.withOffers { s.offers with run := .stopping }).anyEntry .bid = true := State.anyEntry_iff.mpr b
  rw [State.stopOffers, if_pos h, State.offerBoundary, if_neg (by simp [bid])]

/-- The state of a stopped Offer Unit. -/
def State.offersHalted (s : State) : State := s.withOffers { s.offers with run := .stopped }

/-- Without one it stops at once, and its SHOWN entries lapse (R81). -/
theorem State.stopOffers_free (h : s.offers.run = .running) (b : ∀ e ∈ s.offers.entries, e.state ≠ .bid) :
    s.stopOffers = s.offersHalted.lapseShown := by
  have free : (s.withOffers { s.offers with run := .stopping }).anyEntry .bid = false := State.anyEntry_eq_false.mpr b
  rw [State.stopOffers, if_pos h, State.offerBoundary, if_pos ⟨rfl, free⟩]
  rfl

end Sys2Proof.Machine
end

section
/-! PROOFS. SEAT_CHECK, the roof toggle and the end of the ignition debounce (R20, R21, R186, R187). -/

namespace Sys2Proof.Machine

variable {s t u : State} {es : List EventKind}

theorem State.whenRetained_running (f : State → State) (h : s.monitor.holding = false) : s.whenRetained f = f s := by
  simp [State.whenRetained, h]

/-! ## The seat check and the roof -/

theorem State.reportSeat_idle (h : s.seat.due = false) : s.reportSeat = s := by simp [State.reportSeat, h]

theorem State.reportSeat_due (h : s.seat.due = true) :
    s.reportSeat = (s.withSeat { s.seat with reported := true, due := false }).raise .seatCheck := by
  simp [State.reportSeat, h]

theorem seatCheck_reports (h : s.monitor.holding = false) : ∃ t, exec .seatCheck s = .next t
    ∧ (s.seat.due = false → OnlyChanges [.pins] s t)
    ∧ (s.seat.due = true → OnlyChanges [.seat, .events, .check, .pins] s t
        ∧ t.seat = { s.seat with reported := true, due := false }
        ∧ Raised (if s.mainRuns then [.seatCheck] else []) s t) := by
  refine ⟨_, congrArg (done s) (State.whenRetained_running _ h), fun idle => ?_, fun due => ⟨?_, ?_, ?_⟩⟩
  · rw [State.reportSeat_idle idle]
    exact s.only_ended_self
  · exact (s.only_reportSeat.mono (by decide)).ended (by decide) (by decide)
  · rw [State.reportSeat_due due]
    exact (State.only_raise _ _).keep .seat (by decide)
  · have raised : s.reportSeat.events = if s.mainRuns then s.events.set .seatCheck else s.events := by
      rw [State.reportSeat_due due, State.raise_events]
      rfl
    refine raised.trans ?_
    split <;> rfl

theorem RoofPhase.toggle_due (on : Bool) : (RoofPhase.blinking on 5).toggle = .blinking (!on) 0 := rfl

theorem RoofPhase.toggle_idle {p : RoofPhase} (h : ∀ on, p ≠ .blinking on 5) : p.toggle = p := by
  cases p with
  | blinking on n =>
    refine if_neg fun five => h on ?_
    rw [show n = 5 from five]
  | _ => rfl

theorem State.roofLevel_blinking {on : Bool} {n : Nat} (roof : s.roof = .blinking on n) (h : s.monitor.holding = false) :
    s.roofLevel = on := by
  simp [State.roofLevel, roof, h]

theorem roofBlinkToggle_toggles (h : s.monitor.holding = false) : ∃ t, exec .roofBlinkToggle s = .next t
    ∧ OnlyChanges [.roof, .check, .pins] s t
    ∧ (∀ on, s.roof = .blinking on 5 → t.roof = .blinking (!on) 0 ∧ t.pins.roof = !on)
    ∧ ((∀ on, s.roof ≠ .blinking on 5) → t.roof = s.roof) := by
  refine ⟨_, congrArg (done s) (State.whenRetained_running _ h),
    (s.only_toggleRoof.mono (by decide)).ended (by decide) (by decide), fun on due => ?_, fun idle => ?_⟩
  · have toggled : s.toggleRoof.roof = .blinking (!on) 0 := (congrArg RoofPhase.toggle due).trans (RoofPhase.toggle_due on)
    exact ⟨toggled, State.roofLevel_blinking toggled h⟩
  · exact RoofPhase.toggle_idle idle

/-! ## The end of the ignition debounce -/

/-- The ignition takes the sampled level (R186). -/
def State.debounced (s : State) : State :=
  s.withMonitor { s.monitor with ignition := s.monitor.ignLevel, ignCount := 0 }

theorem State.endDebounce_due (h : s.monitor.holding = false) (due : s.monitor.ignCount = 20) :
    s.endDebounce = s.debounced.conditionChanged := if_pos ⟨h, due⟩

theorem State.endDebounce_idle (h : s.monitor.ignCount ≠ 20) : s.endDebounce = s := if_neg fun due => h due.2

theorem State.conditionChanged_held (m : s.mainRuns = false) : s.conditionChanged = s := by
  simp [State.conditionChanged, m]

theorem State.condition_parked (m : s.mainRuns = true) : s.condition = .parked ↔ s.monitor.ignition = false := by
  unfold State.condition
  rw [State.supplyUp_of_mainRuns m]
  cases s.monitor.ignition <;> decide

theorem State.conditionChanged_driving (m : s.mainRuns = true) (on : s.monitor.ignition = true) :
    s.conditionChanged = (s.raise .condition).runAir.runOffers := by
  have raised := s.only_raise .condition
  have driving : (s.raise .condition).condition ≠ .parked := by
    rw [raised.condition_eq (by decide), Ne, State.condition_parked m, on]
    decide
  rw [State.conditionChanged, if_pos m]
  exact if_neg driving

/-- The air link's part of the entry to PARKED (R129, R187). -/
def State.airParked (s : State) : State :=
  if s.settings.stopAir then (s.raise .condition).stopAir else s.raise .condition

theorem State.only_airParked : OnlyChanges [.events, .link] s s.airParked := by
  have raised : OnlyChanges [.events, .link] s (s.raise .condition) := .raise _ (.refl s) (by decide)
  unfold State.airParked
  split
  · exact .stopAir raised (by decide)
  · exact raised

theorem State.airParked_events (m : s.mainRuns = true) : s.airParked.events = s.events.set .condition := by
  have raised : (s.raise .condition).events = s.events.set .condition := by rw [State.raise_events, if_pos m]
  unfold State.airParked
  split
  · exact ((State.only_stopAir _).keep .events (by decide)).trans raised
  · exact raised

theorem State.airParked_link : s.airParked.link = if s.settings.stopAir = true ∧ s.link.run = .running then
    { s.link with run := if s.link.record = none then .stopped else .stopping } else s.link := by
  have link : (s.raise .condition).link = s.link := (s.only_raise _).keep .link (by decide)
  unfold State.airParked
  split
  · next stop => rw [State.stopAir_link, link]; simp [stop]
  · next stop => rw [link]; simp [stop]

theorem State.conditionChanged_parked (m : s.mainRuns = true) (off : s.monitor.ignition = false) :
    s.conditionChanged = if s.settings.stopOffers then s.airParked.stopOffers else s.airParked := by
  have raised := s.only_raise .condition
  have parked : (s.raise .condition).condition = .parked := by
    rw [raised.condition_eq (by decide)]
    exact (State.condition_parked m).mpr off
  have settings : s.airParked.settings = s.settings := State.only_airParked.keep .settings (by decide)
  have stop : (s.raise .condition).settings = s.settings := raised.keep .settings (by decide)
  rw [State.conditionChanged, if_pos m, ← settings]
  unfold State.airParked
  rw [← stop]
  exact if_pos parked

theorem State.parked_link (m : s.mainRuns = true) (off : s.monitor.ignition = false) :
    s.conditionChanged.link = s.airParked.link := by
  rw [State.conditionChanged_parked m off]
  split
  · exact (State.only_stopOffers _).keep .link (by decide)
  · rfl

/-- The Offer Unit's part of the entry to PARKED (R81, R187). -/
theorem State.parked_offers (m : s.mainRuns = true) (off : s.monitor.ignition = false) :
    (s.settings.stopOffers = false ∨ s.offers.run ≠ .running →
        s.conditionChanged.offers = s.offers ∧ Raised [.condition] s s.conditionChanged)
      ∧ (s.settings.stopOffers = true → s.offers.run = .running →
          ((∃ e ∈ s.offers.entries, e.state = .bid) →
            s.conditionChanged.offers = { s.offers with run := .stopping } ∧ Raised [.condition] s s.conditionChanged)
          ∧ ((∀ e ∈ s.offers.entries, e.state ≠ .bid) →
            s.conditionChanged.offers
              = { s.offers with run := .stopped, entries := s.offers.entries.map OfferEntry.lapse }
            ∧ Raised (if s.offers.entries.any fun e => e.state = .shown then [.condition, .offerClosed]
                else [.condition]) s s.conditionChanged)) := by
  have offers : s.airParked.offers = s.offers := State.only_airParked.keep .offers (by decide)
  have events := State.airParked_events m
  have runs : s.airParked.mainRuns = true := (State.only_airParked.mainRuns_eq (by decide)).trans m
  rw [State.conditionChanged_parked m off]
  refine ⟨fun stands => ?_, fun stop run => ⟨fun bid => ?_, fun free => ?_⟩⟩
  · have still : (if s.settings.stopOffers then s.airParked.stopOffers else s.airParked) = s.airParked := by
      split
      · next stop => exact State.stopOffers_of_not_running (offers ▸ stands.resolve_left (by simp [stop]))
      · rfl
    rw [still]
    exact ⟨offers, events⟩
  · rw [if_pos stop, State.stopOffers_bid (offers ▸ run) (offers ▸ bid)]
    exact ⟨congrArg (fun o : Offers => { o with run := .stopping }) offers, events⟩
  · rw [if_pos stop, State.stopOffers_free (offers ▸ run) (offers ▸ free)]
    have shown : s.airParked.offersHalted.anyEntry .shown = s.offers.entries.any fun e => e.state = .shown := by
      simp [State.anyEntry, State.offersHalted, offers]
    refine ⟨State.lapseShown_offers.trans (by simp [State.offersHalted, offers]), ?_⟩
    rw [Raised, State.lapseShown_events (s := s.airParked.offersHalted) runs, shown]
    change ite _ (s.airParked.events.set _) s.airParked.events = _
    rw [events]
    split <;> rfl

theorem ignDebounceEnd_idle (h : s.monitor.ignCount ≠ 20) :
    ∃ t, exec .ignDebounceEnd s = .next t ∧ OnlyChanges [.pins] s t :=
  ⟨_, congrArg (done s) (State.endDebounce_idle h), s.only_ended_self⟩

/-- The monitor's debounce, and the state it leaves the other parts in. -/
theorem ignDebounceEnd_due (h : s.monitor.holding = false) (due : s.monitor.ignCount = 20) :
    exec .ignDebounceEnd s = done s s.debounced.conditionChanged :=
  congrArg (done s) (State.endDebounce_due h due)

theorem Raised.condition_kinds (h : Raised es s t) (r : .condition ∈ es) (c : ∀ e ∈ es, e = .condition ∨ e = .offerClosed) :
    t.flagged .condition = true ∧ ∀ k, k ≠ .condition → k ≠ .offerClosed → t.flagged k = s.flagged k := by
  refine ⟨by simp [h.flagged, r], fun k condition closed => ?_⟩
  have out : k ∉ es := fun hk => (c k hk).elim condition closed
  simp [h.flagged, out]

/-- What raises its event is CONDITION, and OFFER_CLOSED where entries lapse. -/
theorem State.conditionChanged_raised (m : s.mainRuns = true) :
    ∃ es, Raised es s s.conditionChanged ∧ .condition ∈ es ∧ ∀ e ∈ es, e = .condition ∨ e = .offerClosed := by
  cases on : s.monitor.ignition with
  | true =>
    rw [State.conditionChanged_driving m on]
    exact ⟨[.condition], (State.raise_events _).trans (if_pos m), by simp, by simp⟩
  | false =>
    obtain ⟨stands, stops⟩ := State.parked_offers m on
    by_cases h : s.settings.stopOffers = false ∨ s.offers.run ≠ .running
    · exact ⟨_, (stands h).2, by simp, by simp⟩
    · obtain ⟨stop, run⟩ := not_or.mp h
      obtain ⟨bid, free⟩ := stops (by simpa using stop) (not_not.mp run)
      by_cases b : ∃ e ∈ s.offers.entries, e.state = .bid
      · exact ⟨_, (bid b).2, by simp, by simp⟩
      · refine ⟨_, (free (by simpa using b)).2, ?_⟩
        split <;> simp

theorem State.conditionChanged_runs (m : s.mainRuns = true) (on : s.monitor.ignition = true) :
    Raised [.condition] s s.conditionChanged ∧ s.conditionChanged.link = { s.link with run := .running }
      ∧ s.conditionChanged.offers = { s.offers with run := .running } := by
  have raised := s.only_raise .condition
  have link : (s.raise .condition).link = s.link := raised.keep .link (by decide)
  have offers : (s.raise .condition).offers = s.offers := raised.keep .offers (by decide)
  rw [State.conditionChanged_driving m on]
  exact ⟨(State.raise_events _).trans (if_pos m), congrArg (fun l : Link => { l with run := .running }) link,
    congrArg (fun o : Offers => { o with run := .running }) offers⟩

/-- What the end of the debounce writes. -/
theorem State.only_endDebounced :
    OnlyChanges [.monitor, .link, .offers, .events] s s.debounced.conditionChanged :=
  .conditionChanged (.withMonitor (.refl s) (by decide)) (by decide)

/-- Settles O36; a due end of the debounce is `State.conditionChanged` from the state with the new ignition level. -/
theorem tickEventsTakeEffect : Obligations.TickEventsTakeEffect := by
  refine fun s holding => ⟨seatCheck_reports holding, roofBlinkToggle_toggles holding, ?_⟩
  by_cases due : s.monitor.ignCount = 20
  · have only := s.only_endDebounced
    have monitor : s.debounced.conditionChanged.monitor = s.debounced.monitor :=
      (State.only_conditionChanged _).keep .monitor (by decide)
    have held := State.conditionChanged_held (s := s.debounced)
    have raises := State.conditionChanged_raised (s := s.debounced)
    have driving := State.conditionChanged_runs (s := s.debounced)
    have link := State.parked_link (s := s.debounced)
    have offers := State.parked_offers (s := s.debounced)
    have ends := ignDebounceEnd_due holding due
    generalize s.debounced.conditionChanged = u at *
    refine ⟨_, ends, fun h => absurd due h, fun _ => ⟨(only.mono (by decide)).ended (by decide) (by decide), monitor,
      fun m => ?_, fun m => ?_⟩⟩
    · exact held m ▸ ⟨rfl, rfl, rfl⟩
    · obtain ⟨es, raised, condition, kinds⟩ := raises m
      obtain ⟨flag, others⟩ := raised.condition_kinds condition kinds
      refine ⟨flag, others, driving m, fun off => ?_⟩
      have link : u.link = _ := (link m off).trans State.airParked_link
      obtain ⟨stands, stops⟩ := offers m off
      exact ⟨fun h => link.trans (if_neg fun k => Bool.noConfusion (h.symm.trans k.1)),
        fun h r => link.trans (if_pos ⟨h, r⟩), fun _ r => link.trans (if_neg fun k => r k.2), stands, stops⟩
  · obtain ⟨t, e, only⟩ := ignDebounceEnd_idle due
    exact ⟨t, e, fun _ => only, fun h => absurd h due⟩

end Sys2Proof.Machine
end

section
/-! PROOFS. Events raised in a row, the cancels that class 1 takes (R76, R140), and what leaves VACANT, ASSIGNED and the
pulse count behind (R34, R77, R78). -/

namespace Sys2Proof.Machine

variable {s t u : State} {es fs : List EventKind}

/-! ## Events raised one after another -/

theorem Raised.of_events (h : t.events = s.events) : Raised [] s t := h

theorem Raised.trans (h : Raised es s t) (k : Raised fs t u) : Raised (es ++ fs) s u := by
  rw [Raised, List.foldl_append, ← h]
  exact k

theorem Raised.kept (h : Raised es s t) (k : u.events = t.events) : Raised es s u := k.trans h

theorem Raised.from_same (k : t.events = s.events) (h : Raised es t u) : Raised es s u := by
  rw [Raised, ← k]
  exact h

theorem State.raise_raised (m : s.mainRuns = true) (e : EventKind) : Raised [e] s (s.raise e) :=
  (State.raise_events e).trans (if_pos m)

/-- Only flags are set: enables and lines stay. -/
theorem Raised.setup (h : Raised es s t) : t.events.enables = s.events.enables ∧ t.events.lines = s.events.lines := by
  have folded : ∀ (es : List EventKind) (ev : Events),
      (es.foldl (fun ev e => ev.set e) ev).enables = ev.enables ∧ (es.foldl (fun ev e => ev.set e) ev).lines = ev.lines := by
    intro es
    induction es with
    | nil => exact fun _ => ⟨rfl, rfl⟩
    | cons e es ih => exact fun ev => ih (ev.set e)
  rw [h]
  exact folded es s.events

/-- Where nothing but OFFER_CLOSED is raised, and that exactly when `p` holds. -/
theorem Raised.flagged_closed {p : Bool} (h : Raised es s t) (only : ∀ e ∈ es, e = .offerClosed)
    (closes : .offerClosed ∈ es ↔ p = true) (k : EventKind) : t.flagged k = (s.flagged k || k = .offerClosed && p) := by
  have mem : decide (k ∈ es) = (k = .offerClosed && p) := by
    rw [← Bool.decide_coe p, ← Bool.decide_and, decide_eq_decide, ← closes]
    exact ⟨fun hk => ⟨only k hk, only k hk ▸ hk⟩, fun ⟨e, hk⟩ => e ▸ hk⟩
  rw [h.flagged, mem]

/-! ## Cancels are placed (R76) -/

/-- The entries `new` have joined the queue for the oldest OWED cancels, which now stand QUEUED. -/
def CancelsAdded (s : State) (new : List Entry) (t : State) : Prop :=
  t.arbiter = { s.arbiter with queue := s.arbiter.queue ++ new }
    ∧ (∀ e ∈ new, ∃ c ∈ s.offers.cancels, c.stage = .owed ∧ e = .bidCancel c.offer c.reason)
    ∧ ((s.offers.cancels.map Cancel.offer).Nodup →
        new <+: (s.offers.cancels.filter fun c => c.stage = .owed).map fun c => .bidCancel c.offer c.reason)
    ∧ t.offers.cancels = s.offers.cancels.map fun c =>
        if new.any (Entry.isCancelFor c.offer) then { c with stage := .queued } else c

theorem CancelsAdded.none : CancelsAdded s [] s :=
  ⟨by simp, by simp, fun _ => List.nil_prefix, by simp⟩

/-- The cancel of an offer takes its place in the queue. -/
def Cancel.queueFor (offer : Nat) (c : Cancel) : Cancel := if c.offer = offer then { c with stage := .queued } else c

theorem Cancel.queueFor_of_owed {c : Cancel} {offer : Nat} (h : (c.queueFor offer).stage = .owed) :
    c.queueFor offer = c := by
  unfold Cancel.queueFor at h ⊢
  split
  · next same => rw [if_pos same] at h; cases h
  · rfl

/-- Behind the oldest OWED cancel, the OWED ones stay as they are when it is queued. -/
theorem owed_after_queueFor {cs : List Cancel} {c : Cancel} (h : cs.find? Cancel.isOwed = some c)
    (nodup : (cs.map Cancel.offer).Nodup) :
    (cs.filter fun d => d.stage = .owed) = c :: (cs.map (Cancel.queueFor c.offer)).filter fun d => d.stage = .owed := by
  obtain ⟨owed, as, bs, rfl, none⟩ := List.find?_eq_some_iff_append.mp h
  have stage : c.stage = .owed := by simpa [Cancel.isOwed] using owed
  have before : ∀ d ∈ as, d.stage ≠ .owed := fun d hd => by simpa [Cancel.isOwed] using none d hd
  rw [List.map_append, List.map_cons] at nodup
  obtain ⟨-, tail, apart⟩ := List.nodup_append.mp nodup
  have others : ∀ d ∈ as ++ bs, d.queueFor c.offer = d := fun d hd => if_neg fun same => by
    rcases List.mem_append.mp hd with hd | hd
    · exact apart _ (List.mem_map_of_mem hd) _ List.mem_cons_self same
    · exact (List.nodup_cons.mp tail).1 (same ▸ List.mem_map_of_mem hd)
  have queued : (c.queueFor c.offer).stage ≠ .owed := by simp [Cancel.queueFor]
  have front : as.map (Cancel.queueFor c.offer) = as :=
    (List.map_congr_left fun d hd => others d (List.mem_append_left _ hd)).trans (List.map_id _)
  have back : bs.map (Cancel.queueFor c.offer) = bs :=
    (List.map_congr_left fun d hd => others d (List.mem_append_right _ hd)).trans (List.map_id _)
  have gone : (as.filter fun d => d.stage = .owed) = [] := List.filter_eq_nil_iff.mpr fun d hd => by simpa using before d hd
  simp [front, back, gone, stage, queued]

/-- The oldest OWED cancel is placed, and then further ones. -/
theorem CancelsAdded.cons {c : Cancel} {new : List Entry} (h : s.offers.cancels.find? Cancel.isOwed = some c)
    (k : CancelsAdded ((s.enqueue (.bidCancel c.offer c.reason)).setCancel c.offer .queued) new t) :
    CancelsAdded s (.bidCancel c.offer c.reason :: new) t := by
  obtain ⟨arbiter, owed, first, cancels⟩ := k
  have list : ((s.enqueue (.bidCancel c.offer c.reason)).setCancel c.offer .queued).offers.cancels
      = s.offers.cancels.map (Cancel.queueFor c.offer) := rfl
  rw [list] at owed first cancels
  refine ⟨?_, ?_, fun nodup => ?_, ?_⟩
  · exact arbiter.trans (congrArg (fun q => { s.arbiter with queue := q }) (List.append_assoc s.arbiter.queue [_] new))
  · intro e he
    rcases List.mem_cons.mp he with rfl | he
    · exact ⟨c, List.mem_of_find?_eq_some h, by simpa [Cancel.isOwed] using List.find?_some h, rfl⟩
    · obtain ⟨_, queued, stage, rfl⟩ := owed e he
      obtain ⟨d, hd, rfl⟩ := List.mem_map.mp queued
      have same := Cancel.queueFor_of_owed stage
      exact ⟨d, hd, same ▸ stage, by rw [same]⟩
  · have same : ∀ d : Cancel, (d.queueFor c.offer).offer = d.offer := fun d => by unfold Cancel.queueFor; split <;> rfl
    have nodup' : ((s.offers.cancels.map (Cancel.queueFor c.offer)).map Cancel.offer).Nodup := by
      rw [List.map_map, show Cancel.offer ∘ Cancel.queueFor c.offer = Cancel.offer from funext same]
      exact nodup
    rw [owed_after_queueFor h nodup, List.map_cons]
    exact (List.cons_prefix_cons).mpr ⟨rfl, first nodup'⟩
  · rw [cancels, List.map_map]
    refine List.map_congr_left fun d _ => ?_
    by_cases same : d.offer = c.offer
    · simp [Cancel.queueFor, Entry.isCancelFor, same]
    · simp [Cancel.queueFor, Entry.isCancelFor, same, Ne.symm same]

/-- No cancel waits for which class 1 has a place. -/
def State.CancelsSettled (s : State) : Prop :=
  (∀ c ∈ s.offers.cancels, c.stage ≠ .owed) ∨ Class1Full s.arbiter.queue

theorem class1Full_of_no_place {q : List Entry} {offer : Nat} {r : CancelReason}
    (h : hasPlace q (.bidCancel offer r) = false) : Class1Full q := by
  simp only [hasPlace, sharedFree, Config.sharedPlaces, Bool.or_eq_false_iff, beq_eq_false_iff_ne, Bool.and_eq_false_iff,
    decide_eq_false_iff_not] at h
  unfold Class1Full
  omega

/-- One turn: no cancel waits for a place, or the oldest takes one. -/
theorem State.placeCancel_turn (m : s.mainRuns = true) :
    s.placeCancel = s ∧ s.CancelsSettled
      ∨ ∃ c, s.offers.cancels.find? Cancel.isOwed = some c
        ∧ s.placeCancel = (s.enqueue (.bidCancel c.offer c.reason)).setCancel c.offer .queued := by
  unfold State.placeCancel
  split
  · next none => exact .inl ⟨rfl, .inl fun c hc => by simpa [Cancel.isOwed] using List.find?_eq_none.mp none c hc⟩
  · next c found =>
    split
    · exact .inr ⟨c, found, rfl⟩
    · next full => exact .inl ⟨rfl, .inr (class1Full_of_no_place (by simpa [m] using full))⟩

theorem classCount_placed (c : Cancel) : classCount ((s.enqueue (.bidCancel c.offer c.reason)).setCancel c.offer
    .queued).arbiter.queue 1 = classCount s.arbiter.queue 1 + 1 :=
  classCount_append _ _ _

/-- Two turns settle the cancels, as class 1 holds at most two entries (R140). -/
theorem State.placeCancels_placed (m : s.mainRuns = true) : CancelsPlaced s.arbiter s.offers.cancels s.placeCancels := by
  suffices h : ∃ new, CancelsAdded s new s.placeCancels ∧ s.placeCancels.CancelsSettled by
    obtain ⟨new, ⟨arbiter, owed, first, cancels⟩, settled⟩ := h
    exact ⟨new, arbiter, owed, first, cancels, settled⟩
  unfold State.placeCancels
  rcases s.placeCancel_turn m with ⟨same, settled⟩ | ⟨c, found, placed⟩
  · exact ⟨[], by rw [same, same]; exact .none, by rw [same, same]; exact settled⟩
  · rw [placed]
    have count := classCount_placed (s := s) c
    have added : CancelsAdded s [.bidCancel c.offer c.reason] _ := .cons found .none
    have m' : ((s.enqueue (.bidCancel c.offer c.reason)).setCancel c.offer .queued).mainRuns = true := m
    generalize hu : (s.enqueue (.bidCancel c.offer c.reason)).setCancel c.offer .queued = u at *
    rcases u.placeCancel_turn m' with ⟨same, settled⟩ | ⟨d, found', placed'⟩
    · exact ⟨_, by rw [same]; exact added, by rw [same]; exact settled⟩
    · have count' := classCount_placed (s := u) d
      have further : CancelsAdded u [.bidCancel d.offer d.reason] _ := .cons found' .none
      rw [placed']
      refine ⟨_, .cons found (by rw [hu]; exact further), .inr (.inl ?_)⟩
      omega

theorem CancelsPlaced.congr {a : Arbiter} {owing : List Cancel} (h : CancelsPlaced a owing t) (arbiter : u.arbiter = t.arbiter)
    (cancels : u.offers.cancels = t.offers.cancels) : CancelsPlaced a owing u := by
  unfold CancelsPlaced at h ⊢
  rwa [arbiter, cancels]

/-- A cancel becomes owed, and is placed as far as class 1 has places (R76). -/
theorem State.oweCancel_placed (m : s.mainRuns = true) (id : Nat) (r : CancelReason) :
    CancelsPlaced s.arbiter (oweInto s.offers.cancels { offer := id, reason := r, stage := .owed }) (s.oweCancel id r) :=
  State.placeCancels_placed (s := s.withCancels (oweInto s.offers.cancels { offer := id, reason := r, stage := .owed })) m

theorem State.oweCancel_entries (id : Nat) (r : CancelReason) : (s.oweCancel id r).offers.entries = s.offers.entries := by
  have turn : ∀ u : State, u.placeCancel.offers.entries = u.offers.entries := fun u => by
    rcases u.placeCancel_cases with ⟨h, -⟩ | ⟨c, -, -, -, -, h⟩ <;> rw [h]
    rfl
  exact (turn _).trans (turn _)

/-! ## The meter leaves VACANT (R77) -/

theorem State.lapseShown_raised (m : s.mainRuns = true) :
    Raised (if s.anyEntry .shown then [.offerClosed] else []) s s.lapseShown := by
  rw [Raised, State.lapseShown_events m]
  split <;> rfl

theorem State.lapseShown_none (h : s.anyEntry .shown = false) : s.lapseShown = s := by simp [State.lapseShown, h]

theorem State.lapseShown_arbiter : s.lapseShown.arbiter = s.arbiter := s.only_lapseShown.keep .arbiter (by decide)

theorem State.lapseShown_mainRuns : s.lapseShown.mainRuns = s.mainRuns := s.only_lapseShown.mainRuns_eq (by decide)

theorem State.lapseOffers_free (h : ∀ e ∈ s.offers.entries, e.state ≠ .bid) : s.lapseOffers = s.lapseShown := by
  rw [State.lapseOffers, List.find?_eq_none.mpr fun e he => by simpa using h e he]

/-- The state once the SHOWN entries and the entry in BID have lapsed, before the bid is given up. -/
def State.bidLapsed (s : State) (e : OfferEntry) : State := s.lapseShown.closeEntry e.id .lapsed

theorem State.lapseOffers_bid {e : OfferEntry} (h : s.offers.entries.find? (fun e => e.state = .bid) = some e) :
    s.lapseOffers = ((s.bidLapsed e).lapseBid e.id).offerBoundary := by
  rw [State.lapseOffers, h]
  rfl

theorem State.bidLapsed_offers (e : OfferEntry) : (s.bidLapsed e).offers = { s.offers with
    entries := (s.offers.entries.map OfferEntry.lapse).map fun x => if x.id = e.id then x.become .lapsed else x } := by
  have raised : ∀ u : State, (u.raise .offerClosed).offers = u.offers := fun u => (u.only_raise _).keep .offers (by decide)
  have closed : (s.bidLapsed e).offers = (s.lapseShown.setEntry e.id .lapsed).offers := raised _
  rw [closed, State.setEntry, State.withEntries, State.withOffers_offers, State.lapseShown_offers]

theorem State.bidLapsed_raised (m : s.mainRuns = true) (e : OfferEntry) :
    Raised ((if s.anyEntry .shown then [.offerClosed] else []) ++ [.offerClosed]) s (s.bidLapsed e) := by
  have runs : (s.lapseShown.setEntry e.id .lapsed).mainRuns = true := State.lapseShown_mainRuns.trans m
  exact (State.lapseShown_raised m).trans (State.raise_raised runs .offerClosed)

theorem State.only_bidLapsed (e : OfferEntry) : OnlyChanges [.offers, .events] s (s.bidLapsed e) :=
  .closeEntry _ _ (.lapseShown (.refl s) (by decide)) (by decide)

section
variable {id : Nat}

theorem State.lapseBid_queued (h : s.bidStage id = some .queued) : s.lapseBid id = s.dropBid := by
  rw [State.lapseBid, h]

theorem State.lapseBid_inFlight (h : s.bidStage id = some .inFlight) :
    s.lapseBid id = s.withBid (s.offers.bid.map fun b => { b with mark := .cancelOnDone }) := by
  rw [State.lapseBid, h]

theorem State.lapseBid_sent (h : s.bidStage id = some .sent) : s.lapseBid id = (s.withBid none).oweCancel id .busy := by
  rw [State.lapseBid, h]

end

theorem State.lapseBid_entries (id : Nat) : (s.lapseBid id).offers.entries = s.offers.entries := by
  rcases s.lapseBid_cases id with ⟨h, -⟩ | ⟨-, h⟩ | ⟨-, h⟩ | ⟨-, h⟩ <;> rw [h]
  · rcases s.dropBid_cases with ⟨h, -⟩ | ⟨b, -, h, -⟩ <;> rw [h]
  · rfl
  · exact State.oweCancel_entries _ _

/-- Nothing raised by a stop that takes effect is not OFFER_CLOSED (R81). -/
theorem State.offerBoundary_raised (m : s.mainRuns = true) :
    ∃ es, Raised es s s.offerBoundary ∧ ∀ e ∈ es, e = .offerClosed := by
  rcases s.offerBoundary_cases with ⟨same, -⟩ | ⟨-, -, stop⟩
  · exact ⟨[], .of_events (by rw [same]), by simp⟩
  · rw [stop]
    refine ⟨_, State.lapseShown_raised (s := s.withOffers _) m, ?_⟩
    split <;> simp

/-- OFFER_CLOSED is raised exactly when an entry in SHOWN or BID lapses (R77). -/
theorem State.lapseOffers_raised (m : s.mainRuns = true) : ∃ es, Raised es s s.lapseOffers
    ∧ (∀ e ∈ es, e = .offerClosed)
    ∧ (.offerClosed ∈ es ↔ (s.offers.entries.any fun e => e.state = .shown || e.state = .bid) = true) := by
  cases found : s.offers.entries.find? (fun e => e.state = .bid) with
  | none =>
    have free : ∀ e ∈ s.offers.entries, e.state ≠ .bid := by simpa using List.find?_eq_none.mp found
    rw [State.lapseOffers_free free]
    have same : (s.offers.entries.any fun e => e.state = .shown || e.state = .bid) = s.anyEntry .shown := by
      refine Bool.eq_iff_iff.mpr ?_
      rw [State.anyEntry_iff, List.any_eq_true]
      refine exists_congr fun e => and_congr_right fun he => ?_
      simp [free e he]
    rw [same]
    refine ⟨_, State.lapseShown_raised m, ?_⟩
    split <;> simp_all
  | some e =>
    have lapsed := State.bidLapsed_raised m e
    have only := s.only_bidLapsed e
    have runs : (s.bidLapsed e).mainRuns = true := (only.mainRuns_eq (by decide)).trans m
    have given := (s.bidLapsed e).only_lapseBid e.id
    have runs' : ((s.bidLapsed e).lapseBid e.id).mainRuns = true := (given.mainRuns_eq (by decide)).trans runs
    obtain ⟨es, boundary, closed⟩ := State.offerBoundary_raised runs'
    rw [State.lapseOffers_bid found]
    refine ⟨_, (lapsed.kept (given.keep .events (by decide))).trans boundary, ?_, ?_⟩
    · intro k hk
      rcases List.mem_append.mp hk with hk | hk
      · split at hk <;> simpa using hk
      · exact closed k hk
    · have mem := List.mem_of_find?_eq_some found
      have bid : e.state = .bid := by simpa using List.find?_some found
      simp only [List.mem_append, List.mem_singleton, or_true, true_or, List.any_eq_true, true_iff]
      exact ⟨e, mem, by simp [bid]⟩

/-! ### With an entry in BID -/

theorem State.anyEntry_congr {st : OfferState} (h : t.offers = s.offers) : t.anyEntry st = s.anyEntry st := by
  rw [State.anyEntry, State.anyEntry, h]

/-- Beside the entry in BID no other is in BID, and none has its id (R58). -/
theorem State.tableBounded_bid {as bs : List OfferEntry} {e : OfferEntry} (b : s.tableBounded = true)
    (split : s.offers.entries = as ++ e :: bs) (bid : e.state = .bid) :
    (∀ x ∈ as ++ bs, x.state ≠ .bid) ∧ ∀ x ∈ as ++ bs, x.id ≠ e.id := by
  simp only [State.tableBounded, split, Bool.and_eq_true, decide_eq_true_eq, List.map_append, List.map_cons,
    List.filter_append, List.filter_cons] at b
  obtain ⟨⟨-, nodup⟩, one⟩ := b
  have engaged : e.engaged = true := by simp [OfferEntry.engaged, bid]
  rw [if_pos engaged, List.length_append, List.length_cons] at one
  have none : ∀ l : List OfferEntry, (l.filter OfferEntry.engaged).length = 0 → ∀ x ∈ l, x.state ≠ .bid :=
    fun l h x hx k => by
      have := List.filter_eq_nil_iff.mp (List.length_eq_zero_iff.mp h) x hx
      simp [OfferEntry.engaged, k] at this
  obtain ⟨-, tail, apart⟩ := List.nodup_append.mp nodup
  refine ⟨fun x hx => ?_, fun x hx same => ?_⟩
  · rcases List.mem_append.mp hx with hx | hx
    · exact none as (by omega) x hx
    · exact none bs (by omega) x hx
  · rcases List.mem_append.mp hx with hx | hx
    · exact apart _ (List.mem_map_of_mem hx) _ List.mem_cons_self same
    · exact (List.nodup_cons.mp tail).1 (same ▸ List.mem_map_of_mem hx)

section
variable {as bs : List OfferEntry} {e : OfferEntry} (bounded : s.tableBounded = true)
  (parts : s.offers.entries = as ++ e :: bs) (bid : e.state = .bid)
include bounded parts bid

theorem State.find_bid : s.offers.entries.find? (fun x => x.state = .bid) = some e := by
  refine List.find?_eq_some_iff_append.mpr ⟨by simpa using bid, as, bs, parts, fun x hx => ?_⟩
  simpa using (State.tableBounded_bid bounded parts bid).1 x (List.mem_append_left _ hx)

theorem State.bidLapsed_entries : (s.bidLapsed e).offers.entries
    = as.map OfferEntry.lapse ++ { e with state := .lapsed, waiting := none } :: bs.map OfferEntry.lapse := by
  obtain ⟨-, ids⟩ := State.tableBounded_bid bounded parts bid
  have others : ∀ l : List OfferEntry, (∀ x ∈ l, x.id ≠ e.id) →
      (l.map OfferEntry.lapse).map (fun x => if x.id = e.id then x.become .lapsed else x) = l.map OfferEntry.lapse := by
    intro l h
    rw [List.map_map]
    exact List.map_congr_left fun x hx => if_neg (by rw [x.lapse_id]; exact h x hx)
  have self : e.lapse = e := OfferEntry.lapse_of_ne (by simp [bid])
  rw [State.bidLapsed_offers, parts]
  simp only [List.map_append, List.map_cons]
  rw [others as fun x hx => ids x (List.mem_append_left _ hx), others bs fun x hx => ids x (List.mem_append_right _ hx),
    self, if_pos rfl]
  rfl

omit bounded parts bid in
theorem State.offerBoundary_quiet (h : s.anyEntry .shown = false) : s.offerBoundary.offers.entries = s.offers.entries
    ∧ s.offerBoundary.offers.cancels = s.offers.cancels ∧ s.offerBoundary.arbiter = s.arbiter := by
  rcases s.offerBoundary_cases with ⟨same, -⟩ | ⟨-, -, stop⟩
  · rw [same]
    exact ⟨rfl, rfl, rfl⟩
  · have quiet : s.offersHalted.lapseShown = s.offersHalted := State.lapseShown_none h
    rw [show s.offerBoundary = s.offersHalted from stop.trans quiet]
    exact ⟨rfl, rfl, rfl⟩

/-- After the SHOWN entries and the one in BID have lapsed none is in SHOWN, so a waiting stop changes no entry (R81). -/
theorem State.lapseOffers_quiet : s.lapseOffers.offers.entries = (s.bidLapsed e).offers.entries
    ∧ s.lapseOffers.offers.cancels = ((s.bidLapsed e).lapseBid e.id).offers.cancels
    ∧ s.lapseOffers.arbiter = ((s.bidLapsed e).lapseBid e.id).arbiter := by
  have entries := (s.bidLapsed e).lapseBid_entries e.id
  have none : ((s.bidLapsed e).lapseBid e.id).anyEntry .shown = false := by
    refine State.anyEntry_eq_false.mpr fun x hx => ?_
    rw [entries, State.bidLapsed_entries bounded parts bid] at hx
    rcases List.mem_append.mp hx with hx | hx
    · obtain ⟨y, -, rfl⟩ := List.mem_map.mp hx
      exact y.lapse_not_shown
    · rcases List.mem_cons.mp hx with rfl | hx
      · simp
      · obtain ⟨y, -, rfl⟩ := List.mem_map.mp hx
        exact y.lapse_not_shown
  obtain ⟨same, cancels, arbiter⟩ := State.offerBoundary_quiet none
  rw [State.lapseOffers_bid (State.find_bid bounded parts bid)]
  exact ⟨same.trans entries, cancels, arbiter⟩

theorem State.lapseOffers_entries : s.lapseOffers.offers.entries
    = as.map OfferEntry.lapse ++ { e with state := .lapsed, waiting := none } :: bs.map OfferEntry.lapse :=
  (State.lapseOffers_quiet bounded parts bid).1.trans (State.bidLapsed_entries bounded parts bid)

variable {b : BidRecord} (matched : s.bidMatched = true) (record : s.offers.bid = some b)
include matched record

omit bounded in
theorem State.bidMatched_offer : b.offer = e.id := by
  simp only [State.bidMatched, Bool.and_eq_true, List.all_eq_true] at matched
  have own := matched.1 e (by rw [parts]; simp)
  simp only [bid, record, ne_eq, not_true_eq_false, decide_false, Bool.false_or, Option.any_some, Bool.and_eq_true,
    decide_eq_true_eq] at own
  exact own.1

/-- What becomes of the bid of a lapsed entry, by its stage (R77). -/
theorem State.lapseOffers_arbiter (m : s.mainRuns = true) :
    (b.stage = .queued → s.lapseOffers.arbiter = Arbiter.without (.bid e.id) s.arbiter)
      ∧ (b.stage = .inFlight → s.lapseOffers.arbiter = s.arbiter)
      ∧ (b.stage = .sent → CancelsPlaced s.arbiter
          (oweInto s.offers.cancels { offer := e.id, reason := .busy, stage := .owed }) s.lapseOffers) := by
  obtain ⟨-, cancels, arbiter⟩ := State.lapseOffers_quiet bounded parts bid
  have only := s.only_bidLapsed e
  have kept : (s.bidLapsed e).arbiter = s.arbiter := only.keep .arbiter (by decide)
  have runs : (s.bidLapsed e).mainRuns = true := (only.mainRuns_eq (by decide)).trans m
  have own : b.offer = e.id := State.bidMatched_offer parts bid matched record
  have offers := s.bidLapsed_offers e
  have record' : (s.bidLapsed e).offers.bid = some b := by rw [offers]; exact record
  have owing : (s.bidLapsed e).offers.cancels = s.offers.cancels := by rw [offers]
  have stage : (s.bidLapsed e).bidStage e.id = some b.stage := by simp [State.bidStage, record', own]
  generalize s.bidLapsed e = v at *
  rw [arbiter]
  refine ⟨fun h => ?_, fun h => ?_, fun h => ?_⟩
  · rw [State.lapseBid_queued (stage.trans (congrArg some h))]
    rcases v.dropBid_cases with ⟨-, none⟩ | ⟨b', some, -, drop⟩
    · cases record'.symm.trans none
    · cases record'.symm.trans some
      refine drop.trans ?_
      rw [if_neg (by simp [h]), kept, own]
  · rw [State.lapseBid_inFlight (stage.trans (congrArg some h))]
    exact kept
  · rw [State.lapseBid_sent (stage.trans (congrArg some h))] at cancels arbiter
    have placed := State.oweCancel_placed (s := v.withBid none) runs e.id .busy
    rw [show (v.withBid none).arbiter = s.arbiter from kept,
      show (v.withBid none).offers.cancels = s.offers.cancels from owing] at placed
    exact placed.congr arbiter cancels

end

/-! ## The meter leaves ASSIGNED (R78) -/

theorem State.closeAwarded_offers (id : Option Nat) (st : OfferState) : (s.closeAwarded id st).offers = { s.offers with
      entries := s.offers.entries.map fun e =>
        if some e.id = id ∧ e.state = .awarded then e.become st else e } := by
  have raised : ∀ u : State, (u.raise .offerClosed).offers = u.offers := fun u => (u.only_raise _).keep .offers (by decide)
  unfold State.closeAwarded
  split
  · rw [raised]
    rfl
  · next none =>
    have same : (s.offers.entries.map fun e => if some e.id = id ∧ e.state = .awarded then e.become st else e)
        = s.offers.entries :=
      (List.map_congr_left fun e he => if_neg fun k => none (List.any_eq_true.mpr ⟨e, he, by simpa using k⟩)).trans
        (List.map_id _)
    rw [same]

theorem State.closeAwarded_raised (m : s.mainRuns = true) (id : Option Nat) (st : OfferState) :
    Raised (if (s.offers.entries.any fun e => some e.id = id && e.state = .awarded) then [.offerClosed] else []) s
      (s.closeAwarded id st) := by
  unfold State.closeAwarded
  split
  · exact (State.raise_events _).trans (if_pos m)
  · exact .of_events rfl

/-! ## The pulse count is closed (R33 to R35) -/

theorem State.closePulses_fault (m : s.mainRuns = true) : s.closePulses.fault
    = if s.pulses ≤ 4095 then s.fault else s.faultAfter .distOverrate .none 0 s.pulses := by
  by_cases h : s.pulses ≤ 4095
  · rw [if_pos h]
    exact (State.closePulses_silent (.inl h)).keep .fault (by decide)
  · rw [if_neg h]
    exact (State.closePulses_overrate (by omega) m).1

theorem State.closePulses_raised (m : s.mainRuns = true) :
    Raised (if 4095 < s.pulses ∧ s.fault.isNone then [.fault] else []) s s.closePulses := by
  by_cases h : s.pulses ≤ 4095
  · rw [if_neg (by omega)]
    exact (State.closePulses_silent (.inl h)).keep .events (by decide)
  · have raised := (State.closePulses_overrate (by omega) m).2
    simpa [show 4095 < s.pulses by omega] using raised

end Sys2Proof.Machine
end

section
/-! PROOFS. HIRE starts a trip (R9, R10, R77, R78). -/

namespace Sys2Proof.Machine

variable {s : State} {f : Tariff} {b : Band}

/-- The state in which the count is closed and the meter HIRED, before the Offer Unit is told. -/
def State.hiredWith (s : State) (f : Tariff) (b : Band) : State :=
  s.closePulses.withMeter { state := .hired, jobId := none, lastTrip := (s.newTrip f b).number, hold := false
                            trip := some (s.newTrip f b) }

theorem State.only_hiredWith : OnlyChanges [.pulses, .meter, .store, .events, .fault] s (s.hiredWith f b) :=
  .withMeter s.only_closePulses (by decide)

theorem State.startTrip_assigned (h : s.meter.state = .assigned) :
    s.startTrip f b = (s.hiredWith f b).closeAwarded s.meter.jobId .done := if_pos h

theorem State.startTrip_vacant (h : s.meter.state = .vacant) : s.startTrip f b = (s.hiredWith f b).lapseOffers :=
  if_neg (by simp [h])

theorem State.only_startTrip_hired : OnlyChanges [.offers, .arbiter, .events] (s.hiredWith f b) (s.startTrip f b) := by
  change OnlyChanges _ _ (if s.meter.state = .assigned then (s.hiredWith f b).closeAwarded _ _ else
    (s.hiredWith f b).lapseOffers)
  split
  · exact (State.only_closeAwarded _ _ _).mono (by decide)
  · exact State.only_lapseOffers _

theorem State.only_startTrip_answered :
    OnlyChanges [.meter, .pulses, .store, .offers, .arbiter, .events, .fault, .check] s (s.startTrip f b) := by
  have hired : OnlyChanges [.meter, .pulses, .store, .offers, .arbiter, .events, .fault, .check] s (s.hiredWith f b) :=
    State.only_hiredWith.mono (by decide)
  have told : OnlyChanges [.meter, .pulses, .store, .offers, .arbiter, .events, .fault, .check] (s.hiredWith f b)
      (s.startTrip f b) := State.only_startTrip_hired.mono (by decide)
  exact (hired.trans told).mono (by decide)

theorem State.hiredWith_offers : (s.hiredWith f b).offers = s.offers := State.only_hiredWith.keep .offers (by decide)

theorem State.hiredWith_arbiter : (s.hiredWith f b).arbiter = s.arbiter := State.only_hiredWith.keep .arbiter (by decide)

theorem State.hiredWith_mainRuns (m : s.mainRuns = true) : (s.hiredWith f b).mainRuns = true :=
  (State.only_hiredWith.mainRuns_eq (by decide)).trans m

/-- Outside a trip the admitted pulses go to the shift alone (R52). -/
theorem State.hiredWith_store (h : s.meter.state = .vacant ∨ s.meter.state = .assigned) :
    (s.hiredWith f b).store = { s.store with totals := { s.store.totals with
      totalPulses := min 4294967295 (s.store.totals.totalPulses + min s.pulses 4095) } } := by
  change s.closePulses.store = _
  rw [State.closePulses_store, Meter.onTrip_eq_false (.inr h)]
  rfl

theorem State.tableBounded_congr {t : State} (h : t.offers = s.offers) : t.tableBounded = s.tableBounded := by
  rw [State.tableBounded, State.tableBounded, h]

theorem State.bidMatched_congr {t : State} (h : t.offers = s.offers) : t.bidMatched = s.bidMatched := by
  rw [State.bidMatched, State.bidMatched, h]
  simp only [State.anyEntry_congr h]

theorem State.startTrip_free (h : s.meter.state = .vacant) (free : ∀ e ∈ s.offers.entries, e.state ≠ .bid) :
    s.startTrip f b = (s.hiredWith f b).lapseShown := by
  rw [State.startTrip_vacant h]
  exact State.lapseOffers_free (by rw [State.hiredWith_offers]; exact free)

theorem State.startTrip_arbiter (h : s.meter.state = .vacant ∨ s.meter.state = .assigned)
    (kept : s.meter.state = .assigned ∨ ∀ e ∈ s.offers.entries, e.state ≠ .bid) :
    (s.startTrip f b).arbiter = s.arbiter := by
  by_cases assigned : s.meter.state = .assigned
  · rw [State.startTrip_assigned assigned]
    exact ((State.only_closeAwarded _ _ _).keep .arbiter (by decide)).trans State.hiredWith_arbiter
  · rw [State.startTrip_free (h.resolve_right assigned) (kept.resolve_left assigned)]
    exact State.lapseShown_arbiter.trans State.hiredWith_arbiter

/-- Some entry of the table closes with the start of a trip. -/
def State.closesEntry (s : State) : Bool :=
  s.offers.entries.any fun e =>
    if s.meter.state = .vacant then e.state = .shown || e.state = .bid else some e.id = s.meter.jobId && e.state = .awarded

theorem State.hiredWith_raised (m : s.mainRuns = true) :
    Raised (if 4095 < s.pulses ∧ s.fault.isNone then [.fault] else []) s (s.hiredWith f b) :=
  (State.closePulses_raised m).kept rfl

theorem State.startTrip_raised (m : s.mainRuns = true) (h : s.meter.state = .vacant ∨ s.meter.state = .assigned) :
    ∃ es, Raised es (s.hiredWith f b) (s.startTrip f b) ∧ (∀ e ∈ es, e = .offerClosed)
      ∧ (.offerClosed ∈ es ↔ s.closesEntry = true) := by
  have runs : (s.hiredWith f b).mainRuns = true := State.hiredWith_mainRuns m
  have offers : (s.hiredWith f b).offers = s.offers := State.hiredWith_offers
  rcases h with h | h
  · obtain ⟨es, raised, only, exact⟩ := State.lapseOffers_raised runs
    refine ⟨es, State.startTrip_vacant h ▸ raised, only, exact.trans ?_⟩
    simp [State.closesEntry, h, offers]
  · refine ⟨_, State.startTrip_assigned h ▸ State.closeAwarded_raised runs s.meter.jobId .done, ?_⟩
    rw [offers]
    simp only [State.closesEntry, h, reduceCtorEq, if_false]
    split <;> simp_all

theorem decide_mem_ite (k e : EventKind) (c : Prop) [Decidable c] :
    decide (k ∈ if c then [e] else []) = (decide (k = e) && decide c) := by
  by_cases h : c <;> simp [h]

theorem State.startTrip_flagged (m : s.mainRuns = true) (h : s.meter.state = .vacant ∨ s.meter.state = .assigned)
    (k : EventKind) : (s.startTrip f b).flagged k = (s.flagged k
      || k = .fault && decide (4095 < s.pulses) && s.fault.isNone || k = .offerClosed && s.closesEntry) := by
  obtain ⟨es, raised, only, closes⟩ := State.startTrip_raised (f := f) (b := b) m h
  rw [raised.flagged_closed only closes, (State.hiredWith_raised m).flagged, decide_mem_ite, Bool.decide_and,
    Bool.decide_coe, Bool.and_assoc]

theorem State.hire_refused {n : Nat} (h : s.tariff = none ∨ chooseBand s.tariff s.time n = none) :
    s.hire n = s.refused .refusedRange := by
  unfold State.hire
  split
  · next tariff band => simp_all
  · rfl

theorem State.hire_ok {n : Nat} (tariff : s.tariff = some f) (band : chooseBand s.tariff s.time n = some b) :
    s.hire n = (s.startTrip f b).answered [] := by
  rw [State.hire, band, tariff]

/-- The trip context as R9 and R10 have it. -/
theorem State.newTrip_eq : s.newTrip f b =
    Trip.mk (if s.meter.lastTrip = 65535 then 1 else s.meter.lastTrip + 1)
      (if s.meter.state = .assigned then s.meter.jobId else none) b.number
      { flagFall := b.flagFall, coverage := b.coverage, value1 := b.value1, length1 := b.length1
        value2 := b.value2, metres := b.metres, seconds := b.seconds, gateClears := b.gateClears
        pulses := min 65535 (max 1 ((b.metres * s.identity.k + 500) / 1000)) }
      f.version (f.extras.map fun e => { amount := e.amount, max := e.max, used := 0 })
      (fare := b.flagFall) (extrasTotal := 0) (increments := 0) (accumulator := 0) (gateOpen := true)
      (pulses := 0) (gatedPulses := 0) (startClock := s.time.clock) (endClock := none)
      { fareCapped := false, timeUnknown := !s.time.known, holdUsed := false
        emergencyDuring := s.emergency.state = .active || s.emergency.state = .acked, distOverrate := false } := by
  have raised : s.emergency.state.raised = (decide (s.emergency.state = .active) || decide (s.emergency.state = .acked)) := by
    cases s.emergency.state <;> rfl
  rw [← raised]
  rfl

/-- Settles O22: the pulse count is closed and the trip formed, and then the Offer Unit follows. -/
theorem hireStartsTrip : Obligations.HireStartsTrip := by
  intro s tag p m h
  have permitted : s.meter.state ∈ [MeterState.vacant, .assigned] := by simpa using h
  by_cases refusing : s.tariff = none ∨ chooseBand s.tariff s.time p.toNat = none
  · obtain ⟨t, e, replied⟩ := serveMeter_refusedBy (kind := 0x8A#8) (tag := tag) m permitted (State.hire_refused refusing)
    refine ⟨t, e, fun _ => replied, fun f b n d x tariff band => ?_⟩
    exact absurd refusing (by rw [band, tariff]; simp)
  · obtain ⟨f, tariff⟩ := Option.ne_none_iff_exists'.mp (not_or.mp refusing).1
    obtain ⟨b, band⟩ := Option.ne_none_iff_exists'.mp (not_or.mp refusing).2
    have offers : (s.hiredWith f b).offers = s.offers := State.hiredWith_offers
    have told : OnlyChanges [.offers, .arbiter, .events] (s.hiredWith f b) (s.startTrip f b) := State.only_startTrip_hired
    have only : OnlyChanges [.meter, .pulses, .store, .offers, .arbiter, .events, .fault, .check] s (s.startTrip f b) :=
      State.only_startTrip_answered
    have ok := serveMeter_ok (kind := 0x8A#8) (tag := tag) m permitted (State.hire_ok tariff band)
    refine ⟨_, ok, fun h => absurd h refusing, fun f' b' n d x tariff' band' hn hd hx => ?_⟩
    obtain rfl : f = f' := Option.some.inj (tariff.symm.trans tariff')
    obtain rfl : b = b' := Option.some.inj (band.symm.trans band')
    have trip : x = s.newTrip f b := by rw [State.newTrip_eq, hx, hn]
    have meter : (s.startTrip f b).meter = { state := .hired, jobId := none, lastTrip := n, hold := false, trip := some x } := by
      rw [trip, hn]
      exact told.keep .meter (by decide)
    have store : (s.startTrip f b).store = { s.store with totals := { s.store.totals with
        totalPulses := min 4294967295 (s.store.totals.totalPulses + d) } } := by
      rw [hd]
      exact (told.keep .store (by decide)).trans (State.hiredWith_store h)
    have pulses : (s.startTrip f b).pulses = 0 := told.keep .pulses (by decide)
    have fault := (told.keep .fault (by decide)).trans (State.closePulses_fault m)
    have flagged := State.startTrip_flagged (f := f) (b := b) m h
    obtain ⟨es, raised, -⟩ := State.startTrip_raised (f := f) (b := b) m h
    obtain ⟨enables, lines⟩ := ((State.hiredWith_raised m).trans raised).setup
    generalize trip_started : s.startTrip f b = v at *
    refine ⟨State.answeredFrom_answered only (by decide) (by decide), ?arbiter, meter, pulses, store, ?free, ?bid, ?awarded,
      fault, enables, lines, flagged⟩
    case arbiter =>
      rw [State.answeredFrom_arbiter, ← trip_started]
      exact State.startTrip_arbiter h
    case free =>
      intro vacant free
      rw [State.answeredFrom_offers, ← trip_started, State.startTrip_free vacant free, State.lapseShown_offers, offers]
    case bid =>
      intro as e bs vacant bounded _ parts bid
      rw [State.answeredFrom_offers, ← trip_started, State.startTrip_vacant vacant]
      exact State.lapseOffers_entries ((State.tableBounded_congr offers).trans bounded) (by rw [offers, parts]) bid
    case awarded =>
      intro assigned
      rw [State.answeredFrom_offers, ← trip_started, State.startTrip_assigned assigned, State.closeAwarded_offers,
        offers]
      rfl

end Sys2Proof.Machine
end

section
/-! PROOFS. SHIFT_CLOSE and the report it forms (R5, R54, R55, R77). -/

namespace Sys2Proof.Machine

variable {s : State}

/-! ## The report -/

theorem sum_capped {m : Nat} (rs : List TripRecord) (acc : Nat) (h : acc ≤ m) :
    rs.foldl (fun acc r => satAdd m acc r.total) acc = min m (acc + (rs.map TripRecord.total).sum) := by
  induction rs generalizing acc with
  | nil => simp [h]
  | cons r rs ih =>
    rw [List.foldl_cons, ih _ (satAdd_le _ _ _), List.map_cons, List.sum_cons, satAdd]
    omega

theorem shiftReport_stored (s : State) : s.shiftReport.storedSum = min 99999999
    ((s.store.records.filter fun x => x.shift = s.store.totals.shift).map TripRecord.total).sum := by
  change List.foldl _ 0 _ = _
  rw [sum_capped _ 0 (Nat.zero_le _), Nat.zero_add]

/-! ## The SHIFT entry (R55) -/

/-- The meter in OFF and the report pending, before the arbiter and the Offer Unit are told. -/
def State.reportPending (s : State) : State :=
  (s.withMeter { s.meter with state := .off }).withStore { s.store with pendingReport := some s.shiftReport }

/-- The report's entry has been offered too. -/
def State.shiftPended (s : State) : State := (s.reportPending.rewriteShift s.store.totals.shift).placeShift

theorem State.rewriteShift_none {n : Nat} (h : s.arbiter.queue.any Entry.isShift = false) : s.rewriteShift n = s := by
  have none : ∀ e ∈ s.arbiter.queue, e.isShift = false := by simpa using h
  have same : (s.arbiter.queue.map fun e => if e.isShift && !s.entryInFlight e then .shift n else e) = s.arbiter.queue :=
    (List.map_congr_left fun e he => if_neg (by simp [none e he])).trans (List.map_id _)
  rw [State.rewriteShift, same]
  rfl

theorem State.rewriteShift_any {n : Nat} (h : s.arbiter.queue.any Entry.isShift = true) :
    (s.rewriteShift n).arbiter.queue.any Entry.isShift = true := by
  obtain ⟨e, he, shift⟩ := List.any_eq_true.mp h
  refine List.any_eq_true.mpr ⟨_, List.mem_map_of_mem he, ?_⟩
  split
  · rfl
  · exact shift

theorem State.placeShift_arbiter {r : ShiftReport} (m : s.mainRuns = true) (h : s.store.pendingReport = some r) :
    s.placeShift.arbiter = if s.arbiter.queue.any Entry.isShift = false ∧ sharedCount s.arbiter.queue < 6 then
      { s.arbiter with queue := s.arbiter.queue ++ [.shift r.shift] } else s.arbiter := by
  unfold State.placeShift
  rw [h]
  simp only [m, Bool.true_and, sharedFree, Config.sharedPlaces, Bool.and_eq_true, Bool.not_eq_true', decide_eq_true_eq]
  split <;> rfl

/-- A pending report without an entry takes a shared place, and one with an entry has it rewritten. -/
theorem State.shiftPended_arbiter (m : s.mainRuns = true) : s.shiftPended.arbiter = s.shiftOffered := by
  have runs : (s.reportPending.rewriteShift s.store.totals.shift).mainRuns = true := m
  rw [State.shiftPended, State.placeShift_arbiter (r := s.shiftReport) runs rfl]
  unfold State.shiftOffered
  cases h : s.arbiter.queue.any Entry.isShift with
  | true =>
    have rewritten := State.rewriteShift_any (s := s.reportPending) (n := s.store.totals.shift) h
    rw [if_neg (by simp [rewritten]), if_pos rfl]
    rfl
  | false =>
    rw [State.rewriteShift_none (s := s.reportPending) h]
    change (if s.arbiter.queue.any Entry.isShift = false ∧ sharedCount s.arbiter.queue < 6 then
      { s.arbiter with queue := s.arbiter.queue ++ [.shift s.store.totals.shift] } else s.arbiter) = _
    rw [h]
    by_cases room : sharedCount s.arbiter.queue < 6
    · rw [if_pos ⟨rfl, room⟩, if_neg Bool.false_ne_true, if_pos room]
    · rw [if_neg fun k => room k.2, if_neg Bool.false_ne_true, if_neg room]

theorem State.only_shiftPended : OnlyChanges [.meter, .store, .arbiter] s s.shiftPended := by
  have pending : OnlyChanges [.meter, .store, .arbiter] s s.reportPending :=
    .withStore (.withMeter (.refl s) (by decide)) (by decide)
  exact (pending.rewriteShift _ (by decide)).placeShift (by decide)

theorem State.shiftPended_store :
    s.shiftPended.store = { s.store with pendingReport := some s.shiftReport } :=
  ((State.only_placeShift _).keep .store (by decide)).trans ((State.only_rewriteShift _ _).keep .store (by decide))

theorem State.shiftPended_meter : s.shiftPended.meter = { s.meter with state := .off } :=
  ((State.only_placeShift _).keep .meter (by decide)).trans ((State.only_rewriteShift _ _).keep .meter (by decide))

/-! ## SHIFT_CLOSE -/

theorem State.closeShift_eq : s.closeShift = s.shiftPended.lapseOffers.answered s.shiftReport.bytes := rfl

/-- SHIFT_CLOSE in VACANT: the report is pending and offered, and then the Offer Unit follows. -/
theorem shiftClose_closes (tag : Byte) (m : s.mainRuns = true) (h : s.meter.state = .vacant) :
    ∃ t, exec (.shiftClose tag []) s = .next t
      ∧ Answered [.meter, .store, .arbiter, .offers, .events, .check] s t
          { kind := 0x91#8, tag, code := .ok, payload := s.shiftReport.bytes }
      ∧ t.meter = { s.meter with state := .off }
      ∧ t.store = { s.store with pendingReport := some s.shiftReport }
      ∧ (∀ k, t.flagged k = (s.flagged k
          || k = .offerClosed && s.offers.entries.any fun x => x.state = .shown || x.state = .bid))
      ∧ t.offers = s.shiftPended.lapseOffers.offers ∧ t.arbiter = s.shiftPended.lapseOffers.arbiter := by
  have ok := serveMeter_ok (kind := 0x91#8) (tag := tag) (states := [.vacant]) (a := ()) m (by simp [h])
    (owner := fun _ t => t.closeShift) State.closeShift_eq
  have pended := s.only_shiftPended
  have offers : s.shiftPended.offers = s.offers := pended.keep .offers (by decide)
  have lapsed := s.shiftPended.only_lapseOffers
  have only : OnlyChanges [.meter, .store, .arbiter, .offers, .events, .check] s s.shiftPended.lapseOffers :=
    .lapseOffers (pended.mono (by decide)) (by decide)
  have meter := (lapsed.keep .meter (by decide)).trans s.shiftPended_meter
  have store := (lapsed.keep .store (by decide)).trans s.shiftPended_store
  obtain ⟨es, raised, closed, some⟩ := State.lapseOffers_raised (s := s.shiftPended)
    ((pended.mainRuns_eq (by decide)).trans m)
  have raised : Raised es s s.shiftPended.lapseOffers := raised.from_same (pended.keep .events (by decide))
  rw [offers] at some
  generalize s.shiftPended.lapseOffers = v at *
  exact ⟨_, ok, State.answeredFrom_answered only (by decide) (by decide), meter, store,
    raised.flagged_closed closed some, rfl, rfl⟩

/-- Settles O20: what lapses, and what becomes of a bid, is the lapse layer's at the state in which the report is
pending. -/
theorem shiftCloses : Obligations.ShiftCloses := by
  refine ⟨fun s tag m h => ?_, fun s => ⟨rfl, rfl, rfl, rfl, rfl, rfl, rfl, rfl, rfl, rfl, rfl, rfl, rfl,
    shiftReport_stored s⟩⟩
  obtain ⟨t, ok, answered, meter, store, flagged, offers, arbiter⟩ := shiftClose_closes tag m h
  have same : s.shiftPended.offers = s.offers := s.only_shiftPended.keep .offers (by decide)
  have runs : s.shiftPended.mainRuns = true := (s.only_shiftPended.mainRuns_eq (by decide)).trans m
  have offered := State.shiftPended_arbiter m
  refine ⟨t, ok, answered, meter, store, flagged, fun free => ?_, fun as e bs b bounded matched parts bid record => ?_⟩
  · rw [← same] at free
    rw [State.lapseOffers_free free] at offers arbiter
    rw [offers, arbiter, State.lapseShown_offers, State.lapseShown_arbiter, same]
    exact ⟨rfl, offered⟩
  · rw [← State.tableBounded_congr same] at bounded
    rw [← State.bidMatched_congr same] at matched
    rw [← same] at parts record
    obtain ⟨queued, inFlight, sent⟩ := State.lapseOffers_arbiter bounded parts bid matched record runs
    rw [offered] at queued inFlight sent
    rw [same] at sent
    refine ⟨?_, fun h => arbiter.trans (queued h), fun h => arbiter.trans (inFlight h), fun h =>
      (sent h).congr arbiter (congrArg Offers.cancels offers)⟩
    rw [offers]
    exact State.lapseOffers_entries bounded parts bid

end Sys2Proof.Machine
end

section
/-! PROOFS. PAID: the record enters the store, and the sender follows (R16, R43 to R45, R49). -/

namespace Sys2Proof.Machine

variable {s : State} {o n r : TripRecord} {x : Trip} {rest : List TripRecord}

/-! ## The sender (R45, R49) -/

theorem State.placeTotal_store : s.placeTotal.store = { s.store with sender := s.placeTotal.store.sender } := by
  rcases s.placeTotal_cases with h | ⟨r, rest, -, -, -, -, h⟩ <;> rw [h]
  rfl

theorem State.placeTotal_served (h : s.store.sender ≠ .idle) : s.placeTotal = s := by
  rcases s.placeTotal_cases with same | ⟨r, rest, idle, -⟩
  · exact same
  · exact absurd idle h

/-- An idle sender serves the oldest record when class 2 is empty. -/
theorem State.placeTotal_idle (m : s.mainRuns = true) (idle : s.store.sender = .idle) (oldest : s.store.records = r :: rest)
    (free : classCount s.arbiter.queue 2 = 0) : s.placeTotal.store.sender = .queued r.trip
      ∧ s.placeTotal.arbiter = { s.arbiter with queue := s.arbiter.queue ++ [.total r.trip] } := by
  have place : (s.mainRuns && hasPlace s.arbiter.queue (.total r.trip)) = true := by simp [m, hasPlace, free]
  unfold State.placeTotal
  rw [idle, oldest]
  simp only [place, if_true]
  exact ⟨rfl, rfl⟩

/-- The served record's TOTAL entry alone is in class 2 (R140). -/
theorem classCount_erase_total {q : List Entry} (trip : Nat) (h : classCount q 2 ≤ 1) (mem : .total trip ∈ q) :
    classCount (q.erase (.total trip)) 2 = 0 := by
  have count : classCount q 2 = classCount (.total trip :: q.erase (.total trip)) 2 :=
    ((List.perm_cons_erase mem).filter _).length_eq
  have cons : classCount (.total trip :: q.erase (.total trip)) 2 = classCount (q.erase (.total trip)) 2 + 1 := rfl
  omega

/-! ## The oldest record is folded (R44, R49) -/

theorem State.foldOldest_eq (h : s.store.records = o :: rest) : s.foldOldest =
    ((s.withStore { s.store with records := rest, totals := s.store.totals.fold o }).raise .storeFolded).releaseServed
      o.trip := by
  rw [State.foldOldest, h]

/-- The state in which the oldest record has left the store for the totals. -/
def State.folded (s : State) (o : TripRecord) (rest : List TripRecord) : State :=
  (s.withStore { s.store with records := rest, totals := s.store.totals.fold o }).raise .storeFolded

theorem State.folded_store : (s.folded o rest).store
    = { s.store with records := rest, totals := s.store.totals.fold o } := (State.only_raise _ _).keep .store (by decide)

theorem State.only_folded : OnlyChanges [.store, .events] s (s.folded o rest) :=
  .raise _ (.withStore (.refl s) (by decide)) (by decide)

theorem State.releaseServed_pendingReport (trip : Nat) :
    (s.releaseServed trip).store.pendingReport = s.store.pendingReport := by
  rcases s.releaseServed_cases trip with ⟨h, -⟩ | ⟨-, h⟩ | ⟨-, h⟩ <;> rw [h]
  · rw [State.placeTotal_store]
    rfl
  · rw [State.placeTotal_store]
    rfl

theorem State.foldOldest_pendingReport (h : s.store.records = o :: rest) :
    s.foldOldest.store.pendingReport = s.store.pendingReport := by
  have eq : s.foldOldest = (s.folded o rest).releaseServed o.trip := State.foldOldest_eq h
  rw [eq, State.releaseServed_pendingReport, State.folded_store]

theorem State.foldOldest_raised (m : s.mainRuns = true) (h : s.store.records = o :: rest) :
    Raised [.storeFolded] s s.foldOldest := by
  rw [State.foldOldest_eq h]
  have raised := State.raise_raised (s := s.withStore { s.store with records := rest, totals := s.store.totals.fold o }) m
    .storeFolded
  exact Raised.kept raised ((State.only_releaseServed _ _).keep .events (by decide))

/-- A sender that served the folded record serves the next one. -/
theorem State.foldOldest_serves (m : s.mainRuns = true) (h : s.store.records = o :: n :: rest)
    (bounded : classCount s.arbiter.queue 2 ≤ 1)
    (serving : s.store.sender = .queued o.trip ∧ .total o.trip ∈ s.arbiter.queue
      ∨ (∃ k, s.store.sender = .sent o.trip k) ∧ classCount s.arbiter.queue 2 = 0) :
    ∃ a, a = (if s.store.sender = .queued o.trip then Arbiter.without (.total o.trip) s.arbiter else s.arbiter)
      ∧ s.foldOldest.store.sender = .queued n.trip
      ∧ s.foldOldest.arbiter = { a with queue := a.queue ++ [.total n.trip] } := by
  have eq : s.foldOldest = (s.folded o (n :: rest)).releaseServed o.trip := State.foldOldest_eq h
  have only : OnlyChanges _ s (s.folded o (n :: rest)) := State.only_folded
  have runs : (s.folded o (n :: rest)).mainRuns = true := (only.mainRuns_eq (by decide)).trans m
  have arbiter : (s.folded o (n :: rest)).arbiter = s.arbiter := only.keep .arbiter (by decide)
  have store : (s.folded o (n :: rest)).store = _ := State.folded_store
  rw [eq]
  generalize s.folded o (n :: rest) = u at *
  refine ⟨_, rfl, ?_⟩
  rcases serving with ⟨queued, mem⟩ | ⟨⟨k, sent⟩, free⟩
  · have released : u.releaseServed o.trip = ((u.withdraw (.total o.trip)).withSender .idle).placeTotal := by
      simp [State.releaseServed, store, queued]
    rw [released, if_pos queued, ← arbiter]
    refine State.placeTotal_idle (s := (u.withdraw (.total o.trip)).withSender .idle) (rest := rest) runs rfl
      (by simp [State.withSender, State.withdraw, store]) ?_
    change classCount (u.arbiter.queue.erase (.total o.trip)) 2 = 0
    rw [arbiter]
    exact classCount_erase_total _ bounded mem
  · have released : u.releaseServed o.trip = (u.withSender .idle).placeTotal := by
      simp [State.releaseServed, store, sent]
    rw [released, if_neg (by simp [sent]), ← arbiter]
    exact State.placeTotal_idle (s := u.withSender .idle) (rest := rest) runs rfl (by simp [State.withSender, store])
      (by simpa [State.withSender, arbiter] using free)

/-! ## A record enters (R43) -/

/-- The state in which the record is in the store, before the sender looks for work. -/
def State.entered (s : State) (r : TripRecord) : State :=
  let u := if s.store.records.isEmpty then s else s.raise .totalBacklog
  u.withStore { u.store with records := u.store.records ++ [r], totals := u.store.totals.enter r }

theorem State.enterRecord_room (h : s.store.records.length < 16) : s.enterRecord r = (s.entered r).placeTotal := by
  have room : s.store.records.length < Config.storeSize := h
  rw [State.enterRecord, if_pos room]
  rfl

/-- A full store folds its oldest record and has room then (R44). -/
theorem State.enterRecord_full (h : s.store.records = o :: rest) (full : rest.length = 15) :
    s.enterRecord r = s.foldOldest.enterRecord r := by
  have records := (State.foldOldest_store h).1
  have before : ¬ s.store.records.length < Config.storeSize := by simp [h, full, Config.storeSize]
  have after : s.foldOldest.store.records.length < Config.storeSize := by simp [records, full, Config.storeSize]
  rw [State.enterRecord, if_neg before, State.enterRecord, if_pos after]

theorem State.entered_raised (m : s.mainRuns = true) :
    Raised (if s.store.records.isEmpty = false then [.totalBacklog] else []) s (s.entered r) := by
  unfold State.entered
  cases s.store.records.isEmpty with
  | true => exact .of_events rfl
  | false => exact (State.raise_events _).trans (if_pos m)

theorem State.entered_store : (s.entered r).store
    = { s.store with records := s.store.records ++ [r], totals := s.store.totals.enter r } := by
  have raised : (s.raise .totalBacklog).store = s.store := (s.only_raise _).keep .store (by decide)
  unfold State.entered
  dsimp only
  split
  · rfl
  · rw [raised]
    rfl

theorem State.only_entered : OnlyChanges [.store, .events] s (s.entered r) := by
  unfold State.entered
  dsimp only
  split
  · exact .withStore (.refl s) (by decide)
  · exact .withStore (.raise _ (.refl s) (by decide)) (by decide)

theorem State.enterRecord_pendingReport (h : s.store.records.length < 16) :
    (s.enterRecord r).store.pendingReport = s.store.pendingReport := by
  rw [State.enterRecord_room h, State.placeTotal_store, State.entered_store]

theorem State.enterRecord_raised_room (m : s.mainRuns = true) (h : s.store.records.length < 16) :
    Raised (if s.store.records.isEmpty = false then [.totalBacklog] else []) s (s.enterRecord r) := by
  rw [State.enterRecord_room h]
  exact (State.entered_raised m).kept ((State.only_placeTotal _).keep .events (by decide))

theorem State.foldOldest_mainRuns : s.foldOldest.mainRuns = s.mainRuns := s.only_foldOldest.mainRuns_eq (by decide)

theorem State.enterRecord_raised (m : s.mainRuns = true) (h : s.store.records.length ≤ 16) :
    Raised ((if s.store.records.length = 16 then [.storeFolded] else [])
      ++ if s.store.records.isEmpty = false then [.totalBacklog] else []) s (s.enterRecord r) := by
  by_cases full : s.store.records.length = 16
  · obtain ⟨o, rest, parts⟩ := List.exists_cons_of_length_pos (show 0 < s.store.records.length by omega)
    have length : rest.length = 15 := by simpa [parts] using full
    have records := (State.foldOldest_store parts).1
    have some : rest.isEmpty = false := by
      cases rest with
      | nil => cases length
      | cons => rfl
    have raised := State.enterRecord_raised_room (s := s.foldOldest) (r := r) (State.foldOldest_mainRuns.trans m)
      (by rw [records]; omega)
    rw [records, if_pos some] at raised
    rw [State.enterRecord_full parts length, if_pos full, parts]
    exact (State.foldOldest_raised m parts).trans raised
  · rw [if_neg full]
    exact State.enterRecord_raised_room m (by omega)

/-- A sender at work goes on with its record. -/
theorem State.enterRecord_served (h : s.store.records.length < 16) (work : s.store.sender ≠ .idle) :
    (s.enterRecord r).store.sender = s.store.sender ∧ (s.enterRecord r).arbiter = s.arbiter := by
  have store : (s.entered r).store = _ := State.entered_store
  rw [State.enterRecord_room h, State.placeTotal_served (by rw [store]; exact work)]
  exact ⟨by rw [store], State.only_entered.keep .arbiter (by decide)⟩

/-- An idle sender of an empty store serves the record that enters. -/
theorem State.enterRecord_first (m : s.mainRuns = true) (empty : s.store.records = []) (idle : s.store.sender = .idle)
    (free : classCount s.arbiter.queue 2 = 0) : (s.enterRecord r).store.sender = .queued r.trip
      ∧ (s.enterRecord r).arbiter = { s.arbiter with queue := s.arbiter.queue ++ [.total r.trip] } := by
  have store : (s.entered r).store = _ := State.entered_store
  have only : OnlyChanges [.store, .events] s (s.entered r) := State.only_entered
  have arbiter : (s.entered r).arbiter = s.arbiter := only.keep .arbiter (by decide)
  have runs : (s.entered r).mainRuns = true := (only.mainRuns_eq (by decide)).trans m
  rw [State.enterRecord_room (by simp [empty]), ← arbiter]
  exact State.placeTotal_idle (rest := []) runs (by rw [store]; exact idle) (by simp [store, empty])
    (by rw [arbiter]; exact free)

/-- Entering and folding touch different totals. -/
theorem ShiftTotals.enter_fold (t : ShiftTotals) : (t.fold o).enter r
    = if o.shift = t.shift then
        { t.enter r with foldedCount := min 65535 (t.foldedCount + 1), foldedSum := min 99999999 (t.foldedSum + o.total) }
      else
        { t.enter r with
          earlierCount := min 65535 (t.earlierCount + 1), earlierSum := min 99999999 (t.earlierSum + o.total) } := by
  unfold ShiftTotals.fold
  split <;> rfl

/-! ## PAID -/

/-- The record of the trip, with the closed count (R16). -/
def State.paidRecord (s : State) (x : Trip) : TripRecord :=
  (x.take s.admitted (decide (4095 < s.pulses))).record s.store.totals.shift s.identity.k

/-- The state in which the record is in the store. -/
def State.recorded (s : State) (x : Trip) : State := s.closePulses.enterRecord (s.paidRecord x)

section
variable (h : s.meter.state = .total) (trip : s.meter.trip = some x)
include h

theorem State.closePulses_total : s.closePulses.store = { s.store with totals := s.store.totals.take s.admitted true } := by
  rw [State.closePulses_store, Meter.onTrip_iff.mpr (.inr h)]

include trip

theorem State.closePulses_trip : s.closePulses.meter
    = { s.meter with trip := some (x.take s.admitted (decide (4095 < s.pulses))) } := by
  rw [State.closePulses_meter, if_pos (Meter.onTrip_iff.mpr (.inr h)), trip]
  rfl

theorem State.payTrip_eq : s.payTrip = ((s.recorded x).withMeter
    { s.meter with state := .vacant, jobId := none, trip := none }).answered [] := by
  have identity : s.closePulses.identity = s.identity := s.only_closePulses.keep .identity (by decide)
  have meter := State.closePulses_trip h trip
  unfold State.payTrip
  simp only [meter, identity, State.closePulses_total h]
  rfl

end

theorem State.only_recorded :
    OnlyChanges [.pulses, .meter, .store, .arbiter, .events, .fault] s (s.recorded x) :=
  .enterRecord _ (.closePulses (.refl s) (by decide)) (by decide)

/-- PAID in TOTAL: what the answer's state takes from `State.recorded`. -/
theorem paid_pays (tag : Byte) (m : s.mainRuns = true) (h : s.meter.state = .total) (trip : s.meter.trip = some x) :
    ∃ t, exec (.paid tag []) s = .next t
      ∧ Answered [.meter, .pulses, .store, .arbiter, .events, .fault, .check] s t
          { kind := 0x8C#8, tag, code := .ok, payload := [] }
      ∧ t.meter = { s.meter with state := .vacant, jobId := none, trip := none } ∧ t.pulses = 0
      ∧ t.store = (s.recorded x).store ∧ t.arbiter = (s.recorded x).arbiter
      ∧ t.fault = s.closePulses.fault ∧ t.events = (s.recorded x).events := by
  have ok := serveMeter_ok (kind := 0x8C#8) (tag := tag) (states := [.total]) (a := ()) m (by simp [h])
    (owner := fun _ t => t.payTrip) (State.payTrip_eq h trip)
  have only : OnlyChanges [.meter, .pulses, .store, .arbiter, .events, .fault, .check] s ((s.recorded x).withMeter
      { s.meter with state := .vacant, jobId := none, trip := none }) :=
    .withMeter (State.only_recorded.mono (by decide)) (by decide)
  have enter := s.closePulses.only_enterRecord (s.paidRecord x)
  have pulses : (s.recorded x).pulses = 0 := enter.keep .pulses (by decide)
  have fault : (s.recorded x).fault = s.closePulses.fault := enter.keep .fault (by decide)
  generalize s.recorded x = v at *
  exact ⟨_, ok, State.answeredFrom_answered only (by decide) (by decide), rfl, pulses, rfl, rfl, fault, rfl⟩

section
variable (m : s.mainRuns = true) (h : s.meter.state = .total)
include h

theorem State.recorded_store_room (room : s.store.records.length < 16) :
    (s.recorded x).store.records = s.store.records ++ [s.paidRecord x]
      ∧ (s.recorded x).store.totals = (s.store.totals.take s.admitted true).enter (s.paidRecord x)
      ∧ (s.recorded x).store.pendingReport = s.store.pendingReport := by
  have store := State.closePulses_total h
  have room : s.closePulses.store.records.length < 16 := by rw [store]; exact room
  obtain ⟨records, totals⟩ := State.enterRecord_store (s.paidRecord x) room
  have pending := State.enterRecord_pendingReport (r := s.paidRecord x) room
  rw [store] at records totals pending
  exact ⟨records, totals, pending⟩

theorem State.recorded_store_full (parts : s.store.records = o :: rest) (full : rest.length = 15) :
    (s.recorded x).store.records = rest ++ [s.paidRecord x]
      ∧ (s.recorded x).store.totals = ((s.store.totals.take s.admitted true).fold o).enter (s.paidRecord x)
      ∧ (s.recorded x).store.pendingReport = s.store.pendingReport := by
  have store := State.closePulses_total h
  have parts : s.closePulses.store.records = o :: rest := by rw [store]; exact parts
  have folded := State.foldOldest_store parts
  have kept := State.foldOldest_pendingReport parts
  have room : s.closePulses.foldOldest.store.records.length < 16 := by rw [folded.1]; omega
  obtain ⟨records, totals⟩ := State.enterRecord_store (s.paidRecord x) room
  have pending := State.enterRecord_pendingReport (r := s.paidRecord x) room
  rw [State.recorded, State.enterRecord_full parts full]
  rw [folded.1] at records
  rw [folded.2, store] at totals
  rw [kept, store] at pending
  exact ⟨records, totals, pending⟩

include m

theorem State.recorded_raised (size : s.store.records.length ≤ 16) :
    Raised ((if 4095 < s.pulses ∧ s.fault.isNone then [.fault] else [])
      ++ ((if s.store.records.length = 16 then [.storeFolded] else [])
      ++ if s.store.records.isEmpty = false then [.totalBacklog] else [])) s (s.recorded x) := by
  have runs : s.closePulses.mainRuns = true := (s.only_closePulses.mainRuns_eq (by decide)).trans m
  have records : s.closePulses.store.records = s.store.records := by rw [State.closePulses_total h]
  rw [← records] at size ⊢
  exact (State.closePulses_raised m).trans (State.enterRecord_raised runs size)

end

theorem State.recorded_pendingReport (h : s.meter.state = .total) (size : s.store.records.length ≤ 16) :
    (s.recorded x).store.pendingReport = s.store.pendingReport := by
  by_cases room : s.store.records.length < 16
  · exact (State.recorded_store_room h room).2.2
  · obtain ⟨o, rest, parts⟩ := List.exists_cons_of_length_pos (show 0 < s.store.records.length by omega)
    have full : rest.length = 15 := by
      rw [parts, List.length_cons] at size room
      omega
    exact (State.recorded_store_full h parts full).2.2

/-- R45, R49: what the sender serves after PAID. -/
theorem State.recorded_sender (m : s.mainRuns = true) (h : s.meter.state = .total) (bounded : s.queueBounded = true) :
    (s.store.records = [] → s.store.sender = .idle → classCount s.arbiter.queue 2 = 0 →
        (s.recorded x).store.sender = .queued x.number
        ∧ (s.recorded x).arbiter = { s.arbiter with queue := s.arbiter.queue ++ [.total x.number] })
      ∧ (s.store.records.length < 16 → s.store.sender ≠ .idle →
        (s.recorded x).store.sender = s.store.sender ∧ (s.recorded x).arbiter = s.arbiter)
      ∧ (∀ o n rest, s.store.records = o :: n :: rest → rest.length = 14 →
        (s.store.sender = .queued o.trip ∧ .total o.trip ∈ s.arbiter.queue
            ∨ (∃ k, s.store.sender = .sent o.trip k) ∧ classCount s.arbiter.queue 2 = 0) →
        ∀ a, a = (if s.store.sender = .queued o.trip then Arbiter.without (.total o.trip) s.arbiter else s.arbiter) →
          (s.recorded x).store.sender = .queued n.trip
          ∧ (s.recorded x).arbiter = { a with queue := a.queue ++ [.total n.trip] }) := by
  have records : s.closePulses.store.records = s.store.records := by rw [State.closePulses_total h]
  have sender : s.closePulses.store.sender = s.store.sender := by rw [State.closePulses_total h]
  have arbiter : s.closePulses.arbiter = s.arbiter := s.only_closePulses.keep .arbiter (by decide)
  have runs : s.closePulses.mainRuns = true := (s.only_closePulses.mainRuns_eq (by decide)).trans m
  simp only [State.queueBounded, Bool.and_eq_true, decide_eq_true_eq] at bounded
  obtain ⟨⟨⟨⟨-, one⟩, -⟩, -⟩, -⟩ := bounded
  have number : (s.paidRecord x).trip = x.number := rfl
  unfold State.recorded
  rw [← number]
  generalize s.paidRecord x = r
  rw [← records, ← sender, ← arbiter] at *
  generalize s.closePulses = u at *
  refine ⟨State.enterRecord_first runs, State.enterRecord_served, fun o n rest parts length serving a ha => ?_⟩
  obtain ⟨_, rfl, served, queue⟩ := State.foldOldest_serves runs parts one serving
  have full : (n :: rest).length = 15 := congrArg Nat.succ length
  have folded := (State.foldOldest_store parts).1
  obtain ⟨same, kept⟩ := State.enterRecord_served (s := u.foldOldest) (r := r) (by rw [folded]; omega)
    (by rw [served]; exact Sender.noConfusion)
  rw [State.enterRecord_full parts full, ha]
  exact ⟨same.trans served, kept.trans queue⟩

/-- Settles O24, from the pulse count's closing and the entry of the record. -/
theorem tripPaid : Obligations.TripPaid := by
  refine ⟨fun s tag x d r base m h trip size hd hr hb => ?_, fun s tag x m h trip size bounded => ?_⟩
  · obtain ⟨t, ok, answered, meter, pulses, store, -, fault, events⟩ := paid_pays tag m h trip
    have record : r = s.paidRecord x := by rw [hr, hd]; rfl
    have total : base = (s.store.totals.take s.admitted true).enter r := by rw [hb, hr, hd]; rfl
    have raised : Raised _ s t := (State.recorded_raised (x := x) m h size).kept events
    obtain ⟨enables, lines⟩ := raised.setup
    refine ⟨t, ok, answered, meter, pulses, ?_, fun room => ?_, fun o rest parts full => ?_,
      fault.trans (State.closePulses_fault m), enables, lines, fun k => ?_⟩
    · rw [store]
      exact State.recorded_pendingReport h size
    · obtain ⟨records, totals, -⟩ := State.recorded_store_room (x := x) h room
      rw [store, record, total, record]
      exact ⟨records, totals⟩
    · obtain ⟨records, totals, -⟩ := State.recorded_store_full (x := x) h parts full
      rw [store, record, total, record]
      exact ⟨records, totals.trans (ShiftTotals.enter_fold _)⟩
    · rw [raised.flagged]
      simp only [List.mem_append, Bool.decide_or, decide_mem_ite, Bool.decide_and, Bool.decide_coe, Bool.decide_eq_false]
      ac_rfl
  · obtain ⟨t, ok, -, -, -, store, arbiter, -⟩ := paid_pays tag m h trip
    refine ⟨t, ok, ?_⟩
    rw [store, arbiter]
    exact State.recorded_sender m h bounded

end Sys2Proof.Machine
end

section
/-! PROOFS. Fare arithmetic: the band that HIRE chooses, and the roundings of D and of a distance (R29 to R32, R39). -/

namespace Sys2Proof.Machine

variable {t : Tariff} {b : Band} {c : Clock} {time : Time} {n : Nat}

/-! ## Windows (R29) -/

theorem Window.contains_iff {w : Window} : w.contains c = true ↔ w.days.getLsbD c.day = true
    ∧ (w.start < w.stop → w.start ≤ c.second ∧ c.second < w.stop)
    ∧ (w.stop < w.start → w.start ≤ c.second ∨ c.second < w.stop) := by
  rw [Window.contains, Bool.and_eq_true]
  refine and_congr_right fun _ => ?_
  rcases Nat.lt_trichotomy w.start w.stop with day | whole | night
  · simp [day, day.not_gt]
  · simp [whole]
  · simp [night, night.not_gt]

theorem Band.windowed_iff : b.Windowed c ↔
    2 ≤ b.number ∧ b.number ≤ 8 ∧ (b.window.any fun w => w.contains c) = true := by
  simp only [Band.Windowed, Option.any_eq_true, Window.contains_iff]

/-! ## The search for a band -/

/-- Where the numbers differ, a search that asks for the number finds the one band that it fits. -/
theorem Tariff.find_iff {p : Band → Bool} (distinct : (t.bands.map Band.number).Nodup)
    (asks : ∀ x, p x = true → x.number = n) : t.bands.find? p = some b ↔ b ∈ t.bands ∧ p b = true := by
  refine ⟨fun h => ⟨List.mem_of_find?_eq_some h, List.find?_some h⟩, fun ⟨mem, fits⟩ => ?_⟩
  obtain ⟨x, found⟩ := Option.isSome_iff_exists.mp (List.find?_isSome.mpr ⟨b, mem, fits⟩)
  have number : x.number = b.number := (asks x (List.find?_some found)).trans (asks b fits).symm
  rwa [List.inj_on_of_nodup_map distinct (List.mem_of_find?_eq_some found) mem number] at found

theorem Tariff.band_some (distinct : (t.bands.map Band.number).Nodup) (mem : b ∈ t.bands) (number : b.number = n) :
    t.band n = some b :=
  (Tariff.find_iff distinct fun _ => of_decide_eq_true).mpr ⟨mem, decide_eq_true number⟩

theorem Tariff.named_iff (distinct : (t.bands.map Band.number).Nodup) (low : 1 ≤ n) (high : n ≤ 8) :
    t.named n = some b ↔ b ∈ t.bands ∧ b.number = n ∧ b.selectable = true := by
  rw [Tariff.named, if_pos ⟨low, high⟩, Tariff.find_iff (n := n) distinct (by simp +contextual)]
  simp

theorem Tariff.named_out_of_range (high : 8 < n) : t.named n = none := if_neg (by omega)

/-- The band of a number whose window contains the clock: one step of AUTO's search (R30). -/
def Tariff.windowedAt (t : Tariff) (c : Clock) (n : Nat) : Option Band :=
  t.bands.find? fun b => b.number = n && (b.window.any fun w => w.contains c)

theorem Tariff.windowedAt_some (distinct : (t.bands.map Band.number).Nodup) (mem : b ∈ t.bands) (h : b.Windowed c) :
    t.windowedAt c b.number = some b := by
  obtain ⟨-, -, contains⟩ := Band.windowed_iff.mp h
  exact (Tariff.find_iff (n := b.number) distinct (by simp +contextual)).mpr ⟨mem, by simpa using contains⟩

theorem Tariff.windowedAt_none (low : 2 ≤ n) (high : n ≤ 8) (h : ∀ x ∈ t.bands, x.number = n → ¬ x.Windowed c) :
    t.windowedAt c n = none := by
  refine List.find?_eq_none.mpr fun x mem fits => ?_
  obtain ⟨rfl, contains⟩ : x.number = n ∧ (x.window.any fun w => w.contains c) = true := by simpa using fits
  exact h x mem rfl (Band.windowed_iff.mpr ⟨low, high, contains⟩)

/-- A search along ascending numbers ends at the lowest that answers. -/
theorem findSome?_lowest {β : Type} {f : Nat → Option β} {ns : List Nat} {y : β} (ascending : ns.Pairwise (· < ·))
    (mem : n ∈ ns) (answer : f n = some y) (below : ∀ m ∈ ns, m < n → f m = none) : ns.findSome? f = some y := by
  obtain ⟨before, after, rfl⟩ := List.append_of_mem mem
  have lower : ∀ m ∈ before, m < n := fun m hm =>
    (List.pairwise_append.mp ascending).2.2 m hm n List.mem_cons_self
  exact List.findSome?_eq_some_iff.mpr ⟨before, n, after, rfl, answer,
    fun m hm => below m (List.mem_append_left _ hm) (lower m hm)⟩

theorem mem_windowNumbers : n ∈ [2, 3, 4, 5, 6, 7, 8] ↔ 2 ≤ n ∧ n ≤ 8 := by
  simp only [List.mem_cons, List.not_mem_nil, or_false]
  omega

/-! ## AUTO (R30) -/

theorem Tariff.auto_unknown (h : time.known = false) : t.auto time = t.band 1 := by
  simp [Tariff.auto, h]

theorem Tariff.auto_known (h : time.known = true) :
    t.auto time = ([2, 3, 4, 5, 6, 7, 8].findSome? (t.windowedAt time.clock)).or (t.band 1) := if_pos h

theorem Tariff.auto_windowed (distinct : (t.bands.map Band.number).Nodup) (h : time.known = true) (mem : b ∈ t.bands)
    (windowed : b.Windowed time.clock) (lowest : ∀ x ∈ t.bands, x.Windowed time.clock → b.number ≤ x.number) :
    t.auto time = some b := by
  obtain ⟨low, high, -⟩ := Band.windowed_iff.mp windowed
  have below : ∀ m ∈ [2, 3, 4, 5, 6, 7, 8], m < b.number → t.windowedAt time.clock m = none := by
    intro m hm lt
    obtain ⟨low, high⟩ := mem_windowNumbers.mp hm
    refine Tariff.windowedAt_none low high fun x hx number inside => ?_
    have := lowest x hx inside
    omega
  rw [Tariff.auto_known h, findSome?_lowest (by decide) (mem_windowNumbers.mpr ⟨low, high⟩)
    (Tariff.windowedAt_some distinct mem windowed) below, Option.some_or]

theorem Tariff.auto_outside (h : time.known = true) (outside : ∀ x ∈ t.bands, ¬ x.Windowed time.clock) :
    t.auto time = t.band 1 := by
  have none : [2, 3, 4, 5, 6, 7, 8].findSome? (t.windowedAt time.clock) = none :=
    List.findSome?_eq_none_iff.mpr fun m hm =>
      Tariff.windowedAt_none (mem_windowNumbers.mp hm).1 (mem_windowNumbers.mp hm).2 fun x hx _ => outside x hx
  rw [Tariff.auto_known h, none, Option.none_or]

/-- The number 0 stands for AUTO (R197). -/
theorem chooseBand_auto : chooseBand (some t) time 0 = t.auto time := rfl

theorem chooseBand_named (h : n ≠ 0) : chooseBand (some t) time n = t.named n := if_neg h

/-! ## Roundings (R32, R39) -/

/-- D is the product in thousands to the nearest, half upwards, within 1..65,535. -/
theorem perIncrement_nearest {m k : Nat} (least : 500 ≤ m * k) :
    1 ≤ perIncrement m k ∧ perIncrement m k ≤ 65535
      ∧ (m * k + 500 < 65536000 → 2 * perIncrement m k * 1000 ≤ 2 * (m * k) + 1000
          ∧ 2 * (m * k) < 2 * perIncrement m k * 1000 + 1000)
      ∧ (65536000 ≤ m * k + 500 → perIncrement m k = 65535) := by
  unfold perIncrement
  generalize m * k = q at *
  omega

/-- Half of an odd k is rounded down, and the bounds hold with k whole. -/
theorem metres_nearest {p k : Nat} (pos : 1 ≤ k) (h : metres p k < 4294967295) :
    2 * metres p k * k ≤ 2000 * p + k ∧ 2000 * p < 2 * metres p k * k + k := by
  have quotient : metres p k = (p * 1000 + k / 2) / k := by
    rw [metres, if_neg (by omega)] at h ⊢
    simp only [Config.pulseMax] at h ⊢
    omega
  have lower := Nat.div_mul_le_self (p * 1000 + k / 2) k
  have upper : p * 1000 + k / 2 < (p * 1000 + k / 2) / k * k + k := Nat.lt_div_mul_add pos
  rw [← quotient] at lower upper
  rw [Nat.mul_assoc]
  omega

theorem metres_le (p k : Nat) : metres p k ≤ 4294967295 := by
  unfold metres
  split
  · exact Nat.zero_le _
  · exact Nat.min_le_left _ _

theorem metres_saturated {p k : Nat} (pos : 1 ≤ k) (h : 4294967296 * k ≤ p * 1000 + k / 2) :
    metres p k = 4294967295 := by
  have reached : 4294967296 ≤ (p * 1000 + k / 2) / k := (Nat.le_div_iff_mul_le pos).mpr h
  rw [metres, if_neg (by omega)]
  exact Nat.min_eq_left (by simp only [Config.pulseMax]; omega)

/-- Settles O21, from the searches for a band and the two roundings. -/
theorem bandAndFiguresChosen : Obligations.BandAndFiguresChosen := by
  refine ⟨fun t time distinct => ⟨?named, ?outOfRange, ?unknown, ?windowed, ?outside⟩, ?d, ?distance⟩
  case named =>
    intro n b low high
    rw [chooseBand_named (by omega)]
    exact Tariff.named_iff distinct low high
  case outOfRange =>
    intro n high
    rw [chooseBand_named (by omega)]
    exact Tariff.named_out_of_range high
  case unknown =>
    intro b mem number unknown
    rw [chooseBand_auto, Tariff.auto_unknown unknown]
    exact Tariff.band_some distinct mem number
  case windowed =>
    intro b known mem windowed lowest
    exact Tariff.auto_windowed distinct known mem windowed lowest
  case outside =>
    intro b known outside mem number
    rw [chooseBand_auto, Tariff.auto_outside known outside]
    exact Tariff.band_some distinct mem number
  case d =>
    intro m k mLow _ kLow _
    have least : 10 * 100 ≤ m * k := Nat.mul_le_mul mLow kLow
    exact perIncrement_nearest (by omega)
  case distance =>
    intro p k pos _
    exact ⟨metres_le p k, metres_nearest pos, metres_saturated pos⟩

end Sys2Proof.Machine
end

section
/-! PROOFS. Fare progress: what the increments of a meter second add to a HIRED trip (R36 to R38). -/

namespace Sys2Proof.Machine

variable {s : State} {x : Trip}

/-! ## Increments, one after another (R37, R38) -/

/-- A trip after `k` increments that are worth `v` together, with FARE_CAPPED as R38 has it. -/
def Trip.charge (k v : Nat) (x : Trip) : Trip :=
  { x with
    increments := min 999999 (x.increments + k)
    fare := min 999999 (x.fare + v)
    flags := { x.flags with
      fareCapped := x.flags.fareCapped
        || decide (0 < k ∧ (999999 < x.fare + v ∨ 999999 < min 999999 (x.fare + v) + x.extrasTotal)) } }

/-- What the next `n` increments are worth, each by its own number. -/
def Trip.due (n : Nat) (x : Trip) : Nat :=
  ((List.range n).map fun j => x.copy.value (min 999999 (x.increments + 1 + j))).sum

theorem Trip.charge_zero (increments : x.increments ≤ 999999) (fare : x.fare ≤ 999999) : x.charge 0 0 = x := by
  simp [Trip.charge, increments, fare]

/-- A fare clipped once stays at the limit, so two charges cap the fare exactly when their sum does. -/
theorem Trip.charge_charge {k l v w : Nat} (pos : 0 < k) (free : l = 0 → w = 0) :
    (x.charge k v).charge l w = x.charge (k + l) (v + w) := by
  have increments : min 999999 (min 999999 (x.increments + k) + l) = min 999999 (x.increments + (k + l)) := by omega
  have fare : min 999999 (min 999999 (x.fare + v) + w) = min 999999 (x.fare + (v + w)) := by omega
  simp only [Trip.charge, increments, fare, Bool.or_assoc, ← Bool.decide_or]
  congr 4
  refine propext ⟨?_, ?_⟩ <;> omega

/-- R38: FARE_CAPPED stays, or is set by the clipped addition or by a sum above the limit. -/
theorem Trip.cap_eq (clipped : Bool) : x.cap clipped = { x with flags := { x.flags with
    fareCapped := x.flags.fareCapped || (clipped || decide (999999 < x.fare + x.extrasTotal)) } } := by
  unfold Trip.cap
  split
  next capped => rw [capped, Bool.or_true]
  next free => rw [Bool.eq_false_of_not_eq_true free, Bool.or_false]

theorem Trip.increment_eq : x.increment = x.charge 1 (x.copy.value (min 999999 (x.increments + 1))) := by
  rw [Trip.increment, Trip.addFare, Trip.cap_eq, ← Bool.decide_or]
  simp only [Trip.charge, Nat.one_pos, true_and]
  rfl

theorem Trip.due_succ (n : Nat) :
    x.due (n + 1) = x.copy.value (min 999999 (x.increments + 1)) + x.increment.due n := by
  have later : ∀ j, min 999999 (min 999999 (x.increments + 1) + 1 + j) = min 999999 (x.increments + 1 + (j + 1)) := by
    omega
  rw [Trip.increment_eq]
  simp [Trip.due, Trip.charge, List.range_succ_eq_map, Function.comp_def, later]

/-- R37: the increments of a second come to one charge of what is due. -/
theorem Trip.advance_eq (n : Nat) : ∀ x : Trip, x.increments ≤ 999999 → x.fare ≤ 999999 →
    Trip.advance n x = x.charge n (x.due n) := by
  induction n with
  | zero => exact fun x increments fare => (Trip.charge_zero increments fare).symm
  | succ n ih =>
    intro x _ _
    have increments : x.increment.increments ≤ 999999 := x.increment_increments ▸ satAdd_le _ _ _
    have fare : x.increment.fare ≤ 999999 := x.increment_fare ▸ satAdd_le _ _ _
    have free : n = 0 → x.increment.due n = 0 := by
      rintro rfl
      rfl
    calc Trip.advance n x.increment
      _ = x.increment.charge n (x.increment.due n) := ih x.increment increments fare
      _ = x.charge (1 + n) (x.copy.value (min 999999 (x.increments + 1)) + x.increment.due n) := by
        rw [← Trip.charge_charge Nat.one_pos free, ← Trip.increment_eq]
      _ = x.charge (n + 1) (x.due (n + 1)) := by rw [Trip.due_succ, Nat.add_comm]

/-- R36: the full periods are charged, and the remainder stays in the accumulator. -/
theorem Trip.progress_eq (d : Nat) (increments : x.increments ≤ 999999) (fare : x.fare ≤ 999999) :
    x.progress d =
      let a := x.accumulator + max (d * x.copy.seconds) x.copy.pulses
      { x with accumulator := a % x.copy.period }.charge (a / x.copy.period) (x.due (a / x.copy.period)) :=
  Trip.advance_eq _ _ increments fare

/-! ## The second of a HIRED trip (R36) -/

theorem Trip.hiredSecond_closed (d : Nat) (excess : Bool) (h : x.gateOpen = false) :
    x.hiredSecond d excess = x.take d excess := if_neg (by simp [Trip.take, h])

theorem Trip.hiredSecond_open (d : Nat) (excess : Bool) (h : x.gateOpen = true) :
    x.hiredSecond d excess = (x.take d excess).progress d := if_pos h

/-- Settles O25, from the charge that the increments of a second come to. -/
theorem fareProgresses : Obligations.FareProgresses := by
  rintro s x d a n sum money h hired trip increments fare - rfl rfl rfl value rfl
  have meter := State.second_meter_hired h hired
  rw [trip] at meter
  refine ⟨_, _, exec_meterSecond s, meter, fun closed => ?_, fun opened => ?_⟩
  · rw [Trip.hiredSecond_closed _ _ closed]
    simp only [Trip.take, closed]
    rfl
  · have priced : money = x.copy.value := funext value
    have charged := Trip.progress_eq (x := x.take s.admitted (decide (4095 < s.pulses))) s.admitted increments fare
    rw [Trip.hiredSecond_open _ _ opened, charged, priced]
    simp only [Trip.take, opened]
    rfl

end Sys2Proof.Machine
end

section
/-! PROOFS. An accepted frame reaches its owner (R119, R129), and TOTAL_ACK: the record it names leaves the store, and the
sender goes on to the next (R42, R48, R49). -/

namespace Sys2Proof.Machine

variable {s u : State} {r : TripRecord} {as bs : List TripRecord} {n : Nat}

/-! ## An accepted frame -/

section
variable {k : DownKind} {hdr : AirHeader} {payload : List Byte} {blocks : List Block}

/-- The state that a frame ends in whose owner, called with the receive record closed, leaves `u`. -/
def State.routedFrom (s u : State) : State := (s.updateCheck u.receiveBoundary).drive

theorem State.admits_mainRuns (h : s.admits k hdr payload = true) : s.mainRuns = true := by
  simp only [State.admits, Bool.and_eq_true] at h
  exact h.1.1.1

theorem State.receive_admitted (owner : State → State) (h : s.admits k hdr payload = true) :
    s.receive k hdr payload owner = (owner (s.withRecord none)).receiveBoundary := by
  simp only [State.admits, Bool.and_eq_true, decide_eq_true_eq] at h
  obtain ⟨⟨⟨runs, receiving⟩, accepted⟩, lets⟩ := h
  have routes : ¬ (s.link.run = .stopped ∧ k ≠ .cycle) := by simpa [imp_iff_or_not, or_comm] using lets
  rw [State.receive, if_pos (by rw [runs, receiving]; rfl), accepted]
  exact congrArg State.receiveBoundary (if_neg routes)

theorem done_admitted (owner : State → State) (h : s.admits k hdr payload = true) :
    done s (s.receive k hdr payload owner) = .next (s.routedFrom (owner (s.withRecord none))) := by
  rw [State.receive_admitted owner h]
  rfl

theorem State.routedFrom_link (h : u.link = { s.link with record := none }) : (s.routedFrom u).link = s.received := by
  change u.receiveBoundary.link = _
  unfold State.receiveBoundary State.received
  rw [h]
  by_cases stops : s.link.run = .stopping
  · rw [if_pos ⟨stops, rfl⟩, if_pos stops]
    rfl
  · rw [if_neg fun k => stops k.1, if_neg stops]
    exact h

theorem State.only_routedFrom (s u : State) : OnlyChanges [.link, .check, .pins] u (s.routedFrom u) :=
  (State.only_receiveBoundary u).trans (State.only_ended s _)

theorem State.routedFrom_routed (h : OnlyChanges blocks (s.withRecord none) u) (ml : .link ∉ blocks)
    (mc : .check ∈ blocks) : Routed blocks s (s.routedFrom u) := by
  have closed : OnlyChanges [.link] s (s.withRecord none) := .withRecord _ (.refl s) (by decide)
  refine ⟨((closed.trans h).trans (s.only_routedFrom u)).mono ?_, State.routedFrom_link (h.keep .link ml)⟩
  intro b
  simp only [List.mem_append, List.mem_cons, List.not_mem_nil, or_false]
  rintro ((rfl | hb) | rfl | rfl | rfl) <;> simp [*]

/-- A frame that its owner takes without a change leaves the retained check as well. -/
theorem State.routedFrom_idle (s : State) : Routed [] s (s.routedFrom (s.withRecord none)) :=
  ⟨.endedMain (.receiveBoundary (.withRecord _ (.refl s) (by decide)) (by decide)) (by decide) (by decide),
    State.routedFrom_link rfl⟩

end

/-! ## The record that is acknowledged -/

/-- The oldest record of a number, if there is one. -/
theorem exists_oldest (rs : List TripRecord) (n : Nat) : (∀ r ∈ rs, r.trip ≠ n)
    ∨ ∃ as r bs, rs = as ++ r :: bs ∧ r.trip = n ∧ ∀ x ∈ as, x.trip ≠ n := by
  cases h : rs.find? (fun r => r.trip = n) with
  | none => exact .inl (by simpa using h)
  | some r =>
    obtain ⟨named, as, bs, parts, older⟩ := List.find?_eq_some_iff_append.mp h
    exact .inr ⟨as, r, bs, parts, by simpa using named, by simpa using older⟩

/-- The state in which an acknowledged record has left the store for the totals. -/
def State.acked (s : State) (r : TripRecord) (left : List TripRecord) : State :=
  s.withStore { s.store with records := left, totals := s.store.totals.acknowledge r }

theorem State.acknowledge_none (h : ∀ r ∈ s.store.records, r.trip ≠ n) : s.acknowledge n = s := by
  have none : s.store.records.find? (fun r => r.trip = n) = none := by simpa using h
  rw [State.acknowledge, none]

section
variable (parts : s.store.records = as ++ r :: bs) (named : r.trip = n) (older : ∀ x ∈ as, x.trip ≠ n)
include parts named older

theorem State.acknowledge_eq :
    s.acknowledge n = ((s.acked r (as ++ bs)).releaseServed n).raise .totalAcked := by
  have found : s.store.records.find? (fun r => r.trip = n) = some r :=
    List.find?_eq_some_iff_append.mpr ⟨by simpa using named, as, bs, parts, by simpa using older⟩
  have left : s.store.records.eraseP (fun r => r.trip = n) = as ++ bs := by
    rw [parts, List.eraseP_append_right _ (by simpa using older), List.eraseP_cons_of_pos (by simpa using named)]
  rw [State.acknowledge, found]
  simp only [left]
  rfl

theorem State.acknowledge_store :
    (s.acknowledge n).store = ((s.acked r (as ++ bs)).releaseServed n).store := by
  rw [State.acknowledge_eq parts named older]
  exact (State.only_raise _ _).keep .store (by decide)

theorem State.acknowledge_arbiter :
    (s.acknowledge n).arbiter = ((s.acked r (as ++ bs)).releaseServed n).arbiter := by
  rw [State.acknowledge_eq parts named older]
  exact (State.only_raise _ _).keep .arbiter (by decide)

theorem State.acknowledge_raised (m : s.mainRuns = true) : Raised [.totalAcked] s (s.acknowledge n) := by
  have released : OnlyChanges [.store, .arbiter] s ((s.acked r (as ++ bs)).releaseServed n) :=
    .releaseServed _ (.withStore (.refl s) (by decide)) (by decide)
  rw [State.acknowledge_eq parts named older]
  exact (State.raise_raised ((released.mainRuns_eq (by decide)).trans m) _).from_same
    (released.keep .events (by decide))

end

/-! ## What the sender serves next -/

theorem State.releaseServed_other (h : u.store.sender.served ≠ some n) : u.releaseServed n = u := by
  rcases u.releaseServed_cases n with ⟨same, -⟩ | ⟨queued, -⟩ | ⟨⟨k, sent⟩, -⟩
  · exact same
  · exact absurd (by rw [queued]; rfl) h
  · exact absurd (by rw [sent]; rfl) h

theorem State.placeTotal_empty (h : s.store.records = []) : s.placeTotal = s := by
  rcases s.placeTotal_cases with same | ⟨r, rest, -, some, -⟩
  · exact same
  · rw [h] at some
    cases some

/-- A sender that served the record is idle without its entry, before it looks for work. -/
theorem State.releaseServed_idles (bounded : classCount u.arbiter.queue 2 ≤ 1)
    (serving : u.store.sender = .queued n ∧ .total n ∈ u.arbiter.queue
      ∨ (∃ k, u.store.sender = .sent n k) ∧ classCount u.arbiter.queue 2 = 0) :
    ∃ v : State, u.releaseServed n = v.placeTotal ∧ v.mainRuns = u.mainRuns
      ∧ v.store = { u.store with sender := .idle }
      ∧ v.arbiter = (if u.store.sender = .queued n then Arbiter.without (.total n) u.arbiter else u.arbiter)
      ∧ classCount v.arbiter.queue 2 = 0 := by
  rcases u.releaseServed_cases n with ⟨-, other⟩ | ⟨queued, released⟩ | ⟨⟨k, sent⟩, released⟩
  · rcases serving with ⟨queued, -⟩ | ⟨⟨k, sent⟩, -⟩
    · exact absurd (by rw [queued]; rfl) other
    · exact absurd (by rw [sent]; rfl) other
  · have mem : .total n ∈ u.arbiter.queue := by simpa [queued] using serving
    exact ⟨_, released, rfl, rfl, (if_pos queued).symm, classCount_erase_total n bounded mem⟩
  · have free : classCount u.arbiter.queue 2 = 0 := by simpa [sent] using serving
    exact ⟨_, released, rfl, rfl, (if_neg (by simp [sent])).symm, free⟩

/-- R49: and then it serves the oldest record left, or stays idle. -/
theorem State.releaseServed_serves (m : u.mainRuns = true) (bounded : classCount u.arbiter.queue 2 ≤ 1)
    (serving : u.store.sender = .queued n ∧ .total n ∈ u.arbiter.queue
      ∨ (∃ k, u.store.sender = .sent n k) ∧ classCount u.arbiter.queue 2 = 0) {a : Arbiter}
    (ha : a = if u.store.sender = .queued n then Arbiter.without (.total n) u.arbiter else u.arbiter) :
    (u.store.records = [] → (u.releaseServed n).store.sender = .idle ∧ (u.releaseServed n).arbiter = a)
      ∧ ∀ x rest, u.store.records = x :: rest → (u.releaseServed n).store.sender = .queued x.trip
          ∧ (u.releaseServed n).arbiter = { a with queue := a.queue ++ [.total x.trip] } := by
  obtain ⟨v, released, runs, store, arbiter, free⟩ := State.releaseServed_idles bounded serving
  have idle : v.store.sender = .idle := by rw [store]
  have records : v.store.records = u.store.records := by rw [store]
  rw [released, ha, ← arbiter, ← records]
  exact ⟨fun none => by rw [State.placeTotal_empty none]; exact ⟨idle, rfl⟩,
    fun x rest some => State.placeTotal_idle (runs.trans m) idle some free⟩

/-! ## TOTAL_ACK -/

theorem exec_totalAck {hdr : AirHeader} {payload : List Byte} (h : s.admits .totalAck hdr payload = true)
    (number : parseId payload = .ok n) :
    exec (.totalAck hdr payload) s = .next (s.routedFrom ((s.withRecord none).acknowledge n)) :=
  (done_admitted (handed (parseId payload) State.acknowledge) h).trans (by rw [number]; rfl)

/-- Settles O27: the frame reaches `State.acknowledge`, which lets the record leave the store and the sender go on. -/
theorem totalAcknowledged : Obligations.TotalsAcknowledged := by
  intro s hdr payload n admitted number
  refine ⟨_, exec_totalAck admitted number, fun absent => ?_, fun as r bs parts named older => ?_⟩
  · rw [State.acknowledge_none (s := s.withRecord none) absent]
    exact s.routedFrom_idle
  · have runs : (s.withRecord none).mainRuns = true := State.admits_mainRuns (s := s) admitted
    have ended := s.only_routedFrom ((s.withRecord none).acknowledge n)
    have store := (ended.keep .store (by decide)).trans
      (State.acknowledge_store (s := s.withRecord none) parts named older)
    have arbiter := (ended.keep .arbiter (by decide)).trans
      (State.acknowledge_arbiter (s := s.withRecord none) parts named older)
    have raised := State.acknowledge_raised (s := s.withRecord none) parts named older runs
    have only := ((s.withRecord none).only_acknowledge n).mono (bs := [.store, .arbiter, .events, .check]) (by decide)
    refine ⟨State.routedFrom_routed only (by decide) (by decide), raised.kept (ended.keep .events (by decide)), ?_⟩
    rw [store, arbiter]
    refine ⟨State.releaseServed_records n, State.releaseServed_pendingReport n, State.releaseServed_totals n,
      fun other => ?_, fun bounded serving a ha => ?_⟩
    · rw [State.releaseServed_other (u := (s.withRecord none).acked r (as ++ bs)) other]
      exact ⟨rfl, rfl⟩
    · simp only [State.queueBounded, Bool.and_eq_true, decide_eq_true_eq] at bounded
      obtain ⟨⟨⟨⟨-, one⟩, -⟩, -⟩, -⟩ := bounded
      exact State.releaseServed_serves (u := (s.withRecord none).acked r (as ++ bs)) runs one serving ha

end Sys2Proof.Machine
end

section
/-! PROOFS. The order of the store and the balance of the shift (R42, R56), and what an acknowledged record, a folded one
and one that enters do to them. -/

namespace Sys2Proof.Machine

variable {s u : State} {x y : Store} {o r : TripRecord} {rs rest : List TripRecord} {n : Nat}

/-! ## The two conditions -/

/-- At most sixteen records, and the sender serves the oldest or none (R42). -/
structure Store.InOrder (x : Store) : Prop where
  size : x.records.length ≤ 16
  oldest : ∀ n, x.sender.served = some n → ∃ r rest, x.records = r :: rest ∧ r.trip = n

/-- Trips ended are at their limit, or acknowledged plus folded plus stored for the current shift (R56). -/
def ShiftTotals.Balance (t : ShiftTotals) (rs : List TripRecord) : Prop :=
  65535 ≤ t.ended ∨ t.ended = t.ackCount + t.foldedCount + rs.countP fun r => r.shift = t.shift

/-- The totals balance with the records stored (R56). -/
def Store.Balanced (x : Store) : Prop := x.totals.Balance x.records

theorem State.storeInOrder_iff : s.storeInOrder = true ↔ s.store.InOrder := by
  unfold State.storeInOrder
  rw [Bool.and_eq_true, decide_eq_true_eq]
  refine ⟨fun ⟨size, oldest⟩ => ⟨size, fun n served => ?_⟩, fun h => ⟨h.size, ?_⟩⟩
  · rw [served, Option.all_some, Option.any_eq_true] at oldest
    obtain ⟨r, head, named⟩ := oldest
    obtain ⟨rest, parts⟩ := List.head?_eq_some_iff.mp head
    exact ⟨r, rest, parts, of_decide_eq_true named⟩
  · cases served : s.store.sender.served with
    | none => rfl
    | some n =>
      obtain ⟨r, rest, parts, named⟩ := h.oldest n served
      simp [parts, named]

theorem State.balanced_iff : s.balanced = true ↔ s.store.Balanced := by
  simp [State.balanced, Store.Balanced, ShiftTotals.Balance, Config.countMax, List.countP_eq_length_filter]

/-! ## The order -/

theorem Store.InOrder.of_idle (size : x.records.length ≤ 16) (idle : x.sender = .idle) : x.InOrder :=
  ⟨size, fun n served => by rw [idle] at served; cases served⟩

theorem Store.InOrder.congr (h : x.InOrder) (records : y.records = x.records)
    (served : y.sender.served = x.sender.served) : y.InOrder :=
  ⟨records ▸ h.size, fun n k => records ▸ h.oldest n (served ▸ k)⟩

/-- The sender serves the oldest record and no other. -/
theorem Store.InOrder.served_oldest (h : x.InOrder) (parts : x.records = r :: rest) (served : x.sender.served = some n) :
    r.trip = n := by
  obtain ⟨r', rest', parts', named⟩ := h.oldest n served
  cases parts.symm.trans parts'
  exact named

theorem State.placeTotal_inOrder (h : s.store.InOrder) : s.placeTotal.store.InOrder := by
  rcases s.placeTotal_cases with same | ⟨r, rest, -, oldest, -, -, placed⟩
  · rwa [same]
  · rw [placed]
    refine ⟨h.size, fun n served => ⟨r, rest, oldest, ?_⟩⟩
    cases served
    rfl

/-- A sender that served the record that left is released; so only another's place in the order counts. -/
theorem State.releaseServed_inOrder (size : u.store.records.length ≤ 16)
    (other : u.store.sender.served ≠ some n → u.store.InOrder) : (u.releaseServed n).store.InOrder := by
  rcases u.releaseServed_cases n with ⟨same, not⟩ | ⟨-, released⟩ | ⟨-, released⟩
  · rw [same]
    exact other not
  · rw [released]
    exact State.placeTotal_inOrder (.of_idle size rfl)
  · rw [released]
    exact State.placeTotal_inOrder (.of_idle size rfl)

theorem State.acknowledge_inOrder (h : s.store.InOrder) : (s.acknowledge n).store.InOrder := by
  rcases exists_oldest s.store.records n with absent | ⟨as, r, bs, parts, named, older⟩
  · rwa [State.acknowledge_none absent]
  · have size := h.size
    rw [parts] at size
    rw [State.acknowledge_store parts named older]
    have left : (as ++ bs).length ≤ 16 := by
      simp only [List.length_append, List.length_cons] at size ⊢
      omega
    refine State.releaseServed_inOrder left fun other => ⟨left, fun m served => ?_⟩
    cases as with
    | nil =>
      have oldest := h.served_oldest parts served
      exact absurd (served.trans (congrArg some (oldest.symm.trans named))) other
    | cons a as => exact ⟨a, as ++ bs, rfl, h.served_oldest parts served⟩

theorem State.foldOldest_inOrder (h : s.store.InOrder) (parts : s.store.records = o :: rest) :
    s.foldOldest.store.InOrder := by
  have store : (s.folded o rest).store = _ := State.folded_store
  have size := h.size
  rw [parts, List.length_cons] at size
  have eq : s.foldOldest = (s.folded o rest).releaseServed o.trip := State.foldOldest_eq parts
  rw [eq]
  have left : rest.length ≤ 16 := by omega
  refine State.releaseServed_inOrder (by rw [store]; exact left) fun other => ?_
  rw [store] at other ⊢
  refine ⟨left, fun n served => absurd ?_ other⟩
  exact served.trans (congrArg some (h.served_oldest parts served).symm)

theorem State.entered_inOrder (h : s.store.InOrder) (room : s.store.records.length < 16) :
    (s.entered r).store.InOrder := by
  rw [State.entered_store]
  refine ⟨by simp; omega, fun n served => ?_⟩
  obtain ⟨x, rest, parts, named⟩ := h.oldest n served
  exact ⟨x, rest ++ [r], by simp [parts], named⟩

/-- The state that a record enters: a full store has folded its oldest first (R44). -/
def State.withRoom (s : State) : State := if s.store.records.length < 16 then s else s.foldOldest

theorem State.withRoom_cases : s.withRoom = s ∧ s.store.records.length < 16
    ∨ ∃ o rest, s.withRoom = s.foldOldest ∧ s.store.records = o :: rest := by
  unfold State.withRoom
  split
  · next room => exact .inl ⟨rfl, room⟩
  · next full =>
    obtain ⟨o, rest, parts⟩ := List.exists_cons_of_length_pos (show 0 < s.store.records.length by omega)
    exact .inr ⟨o, rest, rfl, parts⟩

theorem State.enterRecord_eq (r : TripRecord) : s.enterRecord r = (s.withRoom.entered r).placeTotal := rfl

theorem State.enterRecord_inOrder (h : s.store.InOrder) : (s.enterRecord r).store.InOrder := by
  rw [State.enterRecord_eq]
  refine State.placeTotal_inOrder ?_
  rcases s.withRoom_cases with ⟨same, room⟩ | ⟨o, rest, folded, parts⟩
  · rw [same]
    exact State.entered_inOrder h room
  · have size := h.size
    rw [parts, List.length_cons] at size
    rw [folded]
    refine State.entered_inOrder (State.foldOldest_inOrder h parts) ?_
    rw [(State.foldOldest_store parts).1]
    omega

/-! ## The balance -/

theorem ShiftTotals.balance_fresh (h : ∀ r ∈ rs, r.shift ≠ n) : (ShiftTotals.fresh n).Balance rs := by
  have none : rs.countP (fun r => r.shift = n) = 0 := List.countP_eq_zero.mpr fun r mem => by simpa using h r mem
  refine .inr ?_
  rw [show (ShiftTotals.fresh n).shift = n from rfl, none]
  rfl

section
variable {a : ShiftTotals} (h : a.Balance rs)
include h

/-- A record that leaves for the totals is counted there, if its shift is the current one. -/
theorem ShiftTotals.Balance.left (left : rs.Perm (r :: rest)) :
    (a.acknowledge r).Balance rest ∧ (a.fold r).Balance rest := by
  unfold ShiftTotals.Balance at h ⊢
  rw [left.countP_eq, List.countP_cons] at h
  unfold ShiftTotals.acknowledge ShiftTotals.fold
  by_cases current : r.shift = a.shift
  · simp only [current, decide_true, if_true, satAdd, Config.countMax] at h ⊢
    omega
  · simpa [current] using h

theorem ShiftTotals.Balance.enter (current : r.shift = a.shift) : (a.enter r).Balance (rs ++ [r]) := by
  have one : [r].countP (fun x => x.shift = a.shift) = 1 := by simp [current]
  change 65535 ≤ min 65535 (a.ended + 1)
    ∨ min 65535 (a.ended + 1) = a.ackCount + a.foldedCount + (rs ++ [r]).countP fun x => x.shift = a.shift
  rw [List.countP_append, one]
  unfold ShiftTotals.Balance at h
  omega

end

theorem State.acknowledge_balanced (h : s.store.Balanced) : (s.acknowledge n).store.Balanced := by
  unfold Store.Balanced at h ⊢
  rcases exists_oldest s.store.records n with absent | ⟨as, r, bs, parts, named, older⟩
  · rwa [State.acknowledge_none absent]
  · rw [State.acknowledge_store parts named older, State.releaseServed_totals, State.releaseServed_records]
    exact (h.left (parts ▸ List.perm_middle)).1

/-- Folding keeps the balance and the current shift. -/
theorem State.withRoom_balanced (h : s.store.Balanced) :
    s.withRoom.store.Balanced ∧ s.withRoom.store.totals.shift = s.store.totals.shift := by
  rcases s.withRoom_cases with ⟨same, -⟩ | ⟨o, rest, folded, parts⟩
  · rw [same]
    exact ⟨h, rfl⟩
  · obtain ⟨records, totals⟩ := State.foldOldest_store parts
    unfold Store.Balanced
    rw [folded, records, totals]
    refine ⟨(ShiftTotals.Balance.left h (.of_eq parts)).2, ?_⟩
    unfold ShiftTotals.fold
    split <;> rfl

theorem State.enterRecord_balanced (h : s.store.Balanced) (current : r.shift = s.store.totals.shift) :
    (s.enterRecord r).store.Balanced := by
  obtain ⟨balanced, shift⟩ := State.withRoom_balanced h
  unfold Store.Balanced
  rw [State.enterRecord_eq, State.placeTotal_totals, State.placeTotal_records, State.entered_store]
  exact ShiftTotals.Balance.enter balanced (current.trans shift.symm)

end Sys2Proof.Machine
end

section
/-! PROOFS. Every step keeps the store in order and the shift in balance (R42, R56). -/

namespace Sys2Proof.Machine

variable {s t u : State} {n : Nat} {fresh : Prop} {bs : List Block}

/-! ## Keeping both conditions -/

/-- The order of the store is kept from one state to another, and so is the balance, provided that a shift that opens is
`fresh`: no stored record carries its number. -/
structure StoreKept (fresh : Prop) (s t : State) : Prop where
  order : s.store.InOrder → t.store.InOrder
  balance : fresh → s.store.Balanced → t.store.Balanced

namespace StoreKept

theorem trans (h : StoreKept fresh s t) (k : StoreKept fresh t u) : StoreKept fresh s u :=
  ⟨k.order ∘ h.order, fun f => k.balance f ∘ h.balance f⟩

/-- The conditions look at the store alone. -/
theorem of_store (h : t.store = s.store) : StoreKept fresh s t := ⟨fun k => h ▸ k, fun _ k => h ▸ k⟩

theorem refl (s : State) : StoreKept fresh s s := of_store rfl

theorem of_only (h : OnlyChanges bs s t) (m : .store ∉ bs := by decide) : StoreKept fresh s t := of_store (h.keep .store m)

/-- What follows on other blocks does not count. -/
theorem andThen (h : StoreKept fresh s t) (k : OnlyChanges bs t u) (m : .store ∉ bs := by decide) :
    StoreKept fresh s u := h.trans (of_only k m)

/-- Nor does what may or may not follow on them. -/
theorem ite {p : Prop} [Decidable p] (h : StoreKept fresh s t) (same : u.store = t.store) :
    StoreKept fresh s (if p then u else t) := by
  split
  · exact h.trans (of_store same)
  · exact h

end StoreKept

/-! ## How commands end -/

theorem State.whenMain_storeKept {f : State → State} (h : StoreKept fresh s (f s)) : StoreKept fresh s (s.whenMain f) := by
  unfold State.whenMain
  split
  · exact h
  · exact .refl s

theorem State.whenRetained_storeKept {f : State → State} (h : StoreKept fresh s (f s)) :
    StoreKept fresh s (s.whenRetained f) := by
  unfold State.whenRetained
  split
  · exact .refl s
  · exact h

theorem done_storeKept (h : StoreKept fresh s u) (e : done s u = .next t) : StoreKept fresh s t := by
  obtain rfl : (s.updateCheck u).drive = t := Host.Outcome.next.inj e
  exact h.andThen (s.only_ended u)

theorem serve_storeKept {α : Type} {kind tag : Byte} {args : Option α} {owner : α → State → State × Answer}
    (h : ∀ a, StoreKept fresh s (owner a s).1) (e : serve kind tag args owner s = .next t) : StoreKept fresh s t := by
  have replied : ∀ {v : State} {a : Answer}, StoreKept fresh s v → StoreKept fresh s (v.putReply kind tag a) := fun k =>
    k.andThen (State.only_putReply _ _ _ _)
  cases m : s.mainRuns with
  | false => exact done_storeKept (.refl s) ((serve_held _ _ _ _ m).symm.trans e)
  | true =>
    cases args with
    | none => exact done_storeKept (replied (.refl s)) ((serve_malformed _ _ _ m).symm.trans e)
    | some a => exact done_storeKept (replied (h a)) ((serve_served _ _ _ _ m).symm.trans e)

theorem serveMeter_storeKept {α : Type} {kind tag : Byte} {states : List MeterState} {args : Option α}
    {owner : α → State → State × Answer} (h : ∀ a, StoreKept fresh s (owner a s).1)
    (e : serveMeter kind tag states args owner s = .next t) : StoreKept fresh s t := by
  unfold serveMeter at e
  split at e
  · exact serve_storeKept h e
  · exact serve_storeKept (owner := fun _ t => t.refused .refusedState) (fun _ => .refl s) e

theorem receive_storeKept {k : DownKind} {hdr : AirHeader} {payload : List Byte} {owner : State → State}
    (h : ∀ u, StoreKept fresh u (owner u)) (e : done s (s.receive k hdr payload owner) = .next t) :
    StoreKept fresh s t := by
  have closed : StoreKept fresh s (s.withRecord none) := .of_store rfl
  refine done_storeKept ?_ e
  unfold State.receive
  split
  · refine StoreKept.andThen ?_ (State.only_receiveBoundary _)
    split
    · split
      · exact closed
      · exact closed.trans (h _)
    · exact closed.andThen (State.only_offerFault _ _ _ _ _)
    · exact closed
  · exact .refl s

theorem handed_storeKept {α : Type} {fields : Except Nat α} {owner : α → State → State}
    (h : ∀ v u, StoreKept fresh u (owner v u)) (u : State) : StoreKept fresh u (handed fields owner u) := by
  rcases handed_cases (s := u) fields owner with ⟨v, -, eq⟩ | eq <;> rw [eq]
  · exact h v u
  · exact .refl u

/-! ## The sender -/

theorem State.placeTotal_storeKept (s : State) : StoreKept fresh s s.placeTotal := by
  refine ⟨State.placeTotal_inOrder, fun _ h => ?_⟩
  unfold Store.Balanced
  rwa [State.placeTotal_totals, State.placeTotal_records]

/-- A sender that serves no other record keeps both conditions. -/
theorem State.withSender_storeKept (x : Sender) (h : x = .idle ∨ x.served = s.store.sender.served) :
    StoreKept fresh s (s.withSender x) := by
  refine ⟨fun k => ?_, fun _ => id⟩
  rcases h with idle | served
  · exact .of_idle k.size idle
  · exact k.congr rfl served

theorem StoreKept.of_idle (h : t.store = { s.store with sender := .idle }) : StoreKept fresh s t :=
  (State.withSender_storeKept .idle (.inl rfl)).trans (.of_store h)

theorem State.expireAck_storeKept : StoreKept fresh s s.expireAck := by
  unfold State.expireAck
  split
  · exact (StoreKept.of_idle rfl).trans (State.placeTotal_storeKept _)
  · exact .refl s

theorem State.totalSent_storeKept : StoreKept fresh s (s.totalSent n) := by
  unfold State.totalSent
  split
  · next m queued =>
    split
    · exact State.withSender_storeKept _ (.inr (by rw [queued]; rfl))
    · exact .refl s
  · exact .refl s

/-! ## Records, totals and the report -/

theorem State.withPendingReport_storeKept (r : Option ShiftReport) :
    StoreKept fresh s (s.withStore { s.store with pendingReport := r }) :=
  ⟨fun h => h.congr rfl rfl, fun _ => id⟩

theorem State.shiftSent_storeKept : StoreKept fresh s (s.shiftSent n) := by
  unfold State.shiftSent
  split
  · exact .refl s
  · split
    · exact State.withPendingReport_storeKept none
    · exact .of_only s.only_placeShift

theorem State.closePulses_storeKept : StoreKept fresh s s.closePulses := by
  have store := s.closePulses_store
  exact ⟨fun h => h.congr (by rw [store]) (by rw [store]), fun _ h => store ▸ h⟩

theorem State.acknowledge_storeKept (n : Nat) (s : State) : StoreKept fresh s (s.acknowledge n) :=
  ⟨State.acknowledge_inOrder, fun _ => State.acknowledge_balanced⟩

theorem Sender.second_served (x : Sender) : x.second.served = x.served := by cases x <;> rfl

theorem State.second_storeKept : StoreKept fresh s s.second := by
  cases h : s.monitor.holding with
  | true => rw [State.second_holding h]; exact .refl s
  | false =>
    have store := State.second_store h
    exact ⟨fun k => k.congr (by rw [store]) (by rw [store]; exact Sender.second_served _), fun _ k => store ▸ k⟩

/-! ## The meter's requests -/

theorem State.openShift_storeKept : StoreKept
    (∀ r ∈ s.store.records, r.shift ≠ seqNext Config.countMax s.store.totals.shift) s s.openShift.1 := by
  unfold State.openShift
  repeat' split
  · exact .refl s
  · exact .refl s
  · exact ⟨fun h => h.congr rfl rfl, fun fresh _ => ShiftTotals.balance_fresh fresh⟩

theorem State.closeShift_storeKept : StoreKept fresh s s.closeShift.1 := by
  have pended : StoreKept fresh s s.shiftPended :=
    (State.withPendingReport_storeKept (some s.shiftReport)).trans (.of_store State.shiftPended_store)
  exact pended.andThen (State.only_lapseOffers _)

theorem State.cancelJob_storeKept : StoreKept fresh s s.cancelJob.1 := by
  unfold State.cancelJob
  cases s.meter.jobId with
  | none => exact .of_store rfl
  | some id =>
    have owed : StoreKept fresh s (s.oweCancel id .driverCancel) := .of_only (s.only_oweCancel id .driverCancel)
    exact (owed.andThen (State.only_closeAwarded _ _ _)).trans (.of_store rfl)

theorem State.hire_storeKept : StoreKept fresh s (s.hire n).1 := by
  unfold State.hire
  split
  · next f b _ _ =>
    have hired : StoreKept fresh s (s.hiredWith f b) := State.closePulses_storeKept.trans (.of_store rfl)
    exact hired.andThen State.only_startTrip_hired
  · exact .refl s

theorem State.payTrip_storeKept : StoreKept fresh s s.payTrip.1 := by
  unfold State.payTrip
  dsimp only
  split
  · exact .refl s
  · refine State.closePulses_storeKept.trans ?_
    exact ⟨State.enterRecord_inOrder, fun _ h => State.enterRecord_balanced h rfl⟩

theorem State.takeExtra_storeKept (i : Nat) : StoreKept fresh s (s.takeExtra i).1 := by
  unfold State.takeExtra
  repeat' split
  all_goals exact .of_store rfl

/-! ## Results, and offers of the owners -/

theorem State.tellDone_storeKept (g : Granted) : StoreKept fresh s (s.tellDone g) := by
  cases g with
  | slot => exact .of_only s.only_reportDone
  | detached => exact .refl s
  | entry e =>
    cases e with
    | bid offer => exact .of_only (s.only_bidDone offer)
    | bidCancel offer => exact .of_only (s.only_cancelDone offer)
    | total trip => exact State.totalSent_storeKept
    | receipt id => exact .of_only (s.only_receiptDone id)
    | receiptRefusal => exact .of_only s.only_refusalDone
    | driverMsg number => exact .of_only (s.only_driverDone number)
    | shift number => exact State.shiftSent_storeKept
    | passUp | status | tableResult => exact .of_store rfl

theorem State.takeDone_storeKept : StoreKept fresh s s.takeDone := by
  unfold State.takeDone
  split
  · exact .refl s
  · split
    · next f _ =>
      have left : StoreKept fresh s ((s.withInFlight none).leaveQueue f.granted) :=
        .of_only (.leaveQueue (bs := [.arbiter]) _ (.withInFlight _ (.refl s) (by decide)) (by decide))
      exact left.trans (State.tellDone_storeKept _)
    · exact .of_only (s.only_strayResult 1)

theorem State.storeOffers_storeKept (s : State) : StoreKept fresh s s.storeOffers :=
  s.placeTotal_storeKept.andThen (State.only_placeShift _)

theorem State.offerAgain_storeKept (order : OfferOrder) (s : State) : StoreKept fresh s (s.offerAgain order) := by
  have cancels : ∀ u : State, StoreKept fresh u u.placeCancels := fun u => .of_only u.only_placeCancels
  have receipts : ∀ u : State, StoreKept fresh u u.placeReceipts := fun u => .of_only u.only_placeReceipts
  have store : ∀ u : State, StoreKept fresh u u.storeOffers := State.storeOffers_storeKept
  cases order with
  | offersStoreMessages => exact ((cancels s).trans (store _)).trans (receipts _)
  | offersMessagesStore => exact ((cancels s).trans (receipts _)).trans (store _)
  | storeOffersMessages => exact ((store s).trans (cancels _)).trans (receipts _)
  | storeMessagesOffers => exact ((store s).trans (receipts _)).trans (cancels _)
  | messagesOffersStore => exact ((receipts s).trans (cancels _)).trans (store _)
  | messagesStoreOffers => exact ((receipts s).trans (store _)).trans (cancels _)

theorem State.offerAfterReset_storeKept (s : State) : StoreKept fresh s s.offerAfterReset :=
  (s.offerAgain_storeKept _).andThen (State.only_fillSlot _)

/-! ## The supply and the resets -/

theorem State.softReset_storeKept : StoreKept fresh s s.softReset := by
  unfold State.softReset
  dsimp only
  refine StoreKept.trans ?_ (State.offerAfterReset_storeKept _)
  split
  · exact .of_idle rfl
  · exact StoreKept.andThen (.of_idle rfl) (State.only_raise _ _)

theorem State.enterShed_storeKept : StoreKept fresh s s.enterShed := by
  unfold State.enterShed
  split
  · refine StoreKept.andThen ?_ (State.only_mainValues _)
    dsimp only
    split <;> exact .of_idle rfl
  · exact .refl s

/-- A backup-loss reset leaves an empty store, of which both conditions hold. -/
theorem State.backupLoss_storeKept : StoreKept fresh s s.backupLoss :=
  ⟨fun _ => .of_idle (Nat.zero_le _) rfl, fun _ _ => .inr rfl⟩

theorem State.tested_storeKept (endsShed : Bool) : StoreKept fresh s (s.tested endsShed) := by
  unfold State.tested
  extract_lets s1 _ s2
  have tested : StoreKept fresh s s1 := by
    unfold s1
    split
    · exact State.backupLoss_storeKept
    · exact .refl s
  have supplied : StoreKept fresh s s2 := tested.trans (.of_store rfl)
  split
  · exact supplied.andThen s2.only_exitShed
  · exact supplied

theorem State.restarted_storeKept (lost endsShed : Bool) (s : State) : StoreKept fresh s (s.restarted lost endsShed) := by
  unfold State.restarted
  extract_lets s4 s5 s6 s7
  have h4 : StoreKept fresh s s4 := .of_idle rfl
  have h5 : StoreKept fresh s s5 := StoreKept.ite h4 (by rfl)
  have h6 : StoreKept fresh s s6 := StoreKept.ite h5 (by rfl)
  have h7 : StoreKept fresh s s7 := StoreKept.ite h6 (by rfl)
  split
  · exact h7.trans s7.offerAfterReset_storeKept
  · exact h7

theorem State.mainReset_storeKept (endsShed : Bool) (s : State) : StoreKept fresh s (s.mainReset endsShed) :=
  (State.tested_storeKept endsShed).trans (State.restarted_storeKept s.checkFails endsShed _)

theorem State.returnSupply_storeKept : StoreKept fresh s s.returnSupply := by
  unfold State.returnSupply
  split
  · exact s.mainReset_storeKept true
  · exact .refl s

theorem State.releaseReset_storeKept (s : State) : StoreKept fresh s s.releaseReset := by
  refine StoreKept.trans ?_ (State.offerAfterReset_storeKept _)
  exact .of_store rfl

theorem State.resetPin_storeKept (level : Bool) : StoreKept fresh s (s.resetPin level) := by
  have pin : StoreKept fresh s (s.withMonitor { s.monitor with resetLow := !level }) := .of_store rfl
  unfold State.resetPin
  dsimp only
  split
  · exact pin
  · split
    · exact pin.trans (State.releaseReset_storeKept _)
    · exact pin.trans (State.mainReset_storeKept false _)

/-! ## The retained domain's steps -/

theorem State.takeActivation_storeKept : StoreKept fresh s s.takeActivation := by
  unfold State.takeActivation
  split
  · exact .of_only s.only_activate
  · exact .refl s

theorem State.takeEscalation_storeKept : StoreKept fresh s s.takeEscalation := by
  unfold State.takeEscalation
  split
  · exact .of_only s.only_escalate
  · exact .refl s

/-! ## Every command -/

/-- The shift that a command opens finds no stored record of its number (R53, R56). -/
def State.OpensFresh (c : Instr) (s : State) : Prop :=
  ∀ tag payload, c = .shiftOpen tag payload → ∀ r ∈ s.store.records,
    r.shift ≠ seqNext Config.countMax s.store.totals.shift

theorem exec_storeKept (c : Instr) (e : exec c s = .next t) : StoreKept (s.OpensFresh c) s t := by
  cases c with
  | shiftOpen tag payload =>
    have opened := State.openShift_storeKept (s := s)
    exact serveMeter_storeKept (fun _ => ⟨opened.order, fun fresh => opened.balance (fresh tag payload rfl)⟩) e
  | shiftClose => exact serveMeter_storeKept (fun _ => State.closeShift_storeKept) e
  | jobCancel => exact serveMeter_storeKept (fun _ => State.cancelJob_storeKept) e
  | hire => exact serveMeter_storeKept (fun _ => State.hire_storeKept) e
  | paid => exact serveMeter_storeKept (fun _ => State.payTrip_storeKept) e
  | endTrip | holdOn | holdOff => exact serveMeter_storeKept (fun _ => .of_store rfl) e
  | extra => exact serveMeter_storeKept State.takeExtra_storeKept e
  | readStatus | readNotices | readOffers | readMeter | readStore | readMessage | readFault | clearEvents | noticeSetup
  | releaseFault => exact serve_storeKept (fun _ => .of_store rfl) e
  | accept => exact serve_storeKept (fun a => .of_only (s.only_acceptOffer a)) e
  | dismiss => exact serve_storeKept (fun a => .of_only (s.only_dismissOffer a)) e
  | position => exact serve_storeKept (fun a => .of_only (s.only_position a)) e
  | msgRead => exact serve_storeKept (fun a => .of_only (s.only_readByDriver a)) e
  | msgAnswer => exact serve_storeKept (fun a => .of_only (s.only_answerByDriver a)) e
  | driverMsg => exact serve_storeKept (fun a => .of_only (s.only_sendDriver a)) e
  | readPass => exact serve_storeKept (fun _ => .of_only s.only_readPass) e
  | passUp => exact serve_storeKept (fun a => .of_only (s.only_passUp a)) e
  | localTableOpen svc => exact serve_storeKept (fun a => .of_only (s.only_localOpen svc a)) e
  | localTableSegment => exact serve_storeKept (fun a => .of_only (s.only_localSegment a)) e
  | localTableCommit svc => exact serve_storeKept (fun a => .of_only (s.only_localCommit svc a)) e
  | localTableAbort => exact serve_storeKept (fun a => .of_only (s.only_localAbort a)) e
  | softReset => exact serve_storeKept (owner := fun _ t => t.softReset.answered []) (fun _ => State.softReset_storeKept) e
  | localFrameMalformed bytes =>
    exact done_storeKept (State.whenMain_storeKept (.of_only (s.only_rejectLocal bytes))) e
  | startMarker => exact done_storeKept (.of_only s.only_startMarker) e
  | airFrameRejected bytes => exact done_storeKept (.of_only (s.only_rejectFrame bytes)) e
  | offer hdr =>
    exact receive_storeKept (handed_storeKept fun v u => .of_only (u.only_offerArrives (offerZone hdr) v)) e
  | offerWithdraw => exact receive_storeKept (handed_storeKept fun v u => .of_only (u.only_withdrawArrives v)) e
  | award => exact receive_storeKept (handed_storeKept fun v u => .of_only (u.only_awardArrives v)) e
  | refuse => exact receive_storeKept (handed_storeKept fun v u => .of_only (u.only_refuseArrives v)) e
  | message => exact receive_storeKept (handed_storeKept fun v u => .of_only (u.only_messageArrives v)) e
  | messageRecall => exact receive_storeKept (handed_storeKept fun v u => .of_only (u.only_recallMessage v)) e
  | cycle => exact receive_storeKept (handed_storeKept fun v u => .of_only (u.only_takeCycle v)) e
  | statusPoll => exact receive_storeKept (fun u => .of_only u.only_pollArrives) e
  | airTableOpen => exact receive_storeKept (handed_storeKept fun v u => .of_only (u.only_airOpen v)) e
  | airTableSegment => exact receive_storeKept (handed_storeKept fun v u => .of_only (u.only_airSegment v)) e
  | airTableCommit => exact receive_storeKept (handed_storeKept fun v u => .of_only (u.only_airCommit v)) e
  | airTableAbort => exact receive_storeKept (handed_storeKept fun v u => .of_only (u.only_airAbort v)) e
  | totalAck => exact receive_storeKept (handed_storeKept State.acknowledge_storeKept) e
  | emergencyAck => exact receive_storeKept (fun u => .of_only u.only_acknowledgeEmergency) e
  | emergencyClear => exact receive_storeKept (fun u => .of_only u.only_clearEmergency) e
  | pass hdr => exact receive_storeKept (handed_storeKept fun v u => .of_only (u.only_passArrives hdr.mode v)) e
  | grant => exact done_storeKept (.of_only s.only_makeGrant) e
  | txDone => exact done_storeKept State.takeDone_storeKept e
  | txFail withDone => exact done_storeKept (.of_only (s.only_takeFail withDone)) e
  | responseTimerExpiry => exact done_storeKept (.of_only s.only_expireResponse) e
  | settleTimerExpiry => exact done_storeKept (.of_only s.only_expireSettle) e
  | placeAppears order => exact done_storeKept (State.whenMain_storeKept (s.offerAgain_storeKept order)) e
  | ackTimerExpiry => exact done_storeKept (State.whenRetained_storeKept State.expireAck_storeKept) e
  | linkLossTimerExpiry => exact done_storeKept (State.whenMain_storeKept (.of_only s.only_loseLink)) e
  | offerLifetimeExpiry id => exact done_storeKept (State.whenMain_storeKept (.of_only (s.only_expireShown id))) e
  | bidLifetimeExpiry => exact done_storeKept (State.whenMain_storeKept (.of_only s.only_expireBid)) e
  | awardWaitExpiry => exact done_storeKept (State.whenMain_storeKept (.of_only s.only_expireAward)) e
  | inactivityTimerExpiry => exact done_storeKept (State.whenMain_storeKept (.of_only s.only_expireLoad)) e
  | activation => exact done_storeKept (State.whenRetained_storeKept State.takeActivation_storeKept) e
  | escalation => exact done_storeKept (State.whenRetained_storeKept State.takeEscalation_storeKept) e
  | intervalTimerExpiry => exact done_storeKept (State.whenRetained_storeKept (.of_only s.only_expireInterval)) e
  | seatCheck => exact done_storeKept (State.whenRetained_storeKept (.of_only s.only_reportSeat)) e
  | ignDebounceEnd => exact done_storeKept (.of_only s.only_endDebounce) e
  | roofBlinkToggle => exact done_storeKept (State.whenRetained_storeKept (.of_store rfl)) e
  | distPulse => exact done_storeKept (State.whenRetained_storeKept (.of_store rfl)) e
  | timerTick lines => exact done_storeKept (.of_only (s.only_tick lines)) e
  | meterSecond => exact done_storeKept State.second_storeKept e
  | shedEntry => exact done_storeKept State.enterShed_storeKept e
  | supplyReturn => exact done_storeKept State.returnSupply_storeKept e
  | powerUp => exact done_storeKept (.of_only s.only_powerUp) e
  | mainReset level => exact done_storeKept (State.resetPin_storeKept level) e

theorem step_storeKept (e : step s = .next t) : StoreKept (∀ c rest, s.pending = c :: rest → s.OpensFresh c) s t := by
  unfold step at e
  cases waiting : s.pending with
  | nil =>
    rw [waiting] at e
    exact Host.Outcome.next.inj e ▸ .refl s
  | cons c rest =>
    rw [waiting] at e
    have kept := exec_storeKept (s := s.withPending rest) c e
    exact ⟨kept.order, fun fresh => kept.balance (fresh c rest rfl)⟩

/-- Settles O56: the conditions look at the store alone, and every command keeps both. -/
theorem storeStaysBalanced : Obligations.StoreStaysBalanced := by
  refine ⟨fun s t h e => ?_, fun s t h e fresh => ?_⟩
  · exact State.storeInOrder_iff.mpr ((step_storeKept e).order (State.storeInOrder_iff.mp h))
  · refine State.balanced_iff.mpr ((step_storeKept e).balance ?_ (State.balanced_iff.mp h))
    rintro _ rest waiting tag payload rfl
    exact fresh tag payload rest waiting

end Sys2Proof.Machine
end

section
/-! PROOFS. The reset state meets the conditions that steps keep (R23, R42, R58, R83, R140, R191). -/

namespace Sys2Proof.Machine

/-- The check of the reset state is the one formed over the backup-loss values (R191). -/
theorem reset_checkFits : State.reset.checkFails = false := by
  have fits : State.reset.check = State.reset.givenCheck := rfl
  rw [State.checkFails, fits]
  exact Bool.or_eq_false_iff.mpr ⟨rfl, bne_self_eq_false _⟩

/-- Settles O57: queue, tables, lists and store are empty and the meter is OFF. -/
theorem resetMeetsInvariants : Obligations.ResetMeetsInvariants := by
  have order : State.reset.store.InOrder := .of_idle (Nat.zero_le _) rfl
  have balanced : State.reset.store.Balanced := .inr rfl
  have shaped : State.reset.meter.Shaped true := (Meter.shaped_idle (.inl rfl)).mpr ⟨rfl, rfl⟩
  exact ⟨rfl, rfl, rfl, rfl, rfl, reset_checkFits, State.meterShape_iff.mpr ⟨nofun, fun _ => shaped⟩,
    State.storeInOrder_iff.mpr order, State.balanced_iff.mpr balanced⟩

end Sys2Proof.Machine
end

section
/-! PROOFS. The Offer Table with its bid record, and the cancel list (R58, R69, R76): the conditions that steps keep, as
propositions, and the changes of the lists that keep them. -/

namespace Sys2Proof.Machine

variable {es fs : List OfferEntry} {e : OfferEntry} {b : BidRecord} {bid : Option BidRecord} {id : Nat} {st : OfferState}

/-! ## The table (R58) -/

/-- The bounds of the Offer Table (R58). -/
structure TableFits (es : List OfferEntry) : Prop where
  size : es.length ≤ 8
  distinct : (es.map OfferEntry.id).Nodup
  single : (es.filter OfferEntry.engaged).length ≤ 1

theorem OfferEntry.engaged_iff : e.engaged = true ↔ e.state = .bid ∨ e.state = .awarded := by
  simp [OfferEntry.engaged]

theorem eq_of_same_id (h : (es.map OfferEntry.id).Nodup) {x y : OfferEntry} (hx : x ∈ es) (hy : y ∈ es)
    (same : x.id = y.id) : x = y :=
  List.inj_on_of_nodup_map h hx hy same

theorem TableFits.nil : TableFits [] := ⟨Nat.zero_le _, List.nodup_nil, Nat.zero_le _⟩

/-- Entries that change without a new id keep the bounds when none becomes engaged that was not. -/
theorem TableFits.map (h : TableFits es) {f : OfferEntry → OfferEntry} (ids : ∀ x, (f x).id = x.id)
    (engaged : ∀ x ∈ es, (f x).engaged = true → x.engaged = true) : TableFits (es.map f) where
  size := by rw [List.length_map]; exact h.size
  distinct := by rw [List.map_map, show OfferEntry.id ∘ f = OfferEntry.id from funext ids]; exact h.distinct
  single := by
    rw [← List.countP_eq_length_filter, List.countP_map]
    refine le_trans (List.countP_mono_left engaged) ?_
    rw [List.countP_eq_length_filter]
    exact h.single

theorem TableFits.sublist (h : TableFits es) (sub : fs.Sublist es) : TableFits fs where
  size := sub.length_le.trans h.size
  distinct := (sub.map _).nodup h.distinct
  single := (sub.filter _).length_le.trans h.single

/-- An entry that is not engaged joins a table with room. -/
theorem TableFits.append (h : TableFits es) (room : es.length < 8) (new : ∀ x ∈ es, x.id ≠ e.id)
    (free : e.engaged = false) : TableFits (es ++ [e]) where
  size := by rw [List.length_append]; exact room
  distinct := by
    rw [List.map_append, List.nodup_append]
    refine ⟨h.distinct, List.nodup_singleton _, fun i hi j hj => ?_⟩
    obtain ⟨x, hx, rfl⟩ := List.mem_map.mp hi
    rw [List.mem_singleton.mp hj]
    exact new x hx
  single := by simpa [List.filter_append, free] using h.single

/-- Where only the entry of one id can be engaged, at most one is. -/
theorem engaged_le_one (distinct : (es.map OfferEntry.id).Nodup) (one : ∀ x ∈ es, x.engaged = true → x.id = id) :
    (es.filter OfferEntry.engaged).length ≤ 1 := by
  have nodup : ((es.filter OfferEntry.engaged).map OfferEntry.id).Nodup :=
    (List.filter_sublist.map _).nodup distinct
  have within : (es.filter OfferEntry.engaged).map OfferEntry.id ⊆ [id] := fun i hi => by
    obtain ⟨x, hx, rfl⟩ := List.mem_map.mp hi
    obtain ⟨mem, engaged⟩ := List.mem_filter.mp hx
    exact List.mem_singleton.mpr (one x mem engaged)
  have short := (nodup.subperm within).length_le
  rwa [List.length_map] at short

/-! ## The entry of an id takes a new state (R60) -/

/-- The entry of an id takes a new state; any other keeps its fields. -/
def OfferEntry.becomeAt (id : Nat) (st : OfferState) (e : OfferEntry) : OfferEntry :=
  if e.id = id then e.become st else e

theorem OfferEntry.becomeAt_id (x : OfferEntry) : (x.becomeAt id st).id = x.id := by
  unfold OfferEntry.becomeAt
  split <;> rfl

theorem OfferEntry.becomeAt_self (x : OfferEntry) : x.becomeAt x.id st = x.become st := if_pos rfl

theorem OfferEntry.becomeAt_of_ne (h : e.id ≠ id) : e.becomeAt id st = e := if_neg h

/-- Where no other entry has its id, the change is of one entry. -/
theorem map_becomeAt {as bs : List OfferEntry} (apart : ∀ x ∈ as ++ bs, x.id ≠ e.id) :
    (as ++ e :: bs).map (OfferEntry.becomeAt e.id st) = as ++ e.become st :: bs := by
  have others : ∀ l : List OfferEntry, (∀ x ∈ l, x.id ≠ e.id) → l.map (OfferEntry.becomeAt e.id st) = l := fun l h =>
    (List.map_congr_left fun x hx => OfferEntry.becomeAt_of_ne (h x hx)).trans (List.map_id _)
  rw [List.map_append, List.map_cons, e.becomeAt_self, others as fun x hx => apart x (List.mem_append_left _ hx),
    others bs fun x hx => apart x (List.mem_append_right _ hx)]

/-! ## The bid record (R58, R69, R77) -/

/-- The entry of an id is in BID. -/
def InBid (es : List OfferEntry) (id : Nat) : Prop := ∃ e ∈ es, e.id = id ∧ e.state = .bid

/-- An entry in BID has a record that does not wait to be given up; a record that does has no entry in BID and a frame in
flight, and any other has its entry in BID. -/
structure BidFits (es : List OfferEntry) (bid : Option BidRecord) : Prop where
  owned : ∀ id, InBid es id → ∃ b, bid = some b ∧ b.offer = id ∧ b.mark ≠ .cancelOnDone
  stands : ∀ b, bid = some b → b.mark ≠ .cancelOnDone → InBid es b.offer
  waits : ∀ b, bid = some b → b.mark = .cancelOnDone → b.stage = .inFlight ∧ ∀ id, ¬ InBid es id

theorem BidFits.congr (h : BidFits es bid) (same : ∀ id, InBid fs id ↔ InBid es id) : BidFits fs bid := by
  have eq : InBid fs = InBid es := funext fun id => propext (same id)
  refine ⟨?_, ?_, ?_⟩ <;> rw [eq]
  · exact h.owned
  · exact h.stands
  · exact h.waits

theorem BidFits.none (h : ∀ id, ¬ InBid es id) : BidFits es none := ⟨fun id k => absurd k (h id), nofun, nofun⟩

/-- A record whose own entry stands keeps standing under another stage and mark, *cancel on done* apart. -/
theorem BidFits.restage (h : BidFits es (some b)) (stands : b.mark ≠ .cancelOnDone) (stage : BidStage) {mark : BidMark}
    (further : mark ≠ .cancelOnDone) : BidFits es (some { b with stage, mark }) where
  owned id k := by
    obtain ⟨_, ⟨⟩, own, -⟩ := h.owned id k
    exact ⟨_, rfl, own, further⟩
  stands := by
    rintro _ ⟨⟩ -
    exact h.stands b rfl stands
  waits := by
    rintro _ ⟨⟩ k
    exact absurd k further

/-- Its entry gone, a record in flight waits for its frame. -/
theorem BidFits.given_up (stage : b.stage = .inFlight) (h : ∀ id, ¬ InBid es id) :
    BidFits es (some { b with mark := .cancelOnDone }) where
  owned id k := absurd k (h id)
  stands := by
    rintro _ ⟨⟩ k
    exact absurd rfl k
  waits := by
    rintro _ ⟨⟩ -
    exact ⟨stage, h⟩

theorem BidFits.only_one (h : BidFits es bid) {i j : Nat} (hi : InBid es i) (hj : InBid es j) : i = j := by
  obtain ⟨b, rfl, rfl, -⟩ := h.owned i hi
  obtain ⟨_, ⟨⟩, rfl, -⟩ := h.owned j hj
  rfl

theorem inBid_map {f : OfferEntry → OfferEntry} (ids : ∀ x, (f x).id = x.id)
    (states : ∀ x ∈ es, (f x).state = .bid ↔ x.state = .bid) (id : Nat) : InBid (es.map f) id ↔ InBid es id := by
  constructor
  · rintro ⟨_, mapped, own, bid⟩
    obtain ⟨x, hx, rfl⟩ := List.mem_map.mp mapped
    exact ⟨x, hx, ids x ▸ own, (states x hx).mp bid⟩
  · rintro ⟨x, hx, own, bid⟩
    exact ⟨f x, List.mem_map_of_mem hx, (ids x).trans own, (states x hx).mpr bid⟩

/-- Once the one entry in BID has left that state none is in it. -/
theorem not_inBid_becomeAt (one : ∀ i, InBid es i → i = id) (leaves : st ≠ .bid) (i : Nat) :
    ¬ InBid (es.map (OfferEntry.becomeAt id st)) i := by
  rintro ⟨_, mapped, -, bid⟩
  obtain ⟨x, hx, rfl⟩ := List.mem_map.mp mapped
  by_cases own : x.id = id
  · subst own
    rw [x.becomeAt_self] at bid
    exact leaves bid
  · rw [OfferEntry.becomeAt_of_ne own] at bid
    exact own (one x.id ⟨x, hx, rfl, bid⟩)

/-! ## Both together -/

/-- The Offer Table is within its bounds, and the bid record belongs to it. -/
structure Offers.Matched (o : Offers) : Prop where
  table : TableFits o.entries
  record : BidFits o.entries o.bid

section
variable {o p : Offers}

theorem Offers.Matched.congr (h : o.Matched) (entries : p.entries = o.entries) (bid : p.bid = o.bid) : p.Matched :=
  ⟨entries ▸ h.table, by rw [entries, bid]; exact h.record⟩

theorem Offers.Matched.of_empty (entries : o.entries = []) (bid : o.bid = none) : o.Matched := by
  refine ⟨entries ▸ .nil, ?_⟩
  rw [entries, bid]
  exact .none fun id k => by simp [InBid] at k

/-- Entries change, and none becomes engaged or enters or leaves BID. -/
theorem Offers.Matched.map (h : o.Matched) {f : OfferEntry → OfferEntry} (entries : p.entries = o.entries.map f)
    (bid : p.bid = o.bid) (ids : ∀ x, (f x).id = x.id)
    (states : ∀ x ∈ o.entries, (f x).state = x.state ∨ x.state ≠ .bid ∧ (f x).engaged = false) : p.Matched := by
  refine ⟨entries ▸ h.table.map ids fun x hx k => ?_, ?_⟩
  · rcases states x hx with same | ⟨-, free⟩
    · rwa [OfferEntry.engaged_iff, same, ← OfferEntry.engaged_iff] at k
    · simp [free] at k
  · rw [entries, bid]
    refine h.record.congr (inBid_map ids fun x hx => ?_)
    rcases states x hx with same | ⟨free, closed⟩
    · rw [same]
    · exact iff_of_false (fun k => by simp [OfferEntry.engaged, k] at closed) free

/-- Entries that are not in BID leave. -/
theorem Offers.Matched.sublist (h : o.Matched) (sub : p.entries.Sublist o.entries) (bid : p.bid = o.bid)
    (stay : ∀ x ∈ o.entries, x.state = .bid → x ∈ p.entries) : p.Matched := by
  refine ⟨h.table.sublist sub, bid ▸ h.record.congr fun id => ⟨?_, ?_⟩⟩
  · rintro ⟨x, hx, own, bid⟩
    exact ⟨x, sub.subset hx, own, bid⟩
  · rintro ⟨x, hx, own, bid⟩
    exact ⟨x, stay x hx bid, own, bid⟩

/-- A SHOWN entry of a new id joins. -/
theorem Offers.Matched.append (h : o.Matched) (room : o.entries.length < 8) (new : ∀ x ∈ o.entries, x.id ≠ e.id)
    (shown : e.state = .shown) (entries : p.entries = o.entries ++ [e]) (bid : p.bid = o.bid) : p.Matched := by
  refine ⟨entries ▸ h.table.append room new (by simp [OfferEntry.engaged, shown]), ?_⟩
  rw [entries, bid]
  refine h.record.congr fun id => ⟨?_, ?_⟩
  · rintro ⟨x, hx, own, inBid⟩
    rcases List.mem_append.mp hx with hx | hx
    · exact ⟨x, hx, own, inBid⟩
    · rw [List.mem_singleton.mp hx, shown] at inBid
      cases inBid
  · rintro ⟨x, hx, own, inBid⟩
    exact ⟨x, List.mem_append_left _ hx, own, inBid⟩

/-- The Offer Unit once the entry of an id has left BID for another state and the bid record is removed. -/
def Offers.bidEnded (id : Nat) (st : OfferState) (o : Offers) : Offers :=
  { o with entries := o.entries.map (OfferEntry.becomeAt id st), bid := none }

/-- The entry in BID leaves that state with its record removed, or waiting for its frame. -/
theorem Offers.Matched.leaveBid (h : o.Matched) (inBid : InBid o.entries id) (leaves : st ≠ .bid)
    (entries : p.entries = o.entries.map (OfferEntry.becomeAt id st))
    (bid : p.bid = none ∨ ∃ b : BidRecord, b.stage = .inFlight ∧ p.bid = some { b with mark := .cancelOnDone }) :
    p.Matched := by
  have one : ∀ i, InBid o.entries i → i = id := fun i k => h.record.only_one k inBid
  have gone := not_inBid_becomeAt one leaves
  refine ⟨entries ▸ h.table.map (fun x => x.becomeAt_id) fun x hx k => ?_, ?_⟩
  · by_cases own : x.id = id
    · obtain ⟨y, hy, same, bid⟩ := inBid
      rw [eq_of_same_id h.table.distinct hx hy (own.trans same.symm)]
      exact OfferEntry.engaged_iff.mpr (.inl bid)
    · rwa [OfferEntry.becomeAt_of_ne own] at k
  · rw [entries]
    rcases bid with removed | ⟨b, flight, waits⟩
    · rw [removed]
      exact .none gone
    · rw [waits]
      exact .given_up flight gone

theorem Offers.Matched.bidEnded (h : o.Matched) (inBid : InBid o.entries id) (leaves : st ≠ .bid) :
    (o.bidEnded id st).Matched := h.leaveBid inBid leaves rfl (.inl rfl)

/-- A SHOWN entry enters BID with a record of its own, when no other entry is engaged (R68). -/
theorem Offers.Matched.enterBid (h : o.Matched) (mem : e ∈ o.entries)
    (alone : ∀ x ∈ o.entries, x.id ≠ e.id → x.engaged = false)
    (entries : p.entries = o.entries.map (OfferEntry.becomeAt e.id .bid))
    (bid : p.bid = some b) (own : b.offer = e.id) (mark : b.mark ≠ .cancelOnDone) : p.Matched := by
  have ids : (p.entries.map OfferEntry.id) = o.entries.map OfferEntry.id := by
    rw [entries, List.map_map]
    exact List.map_congr_left fun x _ => x.becomeAt_id
  have distinct : (p.entries.map OfferEntry.id).Nodup := ids ▸ h.table.distinct
  have one : ∀ x ∈ p.entries, x.engaged = true → x.id = e.id := by
    intro y hy k
    rw [entries] at hy
    obtain ⟨x, hx, rfl⟩ := List.mem_map.mp hy
    by_contra apart
    rw [x.becomeAt_id] at apart
    rw [OfferEntry.becomeAt_of_ne apart, alone x hx apart] at k
    cases k
  have inBid : ∀ i, InBid p.entries i ↔ i = e.id := by
    intro i
    constructor
    · rintro ⟨x, hx, rfl, k⟩
      exact one x hx (OfferEntry.engaged_iff.mpr (.inl k))
    · rintro rfl
      refine ⟨e.become .bid, ?_, rfl, rfl⟩
      rw [entries, ← e.becomeAt_self]
      exact List.mem_map_of_mem mem
  refine ⟨⟨?_, distinct, engaged_le_one distinct one⟩, ?_⟩
  · rw [entries, List.length_map]
    exact h.table.size
  · rw [bid]
    refine ⟨fun i k => ⟨b, rfl, own.trans ((inBid i).mp k).symm, mark⟩, ?_, ?_⟩
    · rintro _ ⟨⟩ -
      exact (inBid _).mpr own
    · rintro _ ⟨⟩ k
      exact absurd k mark

end

/-! ## The conditions as the model states them -/

variable {s : State}

theorem State.tableBounded_iff : s.tableBounded = true ↔ TableFits s.offers.entries := by
  simp only [State.tableBounded, Config.offerSize, Bool.and_eq_true, decide_eq_true_eq]
  exact ⟨fun ⟨⟨size, distinct⟩, single⟩ => ⟨size, distinct, single⟩, fun h => ⟨⟨h.size, h.distinct⟩, h.single⟩⟩

theorem State.anyEntry_bid : s.anyEntry .bid = false ↔ ∀ id, ¬ InBid s.offers.entries id := by
  rw [State.anyEntry_eq_false]
  exact ⟨fun h _ ⟨e, he, _, bid⟩ => h e he bid, fun h e he bid => h e.id ⟨e, he, rfl, bid⟩⟩

theorem State.bidMatched_iff : s.bidMatched = true ↔ BidFits s.offers.entries s.offers.bid := by
  have owned : (s.offers.entries.all fun e =>
      e.state ≠ .bid || s.offers.bid.any fun b => b.offer = e.id && b.mark ≠ .cancelOnDone) = true
      ↔ ∀ id, InBid s.offers.entries id → ∃ b, s.offers.bid = some b ∧ b.offer = id ∧ b.mark ≠ .cancelOnDone := by
    simp only [List.all_eq_true, Bool.or_eq_true, decide_eq_true_eq, Option.any_eq_true, Bool.and_eq_true, InBid]
    constructor
    · rintro h _ ⟨e, he, rfl, bid⟩
      exact (h e he).resolve_left fun k => k bid
    · intro h e he
      by_cases bid : e.state = .bid
      · exact .inr (h e.id ⟨e, he, rfl, bid⟩)
      · exact .inl bid
  have standing : ∀ id, (s.offers.entries.any fun e => e.id = id && e.state = .bid) = true ↔ InBid s.offers.entries id :=
    fun id => by simp [InBid]
  rw [State.bidMatched, Bool.and_eq_true, owned, Option.all_eq_true]
  constructor
  · rintro ⟨own, rest⟩
    refine ⟨own, fun b hb mark => ?_, fun b hb mark => ?_⟩
    · have stands := rest b hb
      rw [if_neg mark] at stands
      exact (standing _).mp stands
    · have waits := rest b hb
      rw [if_pos mark, Bool.and_eq_true, Bool.not_eq_true', decide_eq_true_eq, State.anyEntry_bid] at waits
      exact waits
  · rintro ⟨own, stands, waits⟩
    refine ⟨own, fun b hb => ?_⟩
    split
    · next mark =>
      rw [Bool.and_eq_true, Bool.not_eq_true', decide_eq_true_eq, State.anyEntry_bid]
      exact waits b hb mark
    · next mark => exact (standing _).mpr (stands b hb mark)

theorem State.matched_iff : s.tableBounded = true ∧ s.bidMatched = true ↔ s.offers.Matched := by
  rw [State.tableBounded_iff, State.bidMatched_iff]
  exact ⟨fun ⟨h, k⟩ => ⟨h, k⟩, fun ⟨h, k⟩ => ⟨h, k⟩⟩

/-! ## The cancel list (R58, R76) -/

/-- The bounds of the cancel list. -/
structure CancelsFit (cs : List Cancel) : Prop where
  size : cs.length ≤ 4
  distinct : (cs.map Cancel.offer).Nodup

theorem State.cancelsBounded_iff : s.cancelsBounded = true ↔ CancelsFit s.offers.cancels := by
  simp only [State.cancelsBounded, Config.cancelSize, Bool.and_eq_true, decide_eq_true_eq]
  exact ⟨fun ⟨size, distinct⟩ => ⟨size, distinct⟩, fun h => ⟨h.size, h.distinct⟩⟩

section
variable {cs : List Cancel} {new : Cancel}

theorem CancelsFit.nil : CancelsFit [] := ⟨Nat.zero_le _, List.nodup_nil⟩

theorem CancelsFit.map (h : CancelsFit cs) {f : Cancel → Cancel} (offers : ∀ c, (f c).offer = c.offer) :
    CancelsFit (cs.map f) where
  size := by rw [List.length_map]; exact h.size
  distinct := by rw [List.map_map, show Cancel.offer ∘ f = Cancel.offer from funext offers]; exact h.distinct

theorem CancelsFit.sublist {ds : List Cancel} (h : CancelsFit cs) (sub : ds.Sublist cs) : CancelsFit ds where
  size := sub.length_le.trans h.size
  distinct := (sub.map _).nodup h.distinct

/-- A cancel may be removed for a new one (R76). -/
def Cancel.removable (c : Cancel) : Bool := c.isOwed && decide (c.reason ≠ .driverCancel)

theorem Cancel.removable_iff {c : Cancel} : c.removable = true ↔ c.stage = .owed ∧ c.reason ≠ .driverCancel := by
  simp [Cancel.removable, Cancel.isOwed]

/-! What becomes of a cancel that becomes owed (R76). -/

theorem oweInto_merged (listed : ∃ x ∈ cs, x.offer = new.offer) : oweInto cs new = cs := if_pos (by simpa using listed)

section
variable (fresh : ∀ x ∈ cs, x.offer ≠ new.offer)
include fresh

theorem oweInto_room (room : cs.length < 4) : oweInto cs new = cs ++ [new] := by
  unfold oweInto
  dsimp only
  rw [if_neg (by simpa using fresh), if_pos room]

theorem oweInto_full (full : 4 ≤ cs.length) :
    oweInto cs new = if cs.any Cancel.removable then cs.eraseP Cancel.removable ++ [new] else cs := by
  unfold oweInto
  dsimp only
  rw [if_neg (by simpa using fresh), if_neg (by simpa using full)]
  rfl

end

theorem CancelsFit.oweInto (h : CancelsFit cs) : CancelsFit (oweInto cs new) := by
  refine ⟨oweInto_length cs new h.size, ?_⟩
  have joined : ∀ {ds : List Cancel}, ds.Sublist cs → (∀ x ∈ cs, x.offer ≠ new.offer) →
      ((ds ++ [new]).map Cancel.offer).Nodup := by
    intro ds sub fresh
    rw [List.map_append, List.nodup_append]
    refine ⟨(sub.map _).nodup h.distinct, List.nodup_singleton _, fun i hi j hj => ?_⟩
    obtain ⟨x, hx, rfl⟩ := List.mem_map.mp hi
    rw [List.mem_singleton.mp hj]
    exact fresh x (sub.subset hx)
  by_cases listed : ∃ x ∈ cs, x.offer = new.offer
  · rw [oweInto_merged listed]
    exact h.distinct
  · have fresh : ∀ x ∈ cs, x.offer ≠ new.offer := fun x hx same => listed ⟨x, hx, same⟩
    rcases Nat.lt_or_ge cs.length 4 with room | full
    · rw [oweInto_room fresh room]
      exact joined (.refl _) fresh
    · rw [oweInto_full fresh full]
      split
      · exact joined List.eraseP_sublist fresh
      · exact h.distinct

end

end Sys2Proof.Machine
end

section
/-! PROOFS. The Message Store and its owed order (R83, R85): the condition that steps keep, as a proposition, and the
changes of the lists that keep it. -/

namespace Sys2Proof.Machine

variable {ms ns : List Message} {owed : List OwedItem} {refusal refused : Option RefusalOwed} {x : Message} {id : Nat}

/-! ## The messages and the pool (R83) -/

/-- The bounds of the Message Store. -/
structure PoolFits (ms : List Message) : Prop where
  size : ms.length ≤ 12
  pool : poolUsed ms ≤ 1536
  distinct : (ms.map Message.id).Nodup

theorem PoolFits.nil : PoolFits [] := ⟨Nat.zero_le _, Nat.zero_le _, List.nodup_nil⟩

theorem PoolFits.map (h : PoolFits ms) {f : Message → Message} (ids : ∀ x, (f x).id = x.id)
    (texts : ∀ x, (f x).text = x.text) : PoolFits (ms.map f) where
  size := by rw [List.length_map]; exact h.size
  pool := by
    have same : poolUsed (ms.map f) = poolUsed ms := by
      rw [poolUsed, List.map_map, poolUsed]
      exact congrArg List.sum (List.map_congr_left fun x _ => congrArg List.length (texts x))
    exact same ▸ h.pool
  distinct := by rw [List.map_map, show Message.id ∘ f = Message.id from funext ids]; exact h.distinct

theorem PoolFits.sublist (h : PoolFits ms) (sub : ns.Sublist ms) : PoolFits ns where
  size := sub.length_le.trans h.size
  pool := ((sub.map _).sum_le_sum fun _ _ => Nat.zero_le _).trans h.pool
  distinct := (sub.map _).nodup h.distinct

theorem PoolFits.append (h : PoolFits ms) (room : hasRoom ms x.text.length = true) (new : ∀ y ∈ ms, y.id ≠ x.id) :
    PoolFits (ms ++ [x]) := by
  simp only [hasRoom, Config.messageSize, Config.poolSize, Bool.and_eq_true, decide_eq_true_eq] at room
  refine ⟨by rw [List.length_append]; exact room.1, ?_, ?_⟩
  · simpa [poolUsed] using room.2
  · rw [List.map_append, List.nodup_append]
    refine ⟨h.distinct, List.nodup_singleton _, fun i hi j hj => ?_⟩
    obtain ⟨y, hy, rfl⟩ := List.mem_map.mp hi
    rw [List.mem_singleton.mp hj]
    exact new y hy

theorem PoolFits.eq_of_id (h : PoolFits ms) {y : Message} (hx : x ∈ ms) (hy : y ∈ ms) (same : x.id = y.id) : x = y :=
  List.inj_on_of_nodup_map h.distinct hx hy same

/-! ## The owed order (R83, R85) -/

/-- The message of an id carries a receipt mark. -/
def Marked (ms : List Message) (id : Nat) : Prop := ∃ x ∈ ms, x.id = id ∧ x.mark.isSome = true

/-- The owed order holds exactly the marked messages and the refusal, once each. -/
structure OwedFits (ms : List Message) (owed : List OwedItem) (refusal : Option RefusalOwed) : Prop where
  once : owed.Nodup
  marked : ∀ id, .message id ∈ owed ↔ Marked ms id
  refused : .refusal ∈ owed ↔ refusal.isSome = true

theorem OwedFits.congr (h : OwedFits ms owed refusal) (marks : ∀ id, Marked ns id ↔ Marked ms id)
    (same : refused.isSome = refusal.isSome) : OwedFits ns owed refused :=
  ⟨h.once, fun id => (h.marked id).trans (marks id).symm, same ▸ h.refused⟩

/-- An item that is not owed joins the order. -/
theorem OwedFits.once_append (h : OwedFits ms owed refusal) {i : OwedItem} (new : i ∉ owed) : (owed ++ [i]).Nodup := by
  rw [List.nodup_append]
  refine ⟨h.once, List.nodup_singleton _, fun j hj k hk => ?_⟩
  rw [List.mem_singleton.mp hk]
  rintro rfl
  exact new hj

theorem OwedFits.joinMessage (h : OwedFits ms owed refusal) (new : ¬ Marked ms id)
    (marks : ∀ i, Marked ns i ↔ Marked ms i ∨ i = id) : OwedFits ns (owed ++ [.message id]) refusal where
  once := h.once_append fun k => new ((h.marked id).mp k)
  marked i := by rw [marks, ← h.marked]; simp
  refused := by rw [← h.refused]; simp

theorem OwedFits.leaveMessage (h : OwedFits ms owed refusal) (marks : ∀ i, Marked ns i ↔ Marked ms i ∧ i ≠ id) :
    OwedFits ns (owed.filter fun i => i ≠ .message id) refusal where
  once := h.once.filter _
  marked i := by rw [marks, ← h.marked]; simp
  refused := by rw [← h.refused]; simp

theorem OwedFits.joinRefusal (h : OwedFits ms owed none) (r : RefusalOwed) : OwedFits ms (owed ++ [.refusal]) (some r) where
  once := h.once_append fun k => nomatch h.refused.mp k
  marked i := by rw [← h.marked]; simp
  refused := by simp

theorem OwedFits.leaveRefusal (h : OwedFits ms owed refusal) :
    OwedFits ms (owed.filter fun i => i ≠ .refusal) none where
  once := h.once.filter _
  marked i := by rw [← h.marked]; simp
  refused := by simp

/-! ## Marks of changed lists -/

theorem marked_map {f : Message → Message} (ids : ∀ x, (f x).id = x.id)
    (marks : ∀ x ∈ ms, (f x).mark.isSome = x.mark.isSome) (id : Nat) : Marked (ms.map f) id ↔ Marked ms id := by
  constructor
  · rintro ⟨_, mapped, own, mark⟩
    obtain ⟨x, hx, rfl⟩ := List.mem_map.mp mapped
    exact ⟨x, hx, ids x ▸ own, marks x hx ▸ mark⟩
  · rintro ⟨x, hx, own, mark⟩
    exact ⟨f x, List.mem_map_of_mem hx, (ids x).trans own, (marks x hx).trans mark⟩

/-- The change that `State.mapMessage` makes, of the message of an id. -/
def Message.changeAt (id : Nat) (f : Message → Message) (x : Message) : Message := if x.id = id then f x else x

section
variable {f : Message → Message}

theorem Message.changeAt_of_ne (h : x.id ≠ id) : x.changeAt id f = x := if_neg h

theorem Message.changeAt_self (h : x.id = id) : x.changeAt id f = f x := if_pos h

theorem Message.changeAt_id (ids : ∀ x, (f x).id = x.id) (x : Message) : (x.changeAt id f).id = x.id := by
  unfold Message.changeAt
  split
  · exact ids x
  · rfl

theorem Message.changeAt_text (texts : ∀ x, (f x).text = x.text) (x : Message) : (x.changeAt id f).text = x.text := by
  unfold Message.changeAt
  split
  · exact texts x
  · rfl

/-- A message of the list takes a mark. -/
theorem marked_changeAt_some (ids : ∀ x, (f x).id = x.id) (marks : ∀ x, (f x).mark.isSome = true)
    (mem : ∃ x ∈ ms, x.id = id) (i : Nat) : Marked (ms.map (Message.changeAt id f)) i ↔ Marked ms i ∨ i = id := by
  constructor
  · rintro ⟨_, mapped, own, mark⟩
    obtain ⟨x, hx, rfl⟩ := List.mem_map.mp mapped
    rw [Message.changeAt_id ids] at own
    by_cases same : x.id = id
    · exact .inr (own.symm.trans same)
    · rw [Message.changeAt_of_ne same] at mark
      exact .inl ⟨x, hx, own, mark⟩
  · intro h
    by_cases same : i = id
    · obtain ⟨x, hx, own⟩ := mem
      refine ⟨x.changeAt id f, List.mem_map_of_mem hx, (Message.changeAt_id ids x).trans (own.trans same.symm), ?_⟩
      rw [Message.changeAt_self own]
      exact marks x
    · obtain ⟨x, hx, own, mark⟩ := h.resolve_right same
      refine ⟨x, ?_, own, mark⟩
      rw [← Message.changeAt_of_ne (f := f) (own.trans_ne same)]
      exact List.mem_map_of_mem hx

/-- The message of an id loses its mark. -/
theorem marked_changeAt_none (ids : ∀ x, (f x).id = x.id) (marks : ∀ x, (f x).mark = none) (i : Nat) :
    Marked (ms.map (Message.changeAt id f)) i ↔ Marked ms i ∧ i ≠ id := by
  constructor
  · rintro ⟨_, mapped, own, mark⟩
    obtain ⟨x, hx, rfl⟩ := List.mem_map.mp mapped
    rw [Message.changeAt_id ids] at own
    have apart : x.id ≠ id := fun same => by
      rw [Message.changeAt_self same, marks] at mark
      cases mark
    rw [Message.changeAt_of_ne apart] at mark
    exact ⟨⟨x, hx, own, mark⟩, own ▸ apart⟩
  · rintro ⟨⟨x, hx, own, mark⟩, apart⟩
    refine ⟨x, ?_, own, mark⟩
    rw [← Message.changeAt_of_ne (f := f) (own.trans_ne apart)]
    exact List.mem_map_of_mem hx

end

theorem marked_filter (i : Nat) : Marked (ms.filter fun x => x.id ≠ id) i ↔ Marked ms i ∧ i ≠ id := by
  constructor
  · rintro ⟨x, hx, own, mark⟩
    obtain ⟨mem, apart⟩ := List.mem_filter.mp hx
    exact ⟨⟨x, mem, own, mark⟩, own ▸ of_decide_eq_true apart⟩
  · rintro ⟨⟨x, hx, own, mark⟩, apart⟩
    exact ⟨x, List.mem_filter.mpr ⟨hx, decide_eq_true (own.trans_ne apart)⟩, own, mark⟩

theorem marked_append_unmarked (free : x.mark = none) (i : Nat) : Marked (ms ++ [x]) i ↔ Marked ms i := by
  constructor
  · rintro ⟨y, hy, own, mark⟩
    rcases List.mem_append.mp hy with hy | hy
    · exact ⟨y, hy, own, mark⟩
    · rw [List.mem_singleton.mp hy, free] at mark
      cases mark
  · rintro ⟨y, hy, own, mark⟩
    exact ⟨y, List.mem_append_left _ hy, own, mark⟩

/-! ## The condition as the model states it -/

/-- The Message Store is within its bounds, and its owed order is that of the marks and the refusal. -/
structure Messages.Matched (m : Messages) : Prop where
  pool : PoolFits m.list
  order : OwedFits m.list m.owed m.refusal

theorem Messages.Matched.congr {m n : Messages} (h : m.Matched) (list : n.list = m.list) (order : n.owed = m.owed)
    (refusal : n.refusal.isSome = m.refusal.isSome) : n.Matched :=
  ⟨list ▸ h.pool, by rw [list, order]; exact h.order.congr (fun _ => .rfl) refusal⟩

theorem Messages.Matched.fresh : Messages.fresh.Matched where
  pool := .nil
  order := ⟨List.nodup_nil, fun id => by simp [Marked, Messages.fresh], by simp [Messages.fresh]⟩

variable {s : State}

theorem State.storedMessage_mem (h : s.storedMessage id = some x) : x ∈ s.messages.list ∧ x.id = id :=
  ⟨List.mem_of_find?_eq_some h, by simpa using List.find?_some h⟩

theorem State.storedMessage_none : s.storedMessage id = none ↔ ∀ x ∈ s.messages.list, x.id ≠ id := by
  simp [State.storedMessage]

theorem State.storedMessage_of_mem (fits : PoolFits s.messages.list) (mem : x ∈ s.messages.list) :
    s.storedMessage x.id = some x := by
  cases found : s.storedMessage x.id with
  | none => exact absurd rfl (State.storedMessage_none.mp found x mem)
  | some y =>
    obtain ⟨hy, same⟩ := State.storedMessage_mem found
    rw [fits.eq_of_id hy mem same]

theorem State.owedStage_message (fits : PoolFits s.messages.list) (id : Nat) :
    (s.owedStage (.message id)).isSome = true ↔ Marked s.messages.list id := by
  simp only [State.owedStage, Option.isSome_map]
  constructor
  · intro h
    obtain ⟨k, hk⟩ := Option.isSome_iff_exists.mp h
    obtain ⟨x, found, mark⟩ := Option.bind_eq_some_iff.mp hk
    obtain ⟨mem, own⟩ := State.storedMessage_mem found
    exact ⟨x, mem, own, by rw [mark]; rfl⟩
  · rintro ⟨x, mem, rfl, mark⟩
    rwa [State.storedMessage_of_mem fits mem]

theorem State.messagesMatched_iff : s.messagesMatched = true ↔ s.messages.Matched := by
  simp only [State.messagesMatched, Config.messageSize, Config.poolSize, Bool.and_eq_true, decide_eq_true_eq,
    List.all_eq_true, Bool.or_eq_true, List.contains_iff_mem]
  constructor
  · rintro ⟨⟨⟨⟨⟨⟨size, pool⟩, distinct⟩, once⟩, staged⟩, marks⟩, refused⟩
    have fits : PoolFits s.messages.list := ⟨size, pool, distinct⟩
    refine ⟨fits, once, fun id => ⟨fun h => (State.owedStage_message fits id).mp (staged _ h), ?_⟩, fun h => ?_, fun h => ?_⟩
    · rintro ⟨x, mem, rfl, mark⟩
      exact (marks x mem).resolve_left (by simpa [Option.isSome_iff_ne_none] using mark)
    · simpa [State.owedStage] using staged _ h
    · exact refused.resolve_left (by simpa [Option.isSome_iff_ne_none] using h)
  · rintro ⟨fits, once, marked, refused⟩
    refine ⟨⟨⟨⟨⟨⟨fits.size, fits.pool⟩, fits.distinct⟩, once⟩, fun i hi => ?_⟩, fun x hx => ?_⟩, ?_⟩
    · cases i with
      | message id => exact (State.owedStage_message fits id).mpr ((marked id).mp hi)
      | refusal => simpa [State.owedStage] using refused.mp hi
    · cases mark : x.mark with
      | none => exact .inl rfl
      | some k => exact .inr ((marked x.id).mpr ⟨x, hx, rfl, by rw [mark]; rfl⟩)
    · cases held : s.messages.refusal with
      | none => exact .inl rfl
      | some r => exact .inr (refused.mpr (by rw [held]; rfl))

end Sys2Proof.Machine
end

section
/-! PROOFS. Keeping the conditions of the Offer Unit and of the Message Store: how commands end, and the Offer Unit's
operations (R60 to R81). -/

namespace Sys2Proof.Machine

variable {s t u : State} {id : Nat} {st : OfferState} {bs : List Block} {e : OfferEntry} {b : BidRecord}

/-- The Offer Table with its bid record, the cancel list and the Message Store each keep their condition from one state to
another. -/
structure UnitsKept (s t : State) : Prop where
  offers : s.offers.Matched → t.offers.Matched
  cancels : CancelsFit s.offers.cancels → CancelsFit t.offers.cancels
  messages : s.messages.Matched → t.messages.Matched

namespace UnitsKept

theorem trans (h : UnitsKept s t) (k : UnitsKept t u) : UnitsKept s u :=
  ⟨k.offers ∘ h.offers, k.cancels ∘ h.cancels, k.messages ∘ h.messages⟩

/-- The conditions look at the two units alone. -/
theorem of_same (offers : t.offers = s.offers) (messages : t.messages = s.messages) : UnitsKept s t := by
  refine ⟨?_, ?_, ?_⟩
  · rw [offers]; exact id
  · rw [offers]; exact id
  · rw [messages]; exact id

theorem refl (s : State) : UnitsKept s s := of_same rfl rfl

theorem of_only (h : OnlyChanges bs s t) (mo : .offers ∉ bs := by decide) (mm : .messages ∉ bs := by decide) :
    UnitsKept s t := of_same (h.keep .offers mo) (h.keep .messages mm)

theorem andThen (h : UnitsKept s t) (k : OnlyChanges bs t u) (mo : .offers ∉ bs := by decide)
    (mm : .messages ∉ bs := by decide) : UnitsKept s u := h.trans (of_only k mo mm)

/-- A change of the Offer Table and the bid record. -/
theorem of_table (h : s.offers.Matched → t.offers.Matched) (cancels : t.offers.cancels = s.offers.cancels)
    (messages : t.messages = s.messages) : UnitsKept s t :=
  ⟨h, fun k => cancels ▸ k, fun k => messages ▸ k⟩

/-- A change of the cancel list, and of what the conditions do not look at. -/
theorem of_cancels (h : CancelsFit s.offers.cancels → CancelsFit t.offers.cancels)
    (entries : t.offers.entries = s.offers.entries) (bid : t.offers.bid = s.offers.bid)
    (messages : t.messages = s.messages) : UnitsKept s t :=
  ⟨fun k => k.congr entries bid, h, fun k => messages ▸ k⟩

/-- A change of the Message Store. -/
theorem of_messages (h : s.messages.Matched → t.messages.Matched) (offers : t.offers = s.offers) : UnitsKept s t := by
  refine ⟨?_, ?_, h⟩
  · rw [offers]; exact id
  · rw [offers]; exact id

/-- What may or may not follow on other blocks does not count. -/
theorem ite {p : Prop} [Decidable p] (h : UnitsKept s t) (k : UnitsKept t u) : UnitsKept s (if p then u else t) := by
  split
  · exact h.trans k
  · exact h

end UnitsKept

/-! ## How commands end -/

theorem State.whenMain_unitsKept {f : State → State} (h : UnitsKept s (f s)) : UnitsKept s (s.whenMain f) := by
  unfold State.whenMain
  split
  · exact h
  · exact .refl s

theorem State.whenRetained_unitsKept {f : State → State} (h : UnitsKept s (f s)) : UnitsKept s (s.whenRetained f) := by
  unfold State.whenRetained
  split
  · exact .refl s
  · exact h

theorem done_unitsKept (h : UnitsKept s u) (e : done s u = .next t) : UnitsKept s t := by
  obtain rfl : (s.updateCheck u).drive = t := Host.Outcome.next.inj e
  exact h.andThen (s.only_ended u)

theorem serve_unitsKept {α : Type} {kind tag : Byte} {args : Option α} {owner : α → State → State × Answer}
    (h : ∀ a, UnitsKept s (owner a s).1) (e : serve kind tag args owner s = .next t) : UnitsKept s t := by
  have replied : ∀ {v : State} {a : Answer}, UnitsKept s v → UnitsKept s (v.putReply kind tag a) := fun k =>
    k.andThen (State.only_putReply _ _ _ _)
  cases m : s.mainRuns with
  | false => exact done_unitsKept (.refl s) ((serve_held _ _ _ _ m).symm.trans e)
  | true =>
    cases args with
    | none => exact done_unitsKept (replied (.refl s)) ((serve_malformed _ _ _ m).symm.trans e)
    | some a => exact done_unitsKept (replied (h a)) ((serve_served _ _ _ _ m).symm.trans e)

theorem serveMeter_unitsKept {α : Type} {kind tag : Byte} {states : List MeterState} {args : Option α}
    {owner : α → State → State × Answer} (h : ∀ a, UnitsKept s (owner a s).1)
    (e : serveMeter kind tag states args owner s = .next t) : UnitsKept s t := by
  unfold serveMeter at e
  split at e
  · exact serve_unitsKept h e
  · exact serve_unitsKept (owner := fun _ t => t.refused .refusedState) (fun _ => .refl s) e

theorem receive_unitsKept {k : DownKind} {hdr : AirHeader} {payload : List Byte} {owner : State → State}
    (h : ∀ u, UnitsKept u (owner u)) (e : done s (s.receive k hdr payload owner) = .next t) : UnitsKept s t := by
  have closed : UnitsKept s (s.withRecord none) := .of_same rfl rfl
  refine done_unitsKept ?_ e
  unfold State.receive
  split
  · refine UnitsKept.andThen ?_ (State.only_receiveBoundary _)
    split
    · split
      · exact closed
      · exact closed.trans (h _)
    · exact closed.andThen (State.only_offerFault _ _ _ _ _)
    · exact closed
  · exact .refl s

theorem handed_unitsKept {α : Type} {fields : Except Nat α} {owner : α → State → State}
    (h : ∀ v u, UnitsKept u (owner v u)) (u : State) : UnitsKept u (handed fields owner u) := by
  rcases handed_cases (s := u) fields owner with ⟨v, -, eq⟩ | eq <;> rw [eq]
  · exact h v u
  · exact .refl u

/-! ## What the Offer Unit's operations do to it -/

theorem State.raise_offers (k : EventKind) : (s.raise k).offers = s.offers := (s.only_raise k).keep .offers (by decide)

theorem State.closeEntry_offers : (s.closeEntry id st).offers
    = { s.offers with entries := s.offers.entries.map (OfferEntry.becomeAt id st) } := State.raise_offers _

theorem State.dropBid_offers : s.dropBid.offers = { s.offers with bid := none } := by
  rcases s.dropBid_cases with ⟨same, none⟩ | ⟨b, -, offers, -⟩
  · rw [same, ← none]
  · exact offers

/-- The entry in BID closes and its bid is dropped (R70, R74, R75). -/
theorem State.dropBid_closeEntry_offers : (s.dropBid.closeEntry id st).offers = s.offers.bidEnded id st := by
  rw [State.closeEntry_offers, State.dropBid_offers]
  rfl

theorem State.withBid_closeEntry_offers : ((s.withBid none).closeEntry id st).offers = s.offers.bidEnded id st :=
  State.closeEntry_offers

/-- A stop that takes effect lapses the SHOWN entries (R81). -/
theorem State.offerBoundary_offers : s.offerBoundary.offers =
    if s.offers.run = .stopping ∧ s.anyEntry .bid = false then
      { s.offers with entries := s.offers.entries.map OfferEntry.lapse, run := .stopped }
    else s.offers := by
  unfold State.offerBoundary
  split
  · rw [State.lapseShown_offers]
    rfl
  · rfl

theorem State.bidStage_eq_some {stage : BidStage} :
    s.bidStage id = some stage ↔ ∃ b, s.offers.bid = some b ∧ b.offer = id ∧ b.stage = stage := by
  cases h : s.offers.bid with
  | none => simp [State.bidStage, h]
  | some b =>
    by_cases own : b.offer = id <;> simp [State.bidStage, h, own]

theorem State.entry_eq_some (h : s.entry id = some e) : e ∈ s.offers.entries ∧ e.id = id :=
  ⟨List.mem_of_find?_eq_some h, by simpa using List.find?_some h⟩

theorem State.entry_eq_none : s.entry id = none ↔ ∀ x ∈ s.offers.entries, x.id ≠ id := by simp [State.entry]

/-- The search for an entry in BID finds one. -/
theorem inBid_of_find {p : OfferEntry → Bool} (h : s.offers.entries.find? p = some e) (bid : p e = true → e.state = .bid) :
    InBid s.offers.entries e.id := ⟨e, List.mem_of_find?_eq_some h, rfl, bid (List.find?_some h)⟩

/-! ## Lapsing and the stop (R72, R77, R81) -/

theorem Offers.Matched.lapse {o p : Offers} (h : o.Matched) (entries : p.entries = o.entries.map OfferEntry.lapse)
    (bid : p.bid = o.bid) : p.Matched := by
  refine h.map entries bid OfferEntry.lapse_id fun x _ => ?_
  by_cases shown : x.state = .shown
  · exact .inr ⟨by simp [shown], by simp [OfferEntry.lapse, shown, OfferEntry.engaged]⟩
  · exact .inl (by rw [OfferEntry.lapse_of_ne shown])

theorem State.lapseShown_unitsKept (s : State) : UnitsKept s s.lapseShown := by
  have offers := s.lapseShown_offers
  exact .of_table (fun h => h.lapse (by rw [offers]) (by rw [offers])) (by rw [offers])
    (s.only_lapseShown.keep .messages (by decide))

theorem State.offerBoundary_unitsKept (s : State) : UnitsKept s s.offerBoundary := by
  rcases s.offerBoundary_cases with ⟨same, -⟩ | ⟨-, -, stop⟩
  · rw [same]
    exact .refl s
  · rw [stop]
    refine UnitsKept.trans ?_ (State.lapseShown_unitsKept _)
    exact .of_cancels id rfl rfl rfl

theorem State.runOffers_unitsKept (s : State) : UnitsKept s s.runOffers := .of_cancels id rfl rfl rfl

theorem State.stopOffers_unitsKept (s : State) : UnitsKept s s.stopOffers := by
  unfold State.stopOffers
  split
  · refine UnitsKept.trans ?_ (State.offerBoundary_unitsKept _)
    exact .of_cancels id rfl rfl rfl
  · exact .refl s

/-! ## Cancels (R76) -/

theorem State.setCancel_unitsKept (stage : OwedStage) (s : State) : UnitsKept s (s.setCancel id stage) :=
  .of_cancels (fun h => h.map fun c => by split <;> rfl) rfl rfl rfl

theorem State.placeCancel_unitsKept (s : State) : UnitsKept s s.placeCancel := by
  rcases s.placeCancel_cases with ⟨same, -⟩ | ⟨c, -, -, -, -, placed⟩
  · rw [same]
    exact .refl s
  · rw [placed]
    refine UnitsKept.trans ?_ (State.setCancel_unitsKept _ _)
    exact .of_same rfl rfl

theorem State.placeCancels_unitsKept (s : State) : UnitsKept s s.placeCancels :=
  s.placeCancel_unitsKept.trans (State.placeCancel_unitsKept _)

theorem State.oweCancel_unitsKept (reason : CancelReason) (s : State) : UnitsKept s (s.oweCancel id reason) := by
  refine UnitsKept.trans ?_ (State.placeCancels_unitsKept _)
  exact .of_cancels (fun h => h.oweInto) rfl rfl rfl

theorem State.cancelDone_unitsKept (s : State) : UnitsKept s (s.cancelDone id) := by
  refine UnitsKept.trans ?_ (State.placeCancels_unitsKept _)
  exact .of_cancels (fun h => h.sublist List.filter_sublist) rfl rfl rfl

/-! ## Entries that are not in BID -/

/-- The entry of an id closes, when it is not in BID. -/
theorem State.closeEntry_unitsKept (closed : st.closed = true)
    (free : s.offers.Matched → ∀ x ∈ s.offers.entries, x.id = id → x.state ≠ .bid) :
    UnitsKept s (s.closeEntry id st) := by
  have offers := State.closeEntry_offers (s := s) (id := id) (st := st)
  refine .of_table (fun h => ?_) (by rw [offers]) ((s.only_closeEntry id st).keep .messages (by decide))
  refine h.map (f := OfferEntry.becomeAt id st) (by rw [offers]) (by rw [offers]) (fun x => x.becomeAt_id) fun x hx => ?_
  by_cases own : x.id = id
  · refine .inr ⟨free h x hx own, ?_⟩
    subst own
    rw [x.becomeAt_self]
    cases st <;> first | rfl | cases closed
  · exact .inl (by rw [OfferEntry.becomeAt_of_ne own])

theorem State.closeAwarded_unitsKept (id : Option Nat) (closed : st.closed = true) (s : State) :
    UnitsKept s (s.closeAwarded id st) := by
  have offers := State.closeAwarded_offers (s := s) id st
  refine .of_table (fun h => ?_) (by rw [offers]) ((s.only_closeAwarded id st).keep .messages (by decide))
  refine h.map (by rw [offers]) (by rw [offers]) (fun x => by split <;> rfl) fun x _ => ?_
  split
  · next awarded =>
    refine .inr ⟨by simp [awarded.2], ?_⟩
    cases st <;> first | rfl | cases closed
  · exact .inl rfl

theorem State.dismissOffer_unitsKept : UnitsKept s (s.dismissOffer id).1 := by
  unfold State.dismissOffer
  split
  · exact .refl s
  · next e found =>
    split
    · exact .refl s
    · next free =>
      obtain ⟨mem, own⟩ := State.entry_eq_some found
      refine .of_table (fun h => h.sublist List.filter_sublist rfl fun x hx bid => ?_) rfl rfl
      refine List.mem_filter.mpr ⟨hx, decide_eq_true fun same => free (.inl ?_)⟩
      rwa [eq_of_same_id h.table.distinct mem hx (own.trans same.symm)]

theorem State.position_unitsKept (zone : Nat) : UnitsKept s (s.position zone).1 := by
  unfold State.position
  split
  · exact .refl s
  · exact .of_cancels id rfl rfl rfl

theorem OfferEntry.second_id (sent : Bool) (e : OfferEntry) : (e.second sent).id = e.id := by
  unfold OfferEntry.second
  split
  · rfl
  · split <;> rfl
  · rfl

theorem OfferEntry.second_state (sent : Bool) (e : OfferEntry) : (e.second sent).state = e.state := by
  unfold OfferEntry.second
  split
  · rfl
  · split <;> rfl
  · rfl

theorem State.offersSecond_unitsKept (s : State) : UnitsKept s s.offersSecond :=
  .of_table (fun h => h.map rfl rfl (OfferEntry.second_id _) fun x _ => .inl (x.second_state _)) rfl rfl

theorem State.mainSecond_unitsKept (s : State) : UnitsKept s s.mainSecond := by
  have others : OnlyChanges [.link, .loader] s.offersSecond s.mainSecond :=
    .withLoader (.withLink (.refl s.offersSecond) (by decide)) (by decide)
  exact s.offersSecond_unitsKept.andThen others

theorem State.second_unitsKept : UnitsKept s s.second := by
  cases held : s.monitor.holding with
  | true =>
    rw [State.second_holding held]
    exact .refl s
  | false =>
    rw [State.second_running held]
    refine UnitsKept.trans (.of_only s.only_retainedSecond) (State.whenMain_unitsKept ?_)
    exact State.mainSecond_unitsKept s.retainedSecond

/-! ## An offer arrives (R64 to R66) -/

section
variable {zone : Option Nat} {f : OfferFields}

theorem State.placeOffer_offers : (s.placeOffer zone f).offers = { s.offers with
    entries := s.offers.entries ++ [s.newEntry zone f], arrivals := (s.offers.arrivals + 1) % 65536 } :=
  State.raise_offers _

/-- Entries that are not in BID leave the table, and the new one joins. -/
theorem State.placeOffer_unitsKept (new : ∀ x ∈ s.offers.entries, x.id ≠ f.id)
    (left : s.offers.Matched → u.offers.entries.length < 8
      ∧ ∀ x ∈ s.offers.entries, x.state = .bid → x ∈ u.offers.entries)
    (sub : u.offers.entries.Sublist s.offers.entries) (bid : u.offers.bid = s.offers.bid)
    (cancels : u.offers.cancels = s.offers.cancels) (messages : u.messages = s.messages) :
    UnitsKept s (u.placeOffer zone f) := by
  have offers := State.placeOffer_offers (s := u) (zone := zone) (f := f)
  refine .of_table (fun h => ?_) (by rw [offers]; exact cancels)
    (((u.only_placeOffer zone f).keep .messages (by decide)).trans messages)
  obtain ⟨room, stay⟩ := left h
  exact (h.sublist sub bid stay).append (e := u.newEntry zone f) room (fun x hx => new x (sub.subset hx)) rfl
    (by rw [offers]) (by rw [offers])

/-- The table without the entry that a new one displaces, OFFER_CLOSED raised (R66). -/
def State.displacing (s : State) (c : OfferEntry) : State :=
  (s.withEntries (s.offers.entries.filter fun x => x.id ≠ c.id)).raise .offerClosed

theorem State.displacing_offers (c : OfferEntry) : (s.displacing c).offers
    = { s.offers with entries := s.offers.entries.filter fun x => x.id ≠ c.id } := State.raise_offers _

theorem State.placeOrDisplace_unitsKept (new : ∀ x ∈ s.offers.entries, x.id ≠ f.id) :
    UnitsKept s (s.placeOrDisplace zone f) := by
  unfold State.placeOrDisplace
  split
  · next room => exact State.placeOffer_unitsKept new (fun _ => ⟨room, fun _ hx _ => hx⟩) (.refl _) rfl rfl rfl
  · split
    · next closed =>
      refine State.placeOffer_unitsKept new (fun h => ⟨?_, fun x hx bid => ?_⟩) List.eraseP_sublist rfl rfl rfl
      · obtain ⟨c, mem, hc⟩ := List.any_eq_true.mp closed
        have fewer := List.length_eraseP_of_mem (p := fun e => e.state.closed) mem hc
        have some := List.length_pos_of_mem mem
        have size := h.table.size
        change (s.offers.entries.eraseP _).length < 8
        omega
      · exact (List.mem_eraseP_of_neg (by simp [bid, OfferState.closed])).mpr hx
    · split
      · exact .refl s
      · next c found =>
        obtain ⟨mem, shown⟩ := s.displacementCandidate_mem found
        split
        · have offers := s.displacing_offers c
          have messages : (s.displacing c).messages = s.messages := (State.only_raise _ _).keep .messages (by decide)
          refine State.placeOffer_unitsKept (u := s.displacing c) new (fun h => ?_) (by rw [offers]; exact List.filter_sublist)
            (by rw [offers]) (by rw [offers]) messages
          rw [offers]
          refine ⟨(List.length_filter_lt_length_iff_exists.mpr ⟨c, mem, by simp⟩).trans_le h.table.size, fun x hx bid => ?_⟩
          refine List.mem_filter.mpr ⟨hx, decide_eq_true fun same => ?_⟩
          rw [eq_of_same_id h.table.distinct hx mem same, shown] at bid
          cases bid
        · exact .refl s

theorem State.refreshOffer_unitsKept : UnitsKept s (s.refreshOffer f) :=
  .of_table (fun h => h.map rfl rfl (fun x => by split <;> rfl) fun x _ => .inl (by split <;> rfl)) rfl rfl

theorem State.offerArrives_unitsKept (zone : Option Nat) (f : OfferFields) (s : State) :
    UnitsKept s (s.offerArrives zone f) := by
  unfold State.offerArrives
  split
  · split
    · exact State.refreshOffer_unitsKept
    · next none =>
      exact State.placeOrDisplace_unitsKept (State.entry_eq_none.mp (by simpa using none))
  · exact .refl s

end

/-! ## The entry in BID (R68 to R78) -/

/-- A change that ends the bid of an entry in BID and closes or awards the entry. -/
theorem UnitsKept.of_bidEnded (inBid : s.offers.Matched → InBid s.offers.entries id) (leaves : st ≠ .bid)
    (offers : t.offers = s.offers.bidEnded id st) (messages : t.messages = s.messages) : UnitsKept s t :=
  .of_table (fun h => offers ▸ h.bidEnded (inBid h) leaves) (by rw [offers]; rfl) messages

/-- Refused, withdrawn, expired or lost, the entry closes, and a stop that waited takes effect. -/
theorem State.dropBid_closeEntry_unitsKept (inBid : s.offers.Matched → InBid s.offers.entries id) (leaves : st ≠ .bid) :
    UnitsKept s (s.dropBid.closeEntry id st).offerBoundary := by
  have only : OnlyChanges [.offers, .arbiter, .events] s (s.dropBid.closeEntry id st) :=
    .closeEntry _ _ (.dropBid (.refl s) (by decide)) (by decide)
  exact (UnitsKept.of_bidEnded inBid leaves State.dropBid_closeEntry_offers (only.keep .messages (by decide))).trans
    (State.offerBoundary_unitsKept _)

theorem State.withBid_closeEntry_unitsKept (inBid : s.offers.Matched → InBid s.offers.entries id) (leaves : st ≠ .bid) :
    UnitsKept s ((s.withBid none).closeEntry id st).offerBoundary := by
  have only : OnlyChanges [.offers, .events] s ((s.withBid none).closeEntry id st) :=
    .closeEntry _ _ (.withBid _ (.refl s) (by decide)) (by decide)
  exact (UnitsKept.of_bidEnded inBid leaves State.withBid_closeEntry_offers (only.keep .messages (by decide))).trans
    (State.offerBoundary_unitsKept _)

theorem State.bidBusy_false (h : s.bidBusy id = false) : ∀ x ∈ s.offers.entries, x.id ≠ id → x.engaged = false := by
  simp only [State.bidBusy, Bool.or_eq_false_iff, List.any_eq_false] at h
  intro x hx apart
  simpa [OfferEntry.engaged, apart] using h.1 x hx

theorem State.acceptOffer_unitsKept : UnitsKept s (s.acceptOffer id).1 := by
  unfold State.acceptOffer
  split
  · exact .refl s
  · next e found =>
    obtain ⟨mem, rfl⟩ := State.entry_eq_some found
    repeat' split
    case isFalse.isFalse.isFalse.isFalse free _ _ =>
      refine .of_table (fun h => ?_) rfl rfl
      exact h.enterBid mem (State.bidBusy_false (by simpa using free)) rfl rfl rfl nofun
    all_goals exact .refl s

/-- The meter ASSIGNED, the entry AWARDED and the bid record removed, before the other entries lapse. -/
def State.assigned (s : State) (id : Nat) : State :=
  ((s.withMeter { s.meter with state := .assigned, jobId := some id }).setEntry id .awarded).withBid none

theorem State.takeAward_eq : s.takeAward id = ((s.assigned id).lapseShown.raise .jobAwarded).offerBoundary := rfl

theorem State.takeAward_unitsKept (inBid : InBid s.offers.entries id) : UnitsKept s (s.takeAward id) := by
  have ended : UnitsKept s (s.assigned id) := .of_bidEnded (st := .awarded) (fun _ => inBid) (by decide) rfl rfl
  have raised : UnitsKept s ((s.assigned id).lapseShown.raise .jobAwarded) :=
    (ended.trans (State.lapseShown_unitsKept _)).andThen (State.only_raise _ _)
  rw [State.takeAward_eq]
  exact raised.trans (State.offerBoundary_unitsKept _)

theorem State.awardArrives_unitsKept (id : Nat) (s : State) : UnitsKept s (s.awardArrives id) := by
  unfold State.awardArrives
  split
  · next taken =>
    simp only [Bool.and_eq_true, List.any_eq_true, decide_eq_true_eq] at taken
    exact State.takeAward_unitsKept taken.1.1
  · split
    · exact .refl s
    · exact State.oweCancel_unitsKept _ s

theorem State.refuseArrives_unitsKept (id : Nat) (s : State) : UnitsKept s (s.refuseArrives id) := by
  unfold State.refuseArrives
  split
  · next e found =>
    obtain ⟨mem, own⟩ := State.entry_eq_some found
    split
    · next bid => exact State.dropBid_closeEntry_unitsKept (fun _ => ⟨e, mem, own, bid⟩) (by decide)
    · exact .refl s
  · exact .refl s

theorem State.withdrawArrives_unitsKept (id : Nat) (s : State) : UnitsKept s (s.withdrawArrives id) := by
  unfold State.withdrawArrives
  split
  · exact .of_only (s.only_withdrawJob id)
  · next e found =>
    obtain ⟨mem, own⟩ := State.entry_eq_some found
    have closes : e.state ≠ .bid → UnitsKept s (s.closeEntry id .withdrawn) := fun free =>
      State.closeEntry_unitsKept rfl fun h x hx same => by
        rwa [eq_of_same_id h.table.distinct hx mem (same.trans own.symm)]
    split
    · next shown => exact closes (by simp [shown])
    · next bid => exact State.dropBid_closeEntry_unitsKept (fun _ => ⟨e, mem, own, bid⟩) (by decide)
    · next awarded => exact (closes (by simp [awarded])).andThen (State.only_withdrawJob id (s.closeEntry id .withdrawn))
    · exact .refl s

/-! ## The frame of the bid (R69, R70, R77) -/

/-- A record under another stage, which a record that waits for its frame meets in flight already. -/
theorem State.restage_unitsKept (stage : BidStage) {mark : BidMark} (record : s.offers.bid = some b)
    (stands : b.mark ≠ .cancelOnDone) (further : mark ≠ .cancelOnDone) :
    UnitsKept s (s.withBid (some { b with stage, mark })) :=
  .of_table (fun h => ⟨h.table, (record ▸ h.record).restage stands stage further⟩) rfl rfl

theorem State.bidGranted_unitsKept (s : State) : UnitsKept s s.bidGranted := by
  unfold State.bidGranted
  cases record : s.offers.bid with
  | none => exact .of_cancels id rfl record.symm rfl
  | some b =>
    by_cases mark : b.mark = .cancelOnDone
    · refine .of_table (fun h => ⟨h.table, ?_⟩) rfl rfl
      have waits := h.record.waits b record mark
      have same : ({ b with stage := .inFlight } : BidRecord) = { b with mark := .cancelOnDone } := by
        rw [← waits.1, ← mark]
      change BidFits s.offers.entries (some { b with stage := .inFlight })
      rw [same]
      exact .given_up waits.1 waits.2
    · exact State.restage_unitsKept .inFlight record mark mark

/-- A record that waited for its frame is removed. -/
theorem State.waited_unitsKept (record : s.offers.bid = some b) (mark : b.mark = .cancelOnDone) :
    UnitsKept s (s.withBid none) :=
  .of_table (fun h => ⟨h.table, .none (h.record.waits b record mark).2⟩) rfl rfl

theorem State.bidDone_unitsKept (id : Nat) (s : State) : UnitsKept s (s.bidDone id) := by
  unfold State.bidDone
  split
  · exact .refl s
  · next b record =>
    split
    · exact .refl s
    · split
      · next mark => exact (State.waited_unitsKept record mark).trans (State.oweCancel_unitsKept _ _)
      · next mark =>
        refine UnitsKept.trans ?_ (State.placeCancels_unitsKept _)
        refine (State.restage_unitsKept .sent (mark := .none) record mark (by decide)).trans ?_
        exact .of_table (fun h => h.map rfl rfl (fun x => by split <;> rfl) fun x _ => .inl (by split <;> rfl)) rfl rfl

theorem State.bidFailed_unitsKept (id : Nat) (s : State) : UnitsKept s (s.bidFailed id) := by
  unfold State.bidFailed
  split
  · exact .refl s
  · next b record =>
    split
    · exact .refl s
    · next own =>
      rw [not_not] at own
      split
      · next mark => exact State.restage_unitsKept .queued record (by simp [mark]) (by simp [mark])
      · next mark =>
        refine UnitsKept.trans ?_ (State.placeCancels_unitsKept _)
        refine UnitsKept.trans (.of_only (s.only_withdraw (.bid id))) ?_
        refine State.withBid_closeEntry_unitsKept (s := s.withdraw (.bid id)) (fun h => ?_) (by decide)
        exact own ▸ h.record.stands b record (by simp [mark])
      · next mark =>
        refine UnitsKept.trans ?_ (State.placeCancels_unitsKept _)
        exact UnitsKept.trans (.of_only (s.only_withdraw (.bid id))) (State.waited_unitsKept record mark)

/-! ## Expiries (R67, R70, R71) -/

theorem State.expireShown_unitsKept : UnitsKept s (s.expireShown id) := by
  unfold State.expireShown
  split
  · next due =>
    simp only [List.any_eq_true, Bool.and_eq_true, decide_eq_true_eq] at due
    obtain ⟨e, mem, ⟨own, shown⟩, -⟩ := due
    refine State.closeEntry_unitsKept rfl fun h x hx same => ?_
    rw [eq_of_same_id h.table.distinct hx mem (same.trans own.symm), shown]
    decide
  · exact .refl s

theorem State.expireBid_unitsKept : UnitsKept s s.expireBid := by
  unfold State.expireBid
  split
  · exact .refl s
  · next e found =>
    have inBid := inBid_of_find found fun h => by simp at h; exact h.1
    split
    · exact State.dropBid_closeEntry_unitsKept (fun _ => inBid) (by decide)
    · next flight =>
      obtain ⟨b, record, own, stage⟩ := State.bidStage_eq_some.mp flight
      refine .of_table (fun h => ⟨h.table, ?_⟩) rfl rfl
      obtain ⟨_, same, -, mark⟩ := h.record.owned e.id inBid
      rw [record] at same
      cases same
      change BidFits s.offers.entries (s.offers.bid.map _)
      rw [record]
      exact BidFits.restage (record ▸ h.record) mark b.stage (by decide)
    · exact .refl s

theorem State.expireAward_unitsKept : UnitsKept s s.expireAward := by
  unfold State.expireAward
  split
  · exact .refl s
  · next e found =>
    exact State.withBid_closeEntry_unitsKept (fun _ => inBid_of_find found fun h => by simp at h; exact h.1) (by decide)

/-! ## The meter leaves VACANT or ASSIGNED (R77, R78) -/

theorem State.lapseOffers_unitsKept (s : State) : UnitsKept s s.lapseOffers := by
  cases found : s.offers.entries.find? (fun e => e.state = .bid) with
  | none =>
    rw [State.lapseOffers_free fun e he => by simpa using List.find?_eq_none.mp found e he]
    exact s.lapseShown_unitsKept
  | some e =>
    rw [State.lapseOffers_bid found]
    refine UnitsKept.trans ?_ (State.offerBoundary_unitsKept _)
    have messages : (s.bidLapsed e).messages = s.messages := s.only_bidLapsed e |>.keep .messages (by decide)
    have offers := s.bidLapsed_offers e
    have shown := s.lapseShown_offers
    have bid : e.state = .bid := by simpa using List.find?_some found
    have inBid : InBid s.lapseShown.offers.entries e.id := by
      rw [shown]
      refine ⟨e, ?_, rfl, bid⟩
      rw [← OfferEntry.lapse_of_ne (e := e) (by simp [bid])]
      exact List.mem_map_of_mem (List.mem_of_find?_eq_some found)
    have leaves : ∀ {p : Offers}, p.entries = (s.bidLapsed e).offers.entries →
        (p.bid = none ∨ ∃ b : BidRecord, b.stage = .inFlight ∧ p.bid = some { b with mark := .cancelOnDone }) →
        s.offers.Matched → p.Matched := fun entries bid h =>
      (s.lapseShown_unitsKept.offers h).leaveBid inBid (st := .lapsed) (by decide)
        (entries.trans (by rw [offers, shown]; rfl)) bid
    have cancels : (s.bidLapsed e).offers.cancels = s.offers.cancels := by rw [offers]
    rcases (s.bidLapsed e).lapseBid_cases e.id with ⟨same, none⟩ | ⟨-, queued⟩ | ⟨stage, flight⟩ | ⟨-, sent⟩
    · rw [same]
      refine .of_table (fun h => ?_) cancels messages
      obtain ⟨b, record, own, -⟩ := (s.lapseShown_unitsKept.offers h).record.owned e.id inBid
      have stands : (s.bidLapsed e).bidStage e.id = some b.stage :=
        State.bidStage_eq_some.mpr ⟨b, by rw [offers]; rwa [shown] at record, own, rfl⟩
      rw [none] at stands
      cases stands
    · have dropped := (s.bidLapsed e).dropBid_offers
      rw [queued]
      exact .of_table (leaves (by rw [dropped]) (.inl (by rw [dropped]))) (by rw [dropped]; exact cancels)
        (((s.bidLapsed e).only_dropBid.keep .messages (by decide)).trans messages)
    · obtain ⟨b, record, -, stage⟩ := State.bidStage_eq_some.mp stage
      rw [flight]
      exact .of_table (leaves rfl (.inr ⟨b, stage, by rw [record]; rfl⟩)) cancels messages
    · rw [sent]
      refine UnitsKept.trans ?_ (State.oweCancel_unitsKept _ _)
      exact .of_table (leaves rfl (.inl rfl)) cancels messages

end Sys2Proof.Machine
end

section
/-! PROOFS. The Message Store's operations keep its condition (R85 to R95). -/

namespace Sys2Proof.Machine

variable {s t u : State} {id : Nat} {x : Message} {f : Message → Message}

/-! ## Changes of a stored message -/

/-- A change that keeps ids and texts, and the marks of the messages it meets. -/
theorem State.mapMessage_unitsKept (ids : ∀ x, (f x).id = x.id) (texts : ∀ x, (f x).text = x.text)
    (marks : s.messages.Matched → ∀ x ∈ s.messages.list, x.id = id → (f x).mark.isSome = x.mark.isSome) :
    UnitsKept s (s.mapMessage id f) := by
  refine .of_messages (fun h => ⟨h.pool.map (Message.changeAt_id ids) (Message.changeAt_text texts), ?_⟩) rfl
  refine h.order.congr (marked_map (Message.changeAt_id ids) fun x hx => ?_) rfl
  change (x.changeAt id f).mark.isSome = x.mark.isSome
  by_cases own : x.id = id
  · rw [Message.changeAt_self own]
    exact marks h x hx own
  · rw [Message.changeAt_of_ne own]

theorem State.mapMessage_stored {i : Nat} (ids : ∀ x, (f x).id = x.id) (h : ∃ x ∈ s.messages.list, x.id = i) :
    ∃ x ∈ (s.mapMessage id f).messages.list, x.id = i := by
  obtain ⟨x, mem, own⟩ := h
  exact ⟨x.changeAt id f, List.mem_map_of_mem mem, (Message.changeAt_id ids x).trans own⟩

/-- A refusal-owed record that stays one. -/
theorem State.withRefusal_unitsKept {r : Option RefusalOwed} (same : r.isSome = s.messages.refusal.isSome) :
    UnitsKept s (s.withRefusal r) :=
  .of_messages (fun h => h.congr rfl rfl same) rfl

theorem State.setOwedStage_unitsKept (i : OwedItem) (stage : OwedStage) (s : State) :
    UnitsKept s (s.setOwedStage i stage) := by
  cases i with
  | message id => exact State.mapMessage_unitsKept (fun _ => rfl) (fun _ => rfl) fun _ _ _ _ => Option.isSome_map
  | refusal => exact State.withRefusal_unitsKept Option.isSome_map

theorem State.placeReceipt_unitsKept (s : State) : UnitsKept s s.placeReceipt := by
  rcases s.placeReceipt_cases with ⟨same, -⟩ | ⟨i, -, -, -, -, -, placed⟩
  · rw [same]
    exact .refl s
  · rw [placed]
    refine UnitsKept.trans ?_ (State.setOwedStage_unitsKept _ _ _)
    exact .of_same rfl rfl

theorem State.placeReceipts_unitsKept (s : State) : UnitsKept s s.placeReceipts :=
  (s.placeReceipt_unitsKept.trans (State.placeReceipt_unitsKept _)).trans (State.placeReceipt_unitsKept _)

/-! ## Receipts become owed, are sent and fail (R85, R94, R95) -/

/-- The message of an id carries no mark exactly when it has none to be owed. -/
theorem State.mark_isNone (fits : PoolFits s.messages.list) :
    ((s.storedMessage id).bind Message.mark).isNone = true ↔ ¬ Marked s.messages.list id := by
  rw [← State.owedStage_message fits]
  simp [State.owedStage]

theorem State.oweReceipt_unitsKept (kind : ReceiptKind) (stored : ∃ x ∈ s.messages.list, x.id = id) :
    UnitsKept s (s.oweReceipt id kind) := by
  refine UnitsKept.trans ?_ (State.placeReceipts_unitsKept _)
  have marks := marked_changeAt_some (f := fun m => { m with mark := some (ReceiptMark.owe kind m.mark) }) (fun _ => rfl)
    (fun _ => rfl) stored
  refine .of_messages (fun h => ?_) (by split <;> rfl)
  have fits := h.pool.map (f := Message.changeAt id fun m => { m with mark := some (ReceiptMark.owe kind m.mark) })
    (Message.changeAt_id fun _ => rfl) (Message.changeAt_text fun _ => rfl)
  split
  · next free => exact ⟨fits, h.order.joinMessage ((State.mark_isNone h.pool).mp free) marks⟩
  · next held =>
    have already : Marked s.messages.list id := not_not.mp fun k => held ((State.mark_isNone h.pool).mpr k)
    refine ⟨fits, h.order.congr (fun i => (marks i).trans ?_) rfl⟩
    exact ⟨fun k => k.elim (fun marked => marked) fun same => same ▸ already, .inl⟩

theorem State.receiptGranted_unitsKept (i : OwedItem) (s : State) : UnitsKept s (s.receiptGranted i) := by
  cases i with
  | message id => exact State.setOwedStage_unitsKept (.message id) .inFlight s
  | refusal =>
    exact (State.setOwedStage_unitsKept .refusal .inFlight s).trans (State.withRefusal_unitsKept Option.isSome_map)

theorem State.receiptDone_unitsKept (id : Nat) (s : State) : UnitsKept s (s.receiptDone id) := by
  unfold State.receiptDone
  split
  · exact .refl s
  · next k held =>
    split
    · refine UnitsKept.trans ?_ (State.placeReceipts_unitsKept _)
      refine State.mapMessage_unitsKept (fun _ => rfl) (fun _ => rfl) fun h x hx own => ?_
      have stored := State.storedMessage_of_mem h.pool hx
      rw [own] at stored
      rw [stored] at held
      exact (congrArg Option.isSome held).symm
    · refine UnitsKept.trans ?_ (State.placeReceipts_unitsKept _)
      refine .of_messages (fun h => ⟨?_, ?_⟩) rfl
      · exact h.pool.map (Message.changeAt_id fun _ => rfl) (Message.changeAt_text fun _ => rfl)
      · exact h.order.leaveMessage (marked_changeAt_none (fun _ => rfl) fun _ => rfl)

theorem State.receiptFailed_unitsKept (id : Nat) (s : State) : UnitsKept s (s.receiptFailed id) :=
  State.mapMessage_unitsKept (fun _ => rfl) (fun _ => rfl) fun _ _ _ _ => Option.isSome_map

theorem State.refusalDone_unitsKept (s : State) : UnitsKept s s.refusalDone := by
  unfold State.refusalDone
  split
  · exact .refl s
  · next r held =>
    refine UnitsKept.trans ?_ (State.placeReceipts_unitsKept _)
    split
    · exact State.withRefusal_unitsKept (by rw [held]; rfl)
    · exact .of_messages (fun h => ⟨h.pool, h.order.leaveRefusal⟩) rfl

theorem State.refusalFailed_unitsKept (s : State) : UnitsKept s s.refusalFailed :=
  State.withRefusal_unitsKept Option.isSome_map

/-- Of the Message Store only a figure changes. -/
theorem State.driverDone_unitsKept (number : Nat) (s : State) : UnitsKept s (s.driverDone number) :=
  .of_messages (fun h => h.congr rfl rfl rfl) rfl

/-! ## Messages leave the store (R87, R89, R92) -/

theorem State.removeMessage_unitsKept (id : Nat) (s : State) : UnitsKept s (s.removeMessage id) := by
  have messages := s.removeMessage_messages id
  refine .of_messages (fun h => ?_) ((s.only_removeMessage id).keep .offers (by decide))
  rw [messages]
  exact ⟨h.pool.sublist List.filter_sublist, h.order.leaveMessage marked_filter⟩

theorem State.endRefusal_messages : s.endRefusal.messages
    = { s.messages with refusal := none, owed := s.messages.owed.filter fun i => i ≠ .refusal } := by
  unfold State.endRefusal
  dsimp only
  split <;> rfl

theorem State.endRefusal_unitsKept (s : State) : UnitsKept s s.endRefusal := by
  have messages := s.endRefusal_messages
  refine .of_messages (fun h => ?_) (s.only_endRefusal.keep .offers (by decide))
  rw [messages]
  exact ⟨h.pool, h.order.leaveRefusal⟩

theorem State.removeForRoom_unitsKept (id : Nat) (s : State) : UnitsKept s (s.removeForRoom id) := by
  refine (s.removeMessage_unitsKept id).trans ?_
  exact .of_messages (fun h => h.congr rfl rfl rfl) rfl

theorem State.removeForRoom_list (id : Nat) (s : State) :
    (s.removeForRoom id).messages.list = s.messages.list.filter fun m => m.id ≠ id :=
  congrArg Messages.list (s.removeMessage_messages id)

theorem State.removeAll_unitsKept (ids : List Nat) : ∀ s : State,
    UnitsKept s (ids.foldl (fun t id => t.removeForRoom id) s) := by
  induction ids with
  | nil => exact .refl
  | cons id ids ih => exact fun s => (s.removeForRoom_unitsKept id).trans (ih _)

theorem State.removeAll_list (ids : List Nat) : ∀ s : State, (ids.foldl (fun t id => t.removeForRoom id) s).messages.list
    = ids.foldl (fun ms id => ms.filter fun m => m.id ≠ id) s.messages.list := by
  induction ids with
  | nil => exact fun _ => rfl
  | cons id ids ih =>
    intro s
    rw [List.foldl_cons, ih, s.removeForRoom_list]
    rfl

theorem removeAll_sublist (ids : List Nat) : ∀ ms : List Message,
    (ids.foldl (fun ms id => ms.filter fun m => m.id ≠ id) ms).Sublist ms := by
  induction ids with
  | nil => exact .refl
  | cons id ids ih => exact fun ms => (ih _).trans List.filter_sublist

/-! ## A message arrives (R86 to R89) -/

/-- A new message joins the list, MSG_NEW or MSG_URGENT raised (R89). -/
def State.stored (s : State) (f : MessageFields) : State :=
  (s.withList (s.messages.list ++ [{ id := f.id, urgent := f.urgent, wanted := f.wanted, options := f.options, text := f.text
                                     state := .unread, answer := none, mark := none, lastSent := none }])).raise
    (if f.urgent then .msgUrgent else .msgNew)

/-- A message of the refused id ends the refusal (R89). -/
def State.accepted (s : State) (f : MessageFields) : State :=
  if (s.stored f).messages.refusal.any (fun r => r.id = f.id) then (s.stored f).endRefusal else s.stored f

theorem State.storeMessage_eq (f : MessageFields) : s.storeMessage f =
    if f.wanted then (s.accepted f).oweReceipt f.id .delivered else (s.accepted f).placeReceipts := rfl

section
variable {f : MessageFields}

theorem State.stored_messages : (s.stored f).messages = { s.messages with
    list := s.messages.list ++ [{ id := f.id, urgent := f.urgent, wanted := f.wanted, options := f.options, text := f.text
                                  state := .unread, answer := none, mark := none, lastSent := none }] } :=
  (State.only_raise _ _).keep .messages (by decide)

theorem State.accepted_list : (s.accepted f).messages.list = (s.stored f).messages.list := by
  unfold State.accepted
  split
  · rw [State.endRefusal_messages]
  · rfl

theorem State.accepted_unitsKept (room : hasRoom s.messages.list f.text.length = true)
    (new : ∀ x ∈ s.messages.list, x.id ≠ f.id) : UnitsKept s (s.accepted f) := by
  have messages := State.stored_messages (s := s) (f := f)
  have stored : UnitsKept s (s.stored f) := by
    refine .of_messages (fun h => ?_) (State.raise_offers _)
    rw [messages]
    exact ⟨h.pool.append room new, h.order.congr (marked_append_unmarked rfl) rfl⟩
  exact stored.ite (State.endRefusal_unitsKept _)

theorem State.storeMessage_unitsKept (room : hasRoom s.messages.list f.text.length = true)
    (new : ∀ x ∈ s.messages.list, x.id ≠ f.id) : UnitsKept s (s.storeMessage f) := by
  have accepted := State.accepted_unitsKept room new
  rw [State.storeMessage_eq]
  split
  · refine accepted.trans (State.oweReceipt_unitsKept _ ?_)
    rw [State.accepted_list, State.stored_messages]
    exact ⟨_, List.mem_append_right _ (List.mem_singleton_self _), rfl⟩
  · exact accepted.trans (State.placeReceipts_unitsKept _)

theorem State.refuseMessage_unitsKept : UnitsKept s (s.refuseMessage f) := by
  unfold State.refuseMessage
  split
  · exact .refl s
  · refine UnitsKept.trans ?_ (State.placeReceipts_unitsKept _)
    split
    · next none =>
      exact .of_messages (fun h => ⟨h.pool, OwedFits.joinRefusal (none ▸ h.order) _⟩) rfl
    · next r held => exact State.withRefusal_unitsKept (by rw [held]; rfl)

theorem State.messageArrives_unitsKept (f : MessageFields) (s : State) : UnitsKept s (s.messageArrives f) := by
  unfold State.messageArrives
  split
  · next m found =>
    obtain ⟨mem, -⟩ := State.storedMessage_mem found
    unfold State.duplicateMessage
    split
    · exact State.oweReceipt_unitsKept _ ⟨m, mem, rfl⟩
    · exact .refl s
  · next none =>
    split
    · next ids found =>
      obtain ⟨-, room⟩ := roomFor_spec _ _ _ _ found
      have list := State.removeAll_list ids s
      refine (State.removeAll_unitsKept ids s).trans (State.storeMessage_unitsKept ?_ fun x hx => ?_)
      · rw [list]
        exact room
      · rw [list] at hx
        exact State.storedMessage_none.mp none x ((removeAll_sublist ids _).subset hx)
    · exact State.refuseMessage_unitsKept

end

theorem State.recallMessage_unitsKept (id : Nat) (s : State) : UnitsKept s (s.recallMessage id) := by
  unfold State.recallMessage
  split
  · next m _ =>
    refine UnitsKept.trans ?_ (State.placeReceipts_unitsKept _)
    exact (s.removeMessage_unitsKept id).ite (.of_only (State.only_raise _ _))
  · split
    · exact s.endRefusal_unitsKept.trans (State.placeReceipts_unitsKept _)
    · exact .refl s

/-! ## Requests of the driver (R90, R91, R96) -/

theorem State.readByDriver_unitsKept (id : Nat) : UnitsKept s (s.readByDriver id).1 := by
  unfold State.readByDriver
  split
  · exact .refl s
  · next m found =>
    obtain ⟨mem, -⟩ := State.storedMessage_mem found
    split
    · have read : UnitsKept s (s.mapMessage m.id fun x => { x with state := .read }) :=
        State.mapMessage_unitsKept (fun _ => rfl) (fun _ => rfl) fun _ _ _ _ => rfl
      exact read.ite (State.oweReceipt_unitsKept _ (State.mapMessage_stored (fun _ => rfl) ⟨m, mem, rfl⟩))
    · exact .refl s

theorem State.answerByDriver_unitsKept (a : Nat × Nat) : UnitsKept s (s.answerByDriver a).1 := by
  unfold State.answerByDriver
  split
  · exact .refl s
  · next m found =>
    obtain ⟨mem, own⟩ := State.storedMessage_mem found
    repeat' split
    case isFalse.isTrue =>
      have answered : UnitsKept s (s.mapMessage a.1 fun x => { x with state := .answered, answer := some a.2 }) :=
        State.mapMessage_unitsKept (fun _ => rfl) (fun _ => rfl) fun _ _ _ _ => rfl
      exact answered.trans (State.oweReceipt_unitsKept _ (State.mapMessage_stored (fun _ => rfl) ⟨m, mem, own⟩))
    all_goals exact .refl s

theorem State.sendDriver_unitsKept (body : DriverText) : UnitsKept s (s.sendDriver body).1 := by
  unfold State.sendDriver
  split
  · exact .of_messages (fun h => h.congr rfl rfl rfl) rfl
  · exact .refl s

end Sys2Proof.Machine
end

section
/-! PROOFS. Every step keeps the conditions of the Offer Unit and of the Message Store (R58, R69, R76, R77, R83, R85). -/

namespace Sys2Proof.Machine

variable {s t u : State}

/-! ## The meter's requests (R5, R7, R9) -/

theorem State.cancelJob_unitsKept : UnitsKept s s.cancelJob.1 := by
  unfold State.cancelJob
  cases s.meter.jobId with
  | none => exact .of_same rfl rfl
  | some id =>
    have owed : UnitsKept s (s.oweCancel id .driverCancel) := s.oweCancel_unitsKept _
    exact (owed.trans (State.closeAwarded_unitsKept (st := .declined) (some id) rfl _)).trans (.of_same rfl rfl)

theorem State.hire_unitsKept (n : Nat) : UnitsKept s (s.hire n).1 := by
  unfold State.hire
  split
  · next f b _ _ =>
    have hired : UnitsKept s (s.hiredWith f b) := .of_only State.only_hiredWith
    change UnitsKept s (s.startTrip f b)
    by_cases assigned : s.meter.state = .assigned
    · rw [State.startTrip_assigned assigned]
      exact hired.trans (State.closeAwarded_unitsKept _ rfl _)
    · rw [show s.startTrip f b = (s.hiredWith f b).lapseOffers from if_neg assigned]
      exact hired.trans (State.lapseOffers_unitsKept _)
  · exact .refl s

theorem State.closeShift_unitsKept : UnitsKept s s.closeShift.1 :=
  UnitsKept.trans (.of_only s.only_shiftPended) (State.lapseOffers_unitsKept _)

theorem State.openShift_unitsKept : UnitsKept s s.openShift.1 := by
  unfold State.openShift
  repeat' split
  all_goals exact .of_same rfl rfl

theorem State.takeExtra_unitsKept (i : Nat) : UnitsKept s (s.takeExtra i).1 := by
  unfold State.takeExtra
  repeat' split
  all_goals exact .of_same rfl rfl

theorem State.payTrip_unitsKept : UnitsKept s s.payTrip.1 := by
  unfold State.payTrip
  dsimp only
  split
  · exact .refl s
  · exact UnitsKept.andThen (bs := [.store, .events, .arbiter, .meter]) (.of_only s.only_closePulses)
      (.withMeter (.enterRecord _ (.refl _) (by decide)) (by decide))

/-! ## Grants and results (R145 to R150) -/

theorem State.tellGrant_unitsKept (e : Entry) (s : State) : UnitsKept s (s.tellGrant e) := by
  cases e with
  | bid offer => exact s.bidGranted_unitsKept
  | bidCancel offer => exact s.setCancel_unitsKept .inFlight
  | receipt id => exact s.receiptGranted_unitsKept (.message id)
  | receiptRefusal => exact s.receiptGranted_unitsKept .refusal
  | total | driverMsg | status | tableResult | shift | passUp => exact .refl s

theorem State.makeGrant_unitsKept : UnitsKept s s.makeGrant := by
  rcases s.makeGrant_cases with ⟨same, -⟩ | ⟨-, slot⟩ | ⟨e, -, entry⟩
  · rw [same]
    exact .refl s
  · rw [slot]
    exact .of_only s.only_grantSlot
  · rw [entry]
    refine UnitsKept.trans ?_ (State.tellGrant_unitsKept e _)
    exact .of_only (bs := [.link, .arbiter])
      (.handOver _ (.withInFlight _ (.charge (.refl s) (by decide)) (by decide)) (by decide))

theorem State.tellDone_unitsKept (g : Granted) (s : State) : UnitsKept s (s.tellDone g) := by
  cases g with
  | slot => exact .of_only s.only_reportDone
  | detached => exact .refl s
  | entry e =>
    cases e with
    | bid offer => exact s.bidDone_unitsKept offer
    | bidCancel offer => exact s.cancelDone_unitsKept
    | total trip => exact .of_only (s.only_totalSent trip)
    | receipt id => exact s.receiptDone_unitsKept id
    | receiptRefusal => exact s.refusalDone_unitsKept
    | driverMsg number => exact s.driverDone_unitsKept number
    | shift number => exact .of_only (s.only_shiftSent number)
    | passUp | status | tableResult => exact .of_same rfl rfl

theorem State.tellFail_unitsKept (g : Granted) (s : State) : UnitsKept s (s.tellFail g) := by
  cases g with
  | slot => exact .of_only s.only_reportFailed
  | detached => exact .refl s
  | entry e =>
    cases e with
    | bid offer => exact s.bidFailed_unitsKept offer
    | bidCancel offer => exact s.setCancel_unitsKept .queued
    | receipt id => exact s.receiptFailed_unitsKept id
    | receiptRefusal => exact s.refusalFailed_unitsKept
    | shift number => exact .of_only s.only_shiftFailed
    | total | driverMsg | passUp | status | tableResult => exact .refl s

theorem State.frameFailed_unitsKept (f : InFlight) (s : State) : UnitsKept s (s.frameFailed f) := by
  refine UnitsKept.trans ?_ (State.tellFail_unitsKept _ _)
  exact .of_only (bs := [.link, .arbiter]) (.giveBack _ (.withInFlight _ (.refl s) (by decide)) (by decide))

theorem State.takeDone_unitsKept : UnitsKept s s.takeDone := by
  unfold State.takeDone
  split
  · exact .refl s
  · split
    · next f _ =>
      refine UnitsKept.trans ?_ (State.tellDone_unitsKept f.granted _)
      exact .of_only (bs := [.arbiter]) (.leaveQueue _ (.withInFlight _ (.refl s) (by decide)) (by decide))
    · exact .of_only (s.only_strayResult 1)

theorem State.takeFail_unitsKept (withDone : Bool) : UnitsKept s (s.takeFail withDone) := by
  unfold State.takeFail
  split
  · exact .refl s
  · split
    · next f _ =>
      refine UnitsKept.trans ?_ (State.frameFailed_unitsKept f _)
      exact (UnitsKept.refl s).ite (.of_only (State.only_offerFault _ _ _ _ _))
    · exact .of_only (s.only_strayResult _)

theorem State.expireResponse_unitsKept : UnitsKept s s.expireResponse := by
  unfold State.expireResponse
  split
  · exact .refl s
  · split
    · next f _ =>
      split
      · refine UnitsKept.trans ?_ (State.frameFailed_unitsKept f _)
        exact .of_only (bs := [.fault, .events, .arbiter]) (.withArbiter (.offerFault _ _ _ _ (.refl s) (by decide)) (by decide))
      · exact .refl s
    · exact .refl s

/-! ## The owners offer again (R141, R154) -/

theorem State.offerAgain_unitsKept (order : OfferOrder) (s : State) : UnitsKept s (s.offerAgain order) := by
  have cancels : ∀ u : State, UnitsKept u u.placeCancels := State.placeCancels_unitsKept
  have receipts : ∀ u : State, UnitsKept u u.placeReceipts := State.placeReceipts_unitsKept
  have store : ∀ u : State, UnitsKept u u.storeOffers := fun u => .of_only u.only_storeOffers
  cases order with
  | offersStoreMessages => exact ((cancels s).trans (store _)).trans (receipts _)
  | offersMessagesStore => exact ((cancels s).trans (receipts _)).trans (store _)
  | storeOffersMessages => exact ((store s).trans (cancels _)).trans (receipts _)
  | storeMessagesOffers => exact ((store s).trans (receipts _)).trans (cancels _)
  | messagesOffersStore => exact ((receipts s).trans (cancels _)).trans (store _)
  | messagesStoreOffers => exact ((receipts s).trans (store _)).trans (cancels _)

theorem State.offerAfterReset_unitsKept (s : State) : UnitsKept s s.offerAfterReset :=
  (s.offerAgain_unitsKept _).andThen (State.only_fillSlot _)

/-! ## Stops and loads (R81, R160, R187) -/

theorem State.commitStops_unitsKept (s : State) : UnitsKept s s.commitStops := by
  unfold State.commitStops
  split
  · extract_lets v
    have air : UnitsKept s v := by
      unfold v
      split
      · exact .of_only s.only_stopAir
      · exact .of_only s.only_runAir
    split
    · exact air.trans v.stopOffers_unitsKept
    · exact air.trans v.runOffers_unitsKept
  · exact .refl s

theorem State.applyImage_unitsKept {table : TableId} {img : List Byte} (h : s.applyImage table img = .ok u) :
    UnitsKept s u := by
  unfold State.applyImage at h
  repeat' split at h
  all_goals cases h
  · exact .of_same rfl rfl
  · exact .of_same rfl rfl
  · exact .of_same rfl rfl
  · next new _ =>
    refine UnitsKept.trans ?_ (State.commitStops_unitsKept _)
    exact .of_only (bs := [.settings, .events, .roof]) (.commitRoof (.commitVisibility _
      ((OnlyChanges.refl s).withSettings (by decide)) (by decide)) (by decide))
  · exact .of_only (s.only_applyIdentity _)

theorem State.commitLoad_unitsKept (c : Load) (check : Nat) (svc : Bool) (s : State) :
    UnitsKept s (s.commitLoad c check svc).1 := by
  unfold State.commitLoad
  dsimp only
  split
  · exact .of_only (s.only_endLoad _ _)
  split
  · exact .of_only (s.only_endLoad _ _)
  split
  · exact .of_only (s.only_endLoad _ _)
  split
  · exact .of_only (s.only_endLoad _ _)
  · next u applied => exact (State.applyImage_unitsKept applied).andThen (u.only_endLoad _ _)

theorem State.localCommit_unitsKept (svc : Bool) (f : CommitFields) : UnitsKept s (s.localCommit svc f).1 := by
  unfold State.localCommit
  split
  · exact s.commitLoad_unitsKept _ _ _
  · exact .of_only (s.only_strayLoad [])

theorem State.airCommit_unitsKept (f : CommitFields) (s : State) : UnitsKept s (s.airCommit f) := by
  unfold State.airCommit
  split
  · exact s.commitLoad_unitsKept _ _ _
  · exact .refl s

theorem State.conditionChanged_unitsKept (s : State) : UnitsKept s s.conditionChanged := by
  cases m : s.mainRuns with
  | false =>
    rw [State.conditionChanged_held m]
    exact .refl s
  | true =>
    unfold State.conditionChanged
    rw [if_pos m]
    extract_lets v w
    have raised : UnitsKept s v := .of_only (s.only_raise _)
    split
    · have air : UnitsKept s w := raised.ite (.of_only v.only_stopAir)
      exact air.ite w.stopOffers_unitsKept
    · exact (raised.andThen v.only_runAir).trans (State.runOffers_unitsKept _)

theorem State.endDebounce_unitsKept : UnitsKept s s.endDebounce := by
  unfold State.endDebounce
  split
  · refine UnitsKept.trans ?_ (State.conditionChanged_unitsKept _)
    exact .of_same rfl rfl
  · exact .refl s

/-! ## The resets (R82, R98) -/

/-- Emptied units meet the conditions. -/
theorem UnitsKept.of_fresh {run : RunState} (offers : t.offers = .fresh run) (messages : t.messages = .fresh) :
    UnitsKept s t := by
  refine ⟨fun _ => ?_, fun _ => ?_, fun _ => ?_⟩
  · rw [offers]
    exact .of_empty rfl rfl
  · rw [offers]
    exact .nil
  · rw [messages]
    exact .fresh

theorem State.mainValues_unitsKept (s : State) : UnitsKept u s.mainValues := .of_fresh rfl rfl

theorem State.restarted_unitsKept (lost endsShed : Bool) (s : State) : UnitsKept u (s.restarted lost endsShed) := by
  unfold State.restarted
  extract_lets s4 s5 s6 s7
  have h4 : UnitsKept u s4 := .of_fresh rfl rfl
  have h5 : UnitsKept u s5 := h4.ite (.of_same rfl rfl)
  have h6 : UnitsKept u s6 := h5.ite (.of_same rfl rfl)
  have h7 : UnitsKept u s7 := h6.ite (.of_same rfl rfl)
  exact h7.ite s7.offerAfterReset_unitsKept

theorem State.releaseReset_unitsKept (s : State) : UnitsKept s s.releaseReset := by
  refine UnitsKept.trans ?_ (State.offerAfterReset_unitsKept _)
  exact .of_cancels id rfl rfl rfl

theorem State.resetPin_unitsKept (level : Bool) : UnitsKept s (s.resetPin level) := by
  have pin : UnitsKept s (s.withMonitor { s.monitor with resetLow := !level }) := .of_same rfl rfl
  unfold State.resetPin
  dsimp only
  split
  · exact pin
  · split
    · exact pin.trans (State.releaseReset_unitsKept _)
    · exact State.restarted_unitsKept _ false (State.tested false _)

theorem State.returnSupply_unitsKept : UnitsKept s s.returnSupply := by
  unfold State.returnSupply
  split
  · exact State.restarted_unitsKept s.checkFails true (s.tested true)
  · exact .refl s

theorem State.enterShed_unitsKept : UnitsKept s s.enterShed := by
  unfold State.enterShed
  split
  · exact State.mainValues_unitsKept _
  · exact .refl s

/-- Of the cancels and the marks a soft reset changes the stage alone. -/
theorem State.softReset_unitsKept : UnitsKept s s.softReset := by
  have reset : ∀ {t : State} {run : RunState}, t.offers = s.offers.softReset run → t.messages = s.messages.softReset →
      UnitsKept s t := by
    intro t run offers messages
    refine ⟨fun _ => ?_, fun h => ?_, fun h => ?_⟩
    · rw [offers]
      exact .of_empty rfl rfl
    · rw [offers]
      exact h.map fun _ => rfl
    · rw [messages]
      exact ⟨h.pool.map (fun _ => rfl) fun _ => rfl,
        h.order.congr (marked_map (fun _ => rfl) fun _ _ => Option.isSome_map) Option.isSome_map⟩
  unfold State.softReset
  dsimp only
  refine UnitsKept.trans ?_ (State.offerAfterReset_unitsKept _)
  split
  · exact reset rfl rfl
  · exact (reset rfl rfl).andThen (State.only_raise _ _)

/-! ## The emergency (R103, R104) -/

theorem State.takeActivation_unitsKept : UnitsKept s s.takeActivation := by
  unfold State.takeActivation
  exact (UnitsKept.refl s).ite (.of_only s.only_activate)

theorem State.takeEscalation_unitsKept : UnitsKept s s.takeEscalation := by
  unfold State.takeEscalation
  exact (UnitsKept.refl s).ite (.of_only s.only_escalate)

/-! ## Every command -/

theorem UnitsKept.answered (h : UnitsKept s u) (p : List Byte) : UnitsKept s (u.answered p).1 := h

theorem exec_unitsKept (c : Instr) (e : exec c s = .next t) : UnitsKept s t := by
  cases c with
  | jobCancel => exact serveMeter_unitsKept (fun _ => State.cancelJob_unitsKept) e
  | hire => exact serveMeter_unitsKept State.hire_unitsKept e
  | shiftClose => exact serveMeter_unitsKept (fun _ => State.closeShift_unitsKept) e
  | paid => exact serveMeter_unitsKept (fun _ => State.payTrip_unitsKept) e
  | shiftOpen => exact serveMeter_unitsKept (fun _ => State.openShift_unitsKept) e
  | endTrip | holdOn | holdOff => exact serveMeter_unitsKept (fun _ => .of_same rfl rfl) e
  | extra => exact serveMeter_unitsKept State.takeExtra_unitsKept e
  | readStatus | readNotices | readOffers | readMeter | readStore | readMessage | readFault | clearEvents | noticeSetup
  | releaseFault => exact serve_unitsKept (fun _ => .of_same rfl rfl) e
  | accept => exact serve_unitsKept (fun _ => State.acceptOffer_unitsKept) e
  | dismiss => exact serve_unitsKept (fun _ => State.dismissOffer_unitsKept) e
  | position => exact serve_unitsKept State.position_unitsKept e
  | msgRead => exact serve_unitsKept State.readByDriver_unitsKept e
  | msgAnswer => exact serve_unitsKept State.answerByDriver_unitsKept e
  | driverMsg => exact serve_unitsKept State.sendDriver_unitsKept e
  | readPass => exact serve_unitsKept (fun _ => .of_only s.only_readPass) e
  | passUp => exact serve_unitsKept (fun a => .of_only (s.only_passUp a)) e
  | localTableOpen svc => exact serve_unitsKept (fun a => .of_only (s.only_localOpen svc a)) e
  | localTableSegment => exact serve_unitsKept (fun a => .of_only (s.only_localSegment a)) e
  | localTableCommit svc => exact serve_unitsKept (State.localCommit_unitsKept svc) e
  | localTableAbort => exact serve_unitsKept (fun a => .of_only (s.only_localAbort a)) e
  | softReset =>
    exact serve_unitsKept (owner := fun _ t => t.softReset.answered []) (fun _ => UnitsKept.answered State.softReset_unitsKept []) e
  | localFrameMalformed bytes =>
    exact done_unitsKept (State.whenMain_unitsKept (.of_only (s.only_rejectLocal bytes))) e
  | startMarker => exact done_unitsKept (.of_only s.only_startMarker) e
  | airFrameRejected bytes => exact done_unitsKept (.of_only (s.only_rejectFrame bytes)) e
  | offer hdr => exact receive_unitsKept (handed_unitsKept (State.offerArrives_unitsKept (offerZone hdr))) e
  | offerWithdraw => exact receive_unitsKept (handed_unitsKept State.withdrawArrives_unitsKept) e
  | award => exact receive_unitsKept (handed_unitsKept State.awardArrives_unitsKept) e
  | refuse => exact receive_unitsKept (handed_unitsKept State.refuseArrives_unitsKept) e
  | message => exact receive_unitsKept (handed_unitsKept State.messageArrives_unitsKept) e
  | messageRecall => exact receive_unitsKept (handed_unitsKept State.recallMessage_unitsKept) e
  | cycle => exact receive_unitsKept (handed_unitsKept fun v u => .of_only (u.only_takeCycle v)) e
  | statusPoll => exact receive_unitsKept (fun u => .of_only u.only_pollArrives) e
  | airTableOpen => exact receive_unitsKept (handed_unitsKept fun v u => .of_only (u.only_airOpen v)) e
  | airTableSegment => exact receive_unitsKept (handed_unitsKept fun v u => .of_only (u.only_airSegment v)) e
  | airTableCommit => exact receive_unitsKept (handed_unitsKept State.airCommit_unitsKept) e
  | airTableAbort => exact receive_unitsKept (handed_unitsKept fun v u => .of_only (u.only_airAbort v)) e
  | totalAck => exact receive_unitsKept (handed_unitsKept fun v u => .of_only (u.only_acknowledge v)) e
  | emergencyAck => exact receive_unitsKept (fun u => .of_only u.only_acknowledgeEmergency) e
  | emergencyClear => exact receive_unitsKept (fun u => .of_only u.only_clearEmergency) e
  | pass hdr => exact receive_unitsKept (handed_unitsKept fun v u => .of_only (u.only_passArrives hdr.mode v)) e
  | grant => exact done_unitsKept State.makeGrant_unitsKept e
  | txDone => exact done_unitsKept State.takeDone_unitsKept e
  | txFail withDone => exact done_unitsKept (State.takeFail_unitsKept withDone) e
  | responseTimerExpiry => exact done_unitsKept State.expireResponse_unitsKept e
  | settleTimerExpiry => exact done_unitsKept (.of_only s.only_expireSettle) e
  | placeAppears order => exact done_unitsKept (State.whenMain_unitsKept (s.offerAgain_unitsKept order)) e
  | ackTimerExpiry => exact done_unitsKept (.of_only (State.only_whenRetained s.only_expireAck)) e
  | linkLossTimerExpiry => exact done_unitsKept (.of_only (State.only_whenMain s.only_loseLink)) e
  | offerLifetimeExpiry id => exact done_unitsKept (State.whenMain_unitsKept State.expireShown_unitsKept) e
  | bidLifetimeExpiry => exact done_unitsKept (State.whenMain_unitsKept State.expireBid_unitsKept) e
  | awardWaitExpiry => exact done_unitsKept (State.whenMain_unitsKept State.expireAward_unitsKept) e
  | inactivityTimerExpiry => exact done_unitsKept (.of_only (State.only_whenMain s.only_expireLoad)) e
  | activation => exact done_unitsKept (State.whenRetained_unitsKept State.takeActivation_unitsKept) e
  | escalation => exact done_unitsKept (State.whenRetained_unitsKept State.takeEscalation_unitsKept) e
  | intervalTimerExpiry => exact done_unitsKept (.of_only (State.only_whenRetained s.only_expireInterval)) e
  | seatCheck => exact done_unitsKept (.of_only (State.only_whenRetained s.only_reportSeat)) e
  | ignDebounceEnd => exact done_unitsKept State.endDebounce_unitsKept e
  | roofBlinkToggle => exact done_unitsKept (State.whenRetained_unitsKept (.of_same rfl rfl)) e
  | distPulse => exact done_unitsKept (State.whenRetained_unitsKept (.of_same rfl rfl)) e
  | timerTick lines => exact done_unitsKept (.of_only (s.only_tick lines)) e
  | meterSecond => exact done_unitsKept State.second_unitsKept e
  | shedEntry => exact done_unitsKept State.enterShed_unitsKept e
  | supplyReturn => exact done_unitsKept State.returnSupply_unitsKept e
  | powerUp => exact done_unitsKept (State.mainValues_unitsKept _) e
  | mainReset level => exact done_unitsKept (State.resetPin_unitsKept level) e

theorem step_unitsKept (e : step s = .next t) : UnitsKept s t := by
  unfold step at e
  cases waiting : s.pending with
  | nil =>
    rw [waiting] at e
    exact Host.Outcome.next.inj e ▸ .refl s
  | cons c rest =>
    rw [waiting] at e
    have kept := exec_unitsKept (s := s.withPending rest) c e
    exact ⟨kept.offers, kept.cancels, kept.messages⟩

/-- Settles O54: the conditions look at the Offer Unit and the Message Store alone, and every command keeps them. -/
theorem offersStayMatched : Obligations.OffersStayMatched := by
  refine ⟨fun s t table record e => ?_, fun s t h e => ?_, fun s t h e => ?_, fun s id => ⟨rfl, rfl, rfl, ?_, ?_⟩⟩
  · exact State.matched_iff.mpr ((step_unitsKept e).offers (State.matched_iff.mp ⟨table, record⟩))
  · exact State.cancelsBounded_iff.mpr ((step_unitsKept e).cancels (State.cancelsBounded_iff.mp h))
  · exact State.messagesMatched_iff.mpr ((step_unitsKept e).messages (State.messagesMatched_iff.mp h))
  · intro as m bs parts own older
    have found : s.storedMessage id = some m :=
      List.find?_eq_some_iff_append.mpr ⟨by simpa using own, as, bs, parts, by simpa using older⟩
    rw [State.owedStage, found]
    rfl
  · intro none
    rw [State.owedStage, State.storedMessage_none.mpr none]
    rfl

end Sys2Proof.Machine
end

section
/-! PROOFS. Requests that leave the retained domain alone, and those of the Offer Unit: ACCEPT, DISMISS and POSITION (R61,
R68, R79). -/

namespace Sys2Proof.Machine

variable {s u : State} {kind tag a b : Byte} {id : Nat} {e : OfferEntry} {bs : List Block}

/-! ## Answers without a change of the retained domain -/

/-- A request that leaves the retained domain alone leaves the retained check too (R191). -/
theorem State.answeredFrom_main {p : List Byte} (h : OnlyChanges bs s u) (mt : Block.terminal ∉ bs)
    (main : ∀ b ∈ bs, b.retained = false) :
    Answered bs s (s.answeredFrom u kind tag p) { kind, tag, code := .ok, payload := p } := by
  refine ⟨OnlyChanges.endedMain (.putReply _ _ _ (h.mono fun _ hb => ?_) (by simp)) (by simp) fun c hc => ?_, ?_⟩
  · exact List.mem_cons_of_mem _ (List.mem_cons_of_mem _ hb)
  · rcases List.mem_cons.mp hc with rfl | hc
    · rfl
    · rcases List.mem_cons.mp hc with rfl | hc
      · rfl
      · exact main c hc
  · have terminal : u.terminal = s.terminal := h.keep .terminal mt
    rw [← terminal]
    rfl

/-- The state that a request ends in, and how a refusal leaves it: replied, and nothing else (R173). -/
theorem serve_replied {α : Type} {owner : α → State → State × Answer} {x : α} (m : s.mainRuns = true) :
    ∃ t, serve kind tag (some x) owner s = .next t
      ∧ (∀ code, owner x s = s.refused code → OnlyReplied s t { kind, tag, code, payload := [] })
      ∧ ∀ v p, owner x s = State.answered p v → t = s.answeredFrom v kind tag p := by
  refine ⟨_, serve_served kind tag x owner m, fun code h => ?_, fun v p h => ?_⟩
  · rw [h]
    exact s.putReply_replied _ _
  · rw [h]
    rfl

/-! ## ACCEPT (R68) -/

theorem State.bidBusy_iff : s.bidBusy id = true ↔ BidElsewhere s id := by
  simp only [State.bidBusy, BidElsewhere, Bool.or_eq_true, List.any_eq_true, Bool.and_eq_true, bne_iff_ne, decide_eq_true_eq,
    Option.any_eq_true, List.all_eq_true, Bool.not_eq_true', Bool.and_eq_false_iff, beq_eq_false_iff_ne, ne_eq,
    decide_eq_false_iff_not, imp_iff_not_or]

theorem hasPlace_bid_iff : hasPlace s.arbiter.queue (.bid id) = true ↔ BidPlace s := by
  simp [hasPlace, BidPlace, sharedFree]

theorem State.acceptOffer_none (h : s.entry id = none) : s.acceptOffer id = s.refused .notFound := by
  rw [State.acceptOffer, h]

section
variable (h : s.entry id = some e)
include h

theorem State.acceptOffer_notVacant (v : s.meter.state ≠ .vacant) : s.acceptOffer id = s.refused .refusedState := by
  rw [State.acceptOffer, h]
  exact if_pos v

variable (v : s.meter.state = .vacant)
include v

theorem State.acceptOffer_busy (busy : BidElsewhere s id) : s.acceptOffer id = s.refused .refusedBusy := by
  rw [State.acceptOffer, h]
  exact (if_neg (not_not.mpr v)).trans (if_pos (State.bidBusy_iff.mpr busy))

variable (free : ¬ BidElsewhere s id)
include free

theorem State.acceptOffer_notShown (n : e.state ≠ .shown) : s.acceptOffer id = s.refused .refusedState := by
  rw [State.acceptOffer, h]
  exact (if_neg (not_not.mpr v)).trans ((if_neg (mt State.bidBusy_iff.mp free)).trans (if_pos n))

variable (shown : e.state = .shown)
include shown

theorem State.acceptOffer_room : s.acceptOffer id
    = if !hasPlace s.arbiter.queue (.bid id) then s.refused .refusedFull else (s.placeBid id).answered [] := by
  rw [State.acceptOffer, h]
  exact (if_neg (not_not.mpr v)).trans ((if_neg (mt State.bidBusy_iff.mp free)).trans (if_neg (not_not.mpr shown)))

theorem State.acceptOffer_full (full : ¬ BidPlace s) : s.acceptOffer id = s.refused .refusedFull := by
  rw [State.acceptOffer_room h v free shown]
  exact if_pos (by simpa using mt hasPlace_bid_iff.mp full)

theorem State.acceptOffer_ok (place : BidPlace s) : s.acceptOffer id = (s.placeBid id).answered [] := by
  rw [State.acceptOffer_room h v free shown]
  exact if_neg (by simpa using hasPlace_bid_iff.mpr place)

end

theorem State.only_placeBid (id : Nat) : OnlyChanges [.offers, .arbiter] s (s.placeBid id) :=
  .withBid _ (.enqueue _ (.setEntry _ _ (.refl s) (by decide)) (by decide)) (by decide)

theorem State.placeBid_offers (id : Nat) : (s.placeBid id).offers = { s.offers with
    entries := s.offers.entries.map (OfferEntry.becomeAt id .bid)
    bid := some { offer := id, stage := .queued, mark := .none } } := rfl

/-- Beside an entry of a table with distinct ids no other has its id, so the id finds it. -/
theorem TableFits.apart {as cs : List OfferEntry} (h : TableFits (as ++ e :: cs)) : ∀ x ∈ as ++ cs, x.id ≠ e.id := by
  have distinct := h.distinct
  rw [List.map_append, List.map_cons] at distinct
  obtain ⟨-, tail, apart⟩ := List.nodup_append.mp distinct
  intro x hx same
  rcases List.mem_append.mp hx with hx | hx
  · exact apart _ (List.mem_map_of_mem hx) _ List.mem_cons_self same
  · exact (List.nodup_cons.mp tail).1 (same ▸ List.mem_map_of_mem hx)

theorem State.entry_of_mem (table : TableFits s.offers.entries) (mem : e ∈ s.offers.entries) : s.entry e.id = some e := by
  cases found : s.entry e.id with
  | none => exact absurd rfl (State.entry_eq_none.mp found e mem)
  | some x =>
    obtain ⟨hx, same⟩ := State.entry_eq_some found
    rw [eq_of_same_id table.distinct hx mem same]

/-- Settles O9, from the five refusals of `State.acceptOffer` in their order and the bid that it places. -/
theorem acceptChecksAndBids : Obligations.AcceptChecksAndBids := by
  refine ⟨fun s tag a b m => ?_, fun s tag a b as cs e m bounded parts own shown v free place => ?_⟩
  · obtain ⟨t, ok, refused, -⟩ := serve_replied (kind := 0x85#8) (tag := tag) (owner := State.acceptOffer)
      (x := beNat [a, b]) m
    exact ⟨t, ok, fun none => refused _ (State.acceptOffer_none none), fun e found =>
      ⟨fun v => refused _ (State.acceptOffer_notVacant found v),
        fun v busy => refused _ (State.acceptOffer_busy found v busy),
        fun v free n => refused _ (State.acceptOffer_notShown found v free n),
        fun v free shown full => refused _ (State.acceptOffer_full found v free shown full)⟩⟩
  · have table := State.tableBounded_iff.mp bounded
    have found : s.entry e.id = some e := State.entry_of_mem table (by rw [parts]; simp)
    have ok := serve_ok (kind := 0x85#8) (tag := tag) m (State.acceptOffer_ok found v free shown place)
    rw [own] at ok
    refine ⟨_, ok, State.answeredFrom_main (State.only_placeBid _) (by decide) (by decide), ?_, ?_⟩
    · refine (State.answeredFrom_offers ..).trans ((State.placeBid_offers _).trans ?_)
      rw [← own, parts, map_becomeAt (parts ▸ table).apart]
      rfl
    · rw [own]
      rfl

/-! ## DISMISS (R79) -/

theorem State.dismissOffer_none (h : s.entry id = none) : s.dismissOffer id = s.refused .notFound := by
  rw [State.dismissOffer, h]

theorem State.dismissOffer_engaged (h : s.entry id = some e) (engaged : e.state = .bid ∨ e.state = .awarded) :
    s.dismissOffer id = s.refused .refusedState := by
  rw [State.dismissOffer, h]
  exact if_pos engaged

/-- The table without the entries of an id. -/
def State.withoutEntry (s : State) (id : Nat) : State := s.withEntries (s.offers.entries.filter fun x => x.id ≠ id)

theorem State.dismissOffer_ok (h : s.entry id = some e) (free : ¬ (e.state = .bid ∨ e.state = .awarded)) :
    s.dismissOffer id = (s.withoutEntry id).answered [] := by
  rw [State.dismissOffer, h]
  exact if_neg free

theorem State.withoutEntry_entry (id : Nat) : (s.withoutEntry id).entry id = none := by
  refine State.entry_eq_none.mpr fun x hx => ?_
  have h : x ∈ s.offers.entries.filter fun x => x.id ≠ id := hx
  simpa using (List.mem_filter.mp h).2

/-- With distinct ids one entry alone leaves. -/
theorem filter_id_eq_erase {es : List OfferEntry} (distinct : (es.map OfferEntry.id).Nodup) (mem : e ∈ es) :
    (es.filter fun x => x.id ≠ e.id) = es.erase e := by
  rw [(List.Nodup.of_map _ distinct).erase_eq_filter]
  refine List.filter_congr fun x hx => ?_
  have same : x = e ↔ x.id = e.id := ⟨congrArg _, eq_of_same_id distinct hx mem⟩
  rw [Bool.eq_iff_iff, decide_eq_true_iff, bne_iff_ne, Ne, Ne, same]

/-! ## POSITION (R61) -/

/-- The current zone is set. -/
def State.atZone (s : State) (zone : Option Nat) : State := s.withOffers { s.offers with zone }

theorem State.position_far {zone : Nat} (h : 999 < zone) : s.position zone = s.refused .refusedRange := if_pos h

theorem State.position_none : s.position 0 = (s.atZone none).answered [0#8] := rfl

theorem State.position_at {zone : Nat} (low : 1 ≤ zone) (high : zone ≤ 999) :
    s.position zone = (s.atZone (some zone)).answered (flag (s.zoneHeld zone)) := by
  have known : (s.atZone (some zone)).knownZone.isSome = s.zoneHeld zone := by
    change ((some zone).filter s.zoneHeld).isSome = s.zoneHeld zone
    cases h : s.zoneHeld zone <;> simp [Option.filter, h]
  rw [← known]
  unfold State.position State.atZone
  rw [if_neg (by omega), if_neg (by omega)]

theorem State.zoneHeld_iff {zone : Nat} : s.zoneHeld zone = true ↔ s.HoldsZone zone := by
  simp [State.zoneHeld, State.HoldsZone]

/-- Settles O10: each request has one equation for each of its outcomes. -/
theorem dismissAndPositionTaken : Obligations.DismissAndPositionTaken := by
  refine ⟨fun s tag a b m => ?_, fun s tag a b m => ?_⟩
  · obtain ⟨t, ok, refused, answered⟩ := serve_replied (kind := 0x86#8) (tag := tag) (owner := State.dismissOffer)
      (x := beNat [a, b]) m
    refine ⟨t, ok, fun none => refused _ (State.dismissOffer_none none), fun e found =>
      ⟨fun engaged => refused _ (State.dismissOffer_engaged found engaged), fun noBid noAward => ?_⟩⟩
    obtain rfl := answered _ _ (State.dismissOffer_ok found (not_or.mpr ⟨noBid, noAward⟩))
    have only : OnlyChanges [.offers] s (s.withoutEntry (beNat [a, b])) := .withEntries _ (.refl s) (by decide)
    refine ⟨State.answeredFrom_main only (by decide) (by decide), rfl, State.withoutEntry_entry _, fun bounded => ?_⟩
    obtain ⟨mem, own⟩ := State.entry_eq_some found
    rw [← own]
    exact filter_id_eq_erase (State.tableBounded_iff.mp bounded).distinct mem
  · obtain ⟨t, ok, refused, answered⟩ := serve_replied (kind := 0x88#8) (tag := tag) (owner := State.position)
      (x := beNat [a, b]) m
    have only : ∀ zone, OnlyChanges [.offers] s (s.atZone zone) := fun zone => (OnlyChanges.refl s).withOffers (by decide)
    refine ⟨t, ok, fun far => refused _ (State.position_far far), fun none => ?_, fun low high => ?_⟩
    · rw [none] at answered
      obtain rfl := answered _ _ State.position_none
      exact ⟨State.answeredFrom_main (only _) (by decide) (by decide), rfl⟩
    · obtain rfl := answered _ _ (State.position_at low high)
      refine ⟨rfl, fun held => ?_, fun unheld => ?_⟩
      · rw [State.zoneHeld_iff.mpr held]
        exact State.answeredFrom_main (only _) (by decide) (by decide)
      · rw [Bool.eq_false_of_not_eq_true (mt State.zoneHeld_iff.mp unheld)]
        exact State.answeredFrom_main (only _) (by decide) (by decide)

end Sys2Proof.Machine
end

section
/-! PROOFS. The rank of an offer and the cancel list (R62, R76). -/

namespace Sys2Proof.Machine

variable {s : State} {z : Nat} {cs : List Cancel} {new : Cancel}

/-! ## Ranks (R62) -/

theorem State.neighbours_contains (distinct : (s.zones.map Zone.number).Nodup) : s.neighbours.contains z = true ↔
    ∃ c r, s.offers.zone = some c ∧ r ∈ s.zones ∧ r.number = c ∧ z ∈ r.neighbours := by
  have one : ∀ x ∈ s.zones, ∀ y ∈ s.zones, x.number = y.number → x = y := fun x hx y hy same =>
    List.inj_on_of_nodup_map distinct hx hy same
  rw [List.contains_iff_mem, State.neighbours]
  cases current : s.offers.zone with
  | none => simp
  | some c =>
    rw [Option.bind_some]
    cases found : s.zones.find? (fun x => x.number = c) with
    | none =>
      have none : ∀ x ∈ s.zones, x.number ≠ c := by simpa using found
      refine iff_of_false (by simp) ?_
      rintro ⟨_, r, ⟨⟩, mem, own, -⟩
      exact none r mem own
    | some x =>
      have mem := List.mem_of_find?_eq_some found
      have own : x.number = c := by simpa using List.find?_some found
      constructor
      · exact fun h => ⟨c, x, rfl, mem, own, h⟩
      · rintro ⟨_, r, ⟨⟩, hr, number, h⟩
        rwa [one r hr x mem (number.trans own.symm)] at h

theorem State.rank_other (h : s.offers.zone ≠ some z) :
    s.rank (some z) = if s.neighbours.contains z then 1 else 2 := if_neg h

/-! ## The cancel list (R76) -/

theorem oweInto_replaces {as bs : List Cancel} {x : Cancel} (fresh : ∀ y ∈ cs, y.offer ≠ new.offer) (full : 4 ≤ cs.length)
    (parts : cs = as ++ x :: bs) (owed : x.stage = .owed) (reason : x.reason ≠ .driverCancel)
    (older : ∀ y ∈ as, y.stage ≠ .owed ∨ y.reason = .driverCancel) : oweInto cs new = as ++ bs ++ [new] := by
  have first : x.removable = true := Cancel.removable_iff.mpr ⟨owed, reason⟩
  have kept : ∀ y ∈ as, ¬ y.removable = true := fun y hy k => by
    obtain ⟨stage, other⟩ := Cancel.removable_iff.mp k
    exact (older y hy).elim (fun n => n stage) other
  rw [oweInto_full fresh full, parts, if_pos (by simp [first]), List.eraseP_append_right _ kept,
    List.eraseP_cons_of_pos first]

theorem oweInto_dropped (fresh : ∀ y ∈ cs, y.offer ≠ new.offer) (full : 4 ≤ cs.length)
    (kept : ∀ y ∈ cs, y.stage ≠ .owed ∨ y.reason = .driverCancel) : oweInto cs new = cs := by
  rw [oweInto_full fresh full]
  refine if_neg fun k => ?_
  obtain ⟨y, hy, removable⟩ := List.any_eq_true.mp k
  obtain ⟨stage, other⟩ := Cancel.removable_iff.mp removable
  exact (kept y hy).elim (fun n => n stage) other

/-- Settles O11: the rank by the neighbour list of the current zone, and the five outcomes of `oweInto`. -/
theorem ranksAndCancelList : Obligations.RanksAndCancelList := by
  refine ⟨fun s distinct => ⟨rfl, fun z => ⟨fun current => if_pos current, fun other near => ?_, fun other far => ?_⟩⟩,
    fun cs c => ⟨oweInto_merged, fun fresh => ⟨oweInto_room fresh, fun full as x bs parts => ?_, ?_⟩, fun size nodup => ?_⟩⟩
  · rw [State.rank_other other, if_pos ((State.neighbours_contains distinct).mpr near)]
  · rw [State.rank_other other, if_neg (mt (State.neighbours_contains distinct).mp far)]
  · exact oweInto_replaces fresh full parts
  · exact oweInto_dropped fresh
  · obtain ⟨short, apart⟩ := (CancelsFit.mk size nodup).oweInto (new := c)
    exact ⟨short, apart⟩

end Sys2Proof.Machine
end

section
/-! PROOFS. How a frame ends whose owner leaves the retained domain alone, one event raised again, and what becomes of the
Offer Unit when a bid ends (R74, R81). -/

namespace Sys2Proof.Machine

variable {s t u : State} {es : List EventKind} {k : EventKind}

/-! ## Frames that reach the main domain alone -/

section
variable {kind : DownKind} {hdr : AirHeader} {payload : List Byte} {blocks : List Block}

/-- The fields of an accepted frame reach their owner, the receive record being closed. -/
theorem done_handed {α : Type} {fields : Except Nat α} {x : α} (owner : α → State → State)
    (h : s.admits kind hdr payload = true) (parsed : fields = .ok x) :
    done s (s.receive kind hdr payload (handed fields owner)) = .next (s.routedFrom (owner x (s.withRecord none))) := by
  rw [done_admitted _ h, parsed]
  rfl

/-- A frame whose owner leaves the retained domain alone leaves the retained check too (R191). -/
theorem State.routedFrom_main (h : OnlyChanges blocks (s.withRecord none) u) (ml : .link ∉ blocks)
    (main : ∀ b ∈ blocks, b.retained = false) : Routed blocks s (s.routedFrom u) := by
  have closed : OnlyChanges [.link] s (s.withRecord none) := .withRecord _ (.refl s) (by decide)
  have received : OnlyChanges (.link :: .pins :: blocks) s u.receiveBoundary := by
    refine OnlyChanges.receiveBoundary ((closed.trans h).mono fun b hb => ?_) (by simp)
    rcases List.mem_append.mp hb with hb | hb
    · simp_all
    · exact List.mem_cons_of_mem _ (List.mem_cons_of_mem _ hb)
  refine ⟨received.endedMain (by simp) fun b hb => ?_, State.routedFrom_link (h.keep .link ml)⟩
  rcases List.mem_cons.mp hb with rfl | hb
  · rfl
  · rcases List.mem_cons.mp hb with rfl | hb
    · rfl
    · exact main b hb

/-- A block that the receive path does not use ends as the owner leaves it. -/
theorem State.routedFrom_keep (s u : State) (b : Block) (m : b ∉ [.link, .check, .pins] := by decide) :
    b.same u (s.routedFrom u) := (s.only_routedFrom u).keep b m

theorem State.routedFrom_raised (h : Raised es (s.withRecord none) u) : Raised es s (s.routedFrom u) :=
  Raised.kept (s := s) h (s.routedFrom_keep u .events)

end

/-! ## One event raised again -/

theorem Events.set_set (k : EventKind) (ev : Events) : (ev.set k).set k = ev.set k := by
  simp [Events.set, BitVec.or_assoc]

theorem Raised.again (h : Raised [k] s t) (more : Raised es t u) (same : ∀ e ∈ es, e = k) : Raised [k] s u := by
  have absorbed : ∀ es : List EventKind, (∀ e ∈ es, e = k) → ∀ ev : Events,
      es.foldl (fun ev e => ev.set e) (ev.set k) = ev.set k := by
    intro es
    induction es with
    | nil => exact fun _ _ => rfl
    | cons e es ih =>
      intro same ev
      obtain rfl := same e List.mem_cons_self
      rw [List.foldl_cons, Events.set_set, ih fun x hx => same x (List.mem_cons_of_mem _ hx)]
  have once : t.events = s.events.set k := h
  rw [Raised, once] at more
  exact more.trans (absorbed es same _)

/-! ## Entries that change alone -/

/-- A map that touches the entries of one id changes one entry of a table with distinct ids. -/
theorem map_one {f : OfferEntry → OfferEntry} {as bs : List OfferEntry} {e : OfferEntry}
    (apart : ∀ x ∈ as ++ bs, x.id ≠ e.id) (others : ∀ x, x.id ≠ e.id → f x = x) :
    (as ++ e :: bs).map f = as ++ f e :: bs := by
  have same : ∀ l : List OfferEntry, (∀ x ∈ l, x ∈ as ++ bs) → l.map f = l := fun l sub =>
    (List.map_congr_left fun x hx => others x (apart x (sub x hx))).trans (List.map_id l)
  rw [List.map_append, List.map_cons, same as (by simp +contextual), same bs (by simp +contextual)]

theorem State.closeEntry_raised (m : s.mainRuns = true) (id : Nat) (st : OfferState) :
    Raised [.offerClosed] s (s.closeEntry id st) :=
  State.raise_raised (s := s.setEntry id st) m _

/-- OFFER_CLOSED stands for all that close when an entry closes and a stop takes effect with it. -/
theorem State.closeEntry_offerBoundary_raised (m : s.mainRuns = true) (id : Nat) (st : OfferState) :
    Raised [.offerClosed] s (s.closeEntry id st).offerBoundary := by
  have runs : (s.closeEntry id st).mainRuns = true := ((State.only_closeEntry id st s).mainRuns_eq (by decide)).trans m
  obtain ⟨es, raised, closed⟩ := State.offerBoundary_raised runs
  exact (State.closeEntry_raised m id st).again raised closed

/-! ## A bid ends -/

/-- The entry in BID takes a closed state, its bid record and its frame are given up, and a stop that waited takes
effect (R70, R74, R75, R81). -/
def State.endBid (id : Nat) (st : OfferState) (s : State) : State := (s.dropBid.closeEntry id st).offerBoundary

theorem State.only_endBid (id : Nat) (st : OfferState) (s : State) :
    OnlyChanges [.offers, .arbiter, .events] s (s.endBid id st) :=
  .offerBoundary (.closeEntry _ _ (.dropBid (.refl s) (by decide)) (by decide)) (by decide)

theorem State.endBid_raised (m : s.mainRuns = true) (id : Nat) (st : OfferState) :
    Raised [.offerClosed] s (s.endBid id st) := by
  have dropped := s.only_dropBid
  exact (State.closeEntry_offerBoundary_raised ((dropped.mainRuns_eq (by decide)).trans m) id st).from_same
    (dropped.keep .events (by decide))

section
variable {as bs : List OfferEntry} {e : OfferEntry} {st : OfferState} (bounded : s.tableBounded = true)
  (parts : s.offers.entries = as ++ e :: bs) (bid : e.state = .bid)
include bounded parts bid

/-- With the entry in BID closed none is in BID, so a stop that waited takes effect (R81). -/
theorem offerBoundary_settles (shown : st ≠ .shown) (leaves : st ≠ .bid) (ended : u.offers = s.offers.bidEnded e.id st) :
    u.offerBoundary.offers = s.offers.settled as { e with state := st, waiting := none } bs := by
  obtain ⟨others, apart⟩ := State.tableBounded_bid bounded parts bid
  have become : e.become st = { e with state := st, waiting := none } := by rw [OfferEntry.become, if_neg leaves]
  have entries : u.offers.entries = as ++ { e with state := st, waiting := none } :: bs := by
    rw [ended, Offers.bidEnded, ← become, ← map_becomeAt apart, parts]
  have free : u.anyEntry .bid = false := by
    refine State.anyEntry_eq_false.mpr fun x hx => ?_
    rw [entries, List.mem_append, List.mem_cons] at hx
    rcases hx with hx | rfl | hx
    · exact others x (List.mem_append_left _ hx)
    · exact leaves
    · exact others x (List.mem_append_right _ hx)
  have run : u.offers.run = s.offers.run := by rw [ended]; rfl
  have self : OfferEntry.lapse { e with state := st, waiting := none } = { e with state := st, waiting := none } :=
    OfferEntry.lapse_of_ne shown
  rw [State.offerBoundary_offers, run, Offers.settled]
  by_cases stops : s.offers.run = .stopping
  · rw [if_pos ⟨stops, free⟩, if_pos stops, entries, List.map_append, List.map_cons, self, ended]
    rfl
  · rw [if_neg fun k => stops k.1, if_neg stops, ← entries, ended]
    rfl

theorem State.endBid_offers (shown : st ≠ .shown) (leaves : st ≠ .bid) :
    (s.endBid e.id st).offers = s.offers.settled as { e with state := st, waiting := none } bs :=
  offerBoundary_settles bounded parts bid shown leaves State.dropBid_closeEntry_offers

omit bounded in
/-- Its frame is withdrawn or detached, unless it is sent (R74). -/
theorem State.endBid_arbiter {b : BidRecord} (matched : s.bidMatched = true) (record : s.offers.bid = some b) :
    (s.endBid e.id st).arbiter = if b.stage = .sent then s.arbiter else Arbiter.without (.bid e.id) s.arbiter := by
  have own := State.bidMatched_offer parts bid matched record
  have kept : (s.endBid e.id st).arbiter = s.dropBid.arbiter :=
    (OnlyChanges.offerBoundary (bs := [.offers, .events]) (.closeEntry _ _ (.refl s.dropBid) (by decide)) (by decide)).keep
      .arbiter (by decide)
  rcases s.dropBid_cases with ⟨-, none⟩ | ⟨b', some, -, drop⟩
  · cases record.symm.trans none
  · obtain rfl := Option.some.inj (record.symm.trans some)
    rw [kept, drop, own]

end

end Sys2Proof.Machine
end

section
/-! PROOFS. An OFFER arrives: acceptance, a duplicate, and the place of a new entry (R63 to R67). -/

namespace Sys2Proof.Machine

variable {s : State} {hdr : AirHeader} {payload : List Byte} {f : OfferFields} {zone : Option Nat} {e c : OfferEntry}
  {as bs : List OfferEntry}

/-! ## Acceptance (R63) -/

theorem State.knownZone_isSome : s.knownZone.isSome = true ↔ ∃ n, s.offers.zone = some n ∧ s.HoldsZone n := by
  cases h : s.offers.zone with
  | none => simp [State.knownZone, h]
  | some n => simp [State.knownZone, h, Option.isSome_filter, State.zoneHeld_iff]

theorem offerZone_zone (h : hdr.mode = 2#8) : offerZone hdr = some hdr.addr.toNat := if_pos h

theorem offerZone_other (h : hdr.mode ≠ 2#8) : offerZone hdr = none := if_neg h

theorem State.acceptsOffer_iff : s.acceptsOffer (offerZone hdr) = true ↔ s.Accepts hdr := by
  have run : s.offers.run ≠ .stopped ↔ s.offers.run = .running ∨ s.offers.run = .stopping := by
    cases s.offers.run <;> decide
  unfold State.acceptsOffer State.Accepts
  by_cases mode : hdr.mode = 2#8
  · rw [offerZone_zone mode]
    simp only [Bool.and_eq_true, decide_eq_true_eq, State.knownZone_isSome, State.zoneHeld_iff, run, mode, forall_const,
      and_assoc]
  · rw [offerZone_other mode]
    simp only [Bool.and_eq_true, decide_eq_true_eq, run, mode, false_implies, and_true]

/-- The addressing, the zone and the rank of a new entry, read from the frame (R59, R62). -/
theorem State.newEntry_ofFrame : s.newEntry (offerZone hdr) f =
    { id := f.id, addressing := if hdr.mode = 2#8 then .zone else .direct
      zone := if hdr.mode = 2#8 then some hdr.addr.toNat else none
      rank := if hdr.mode = 2#8 then s.rank (some hdr.addr.toNat) else 0
      lifetime := f.lifetime, awardWait := s.settings.awardWait, waiting := none, text := f.text
      estimate := f.estimate, account := f.account, arrival := s.offers.arrivals, state := .shown } := by
  unfold State.newEntry
  by_cases mode : hdr.mode = 2#8
  · simp [offerZone_zone mode, mode]
  · simp [offerZone_other mode, mode, State.rank]

theorem State.offerArrives_unaccepted (h : s.acceptsOffer zone ≠ true) : s.offerArrives zone f = s := if_neg h

theorem State.offerArrives_duplicate (h : s.acceptsOffer zone = true) (held : s.entry f.id = some e) :
    s.offerArrives zone f = s.refreshOffer f := by
  rw [State.offerArrives, if_pos h, if_pos (by rw [held]; rfl)]

theorem State.offerArrives_new (h : s.acceptsOffer zone = true) (new : ∀ x ∈ s.offers.entries, x.id ≠ f.id) :
    s.offerArrives zone f = s.placeOrDisplace zone f := by
  rw [State.offerArrives, if_pos h, if_neg (by rw [State.entry_eq_none.mpr new]; exact Bool.false_ne_true)]

theorem exec_offer (h : s.admits .offer hdr payload = true) (parsed : parseOffer payload = .ok f) :
    exec (.offer hdr payload) s = .next (s.routedFrom ((s.withRecord none).offerArrives (offerZone hdr) f)) :=
  done_handed (State.offerArrives (offerZone hdr)) h parsed

/-! ## A duplicate (R64) -/

/-- An entry once a duplicate of its offer has arrived. -/
def OfferEntry.refreshed (f : OfferFields) (e : OfferEntry) : OfferEntry :=
  if e.id = f.id ∧ e.state = .shown ∧ e.lifetime ≠ 0 then { e with lifetime := f.lifetime, text := f.text } else e

theorem State.refreshOffer_offers : (s.refreshOffer f).offers
    = { s.offers with entries := s.offers.entries.map (OfferEntry.refreshed f) } := rfl

theorem State.refreshOffer_entries (bounded : s.tableBounded = true) (parts : s.offers.entries = as ++ e :: bs)
    (own : e.id = f.id) : s.offers.entries.map (OfferEntry.refreshed f) = as ++ e.refreshed f :: bs := by
  have table := State.tableBounded_iff.mp bounded
  rw [parts] at table ⊢
  exact map_one table.apart fun x other => if_neg fun k => other (k.1.trans own.symm)

theorem State.refreshOffer_kept (bounded : s.tableBounded = true) (parts : s.offers.entries = as ++ e :: bs)
    (own : e.id = f.id) (kept : e.state ≠ .shown) : s.refreshOffer f = s := by
  have same : e.refreshed f = e := if_neg fun k => kept k.2.1
  have entries := State.refreshOffer_entries bounded parts own
  rw [same, ← parts] at entries
  change s.withEntries (s.offers.entries.map (OfferEntry.refreshed f)) = s
  rw [entries]
  rfl

/-- Settles O13: acceptance, and what a duplicate finds under its id. -/
theorem offerDiscardedOrRefreshes : Obligations.OfferDiscardedOrRefreshes := by
  intro s hdr payload f admitted parsed
  refine ⟨_, exec_offer admitted parsed, fun unaccepted => ?_, fun accepted bounded as e bs parts own => ?_⟩
  · rw [State.offerArrives_unaccepted (s := s.withRecord none) (mt State.acceptsOffer_iff.mp unaccepted)]
    exact s.routedFrom_idle
  · have held : s.entry f.id = some e :=
      own ▸ State.entry_of_mem (State.tableBounded_iff.mp bounded) (by rw [parts]; simp)
    rw [State.offerArrives_duplicate (s := s.withRecord none) (State.acceptsOffer_iff.mpr accepted) held]
    refine ⟨fun shown alive => ⟨State.routedFrom_main (State.only_refreshOffer f _) (by decide) (by decide), ?_⟩,
      fun kept => ?_⟩
    · have renewed : e.refreshed f = { e with lifetime := f.lifetime, text := f.text } :=
        if_pos ⟨own, shown, Nat.one_le_iff_ne_zero.mp alive⟩
      refine (s.routedFrom_keep _ .offers).trans (State.refreshOffer_offers.trans ?_)
      change { s.offers with entries := s.offers.entries.map (OfferEntry.refreshed f) } = _
      rw [State.refreshOffer_entries bounded parts own, renewed]
    · rw [State.refreshOffer_kept (s := s.withRecord none) bounded parts own kept]
      exact s.routedFrom_idle

/-! ## The place of a new entry (R65, R66) -/

theorem State.placeOffer_raised (m : s.mainRuns = true) : Raised [.offerNew] s (s.placeOffer zone f) :=
  State.raise_raised (s := s.withOffers { s.offers with
    entries := s.offers.entries ++ [s.newEntry zone f], arrivals := (s.offers.arrivals + 1) % 65536 }) m .offerNew

theorem State.placeOrDisplace_room (room : s.offers.entries.length < 8) :
    s.placeOrDisplace zone f = s.placeOffer zone f := if_pos room

section
variable (full : s.offers.entries.length = 8)
include full

theorem State.placeOrDisplace_closed (parts : s.offers.entries = as ++ c :: bs) (older : ∀ x ∈ as, x.state.closed = false)
    (closed : c.state.closed = true) : s.placeOrDisplace zone f = (s.withEntries (as ++ bs)).placeOffer zone f := by
  have left : s.offers.entries.eraseP (fun x => x.state.closed) = as ++ bs := by
    rw [parts, List.eraseP_append_right _ (by simpa using older), List.eraseP_cons_of_pos (by exact closed)]
  have some : (s.offers.entries.any fun x => x.state.closed) = true := by simp [parts, closed]
  rw [State.placeOrDisplace, if_neg (by rw [full]; decide), if_pos some, left]

/-- Where no entry is closed the displacement candidate decides. -/
theorem State.placeOrDisplace_open (kept : ∀ x ∈ s.offers.entries, x.state.closed = false)
    (candidate : s.displacementCandidate = some c) : s.placeOrDisplace zone f
      = if s.rank zone < c.rank then (s.displacing c).placeOffer zone f else s := by
  rw [State.placeOrDisplace, if_neg (by rw [full]; decide), if_neg (by simpa using kept), candidate]
  rfl

end

/-- The worst-ranked SHOWN entry, the oldest of these, is the displacement candidate (R66). -/
theorem State.displacementCandidate_eq (parts : s.offers.entries = as ++ c :: bs) (shown : c.state = .shown)
    (rank : c.rank ≤ 2) (older : ∀ x ∈ as, x.state = .shown → x.rank < c.rank)
    (newer : ∀ x ∈ bs, x.state = .shown → x.rank ≤ c.rank) : s.displacementCandidate = some c := by
  have own : (s.offers.entries.find? fun x => x.state = .shown && x.rank = c.rank) = some c := by
    refine List.find?_eq_some_iff_append.mpr ⟨by simp [shown], as, bs, parts, fun x hx => ?_⟩
    have := older x hx
    simp only [Bool.not_eq_true', Bool.and_eq_false_iff, decide_eq_false_iff_not]
    by_cases k : x.state = .shown
    · exact .inr (this k).ne
    · exact .inl k
  have worse : ∀ r, c.rank < r → (s.offers.entries.find? fun x => x.state = .shown && x.rank = r) = none := by
    refine fun r less => List.find?_eq_none.mpr fun x hx k => ?_
    obtain ⟨xs, rfl⟩ : x.state = .shown ∧ x.rank = r := by simpa using k
    rw [parts, List.mem_append, List.mem_cons] at hx
    rcases hx with hx | rfl | hx
    · exact absurd (older x hx xs) (by omega)
    · exact absurd less (lt_irrefl _)
    · exact absurd (newer x hx xs) (by omega)
  have descending : c.rank ∈ [2, 1, 0] := by simp; omega
  obtain ⟨before, after, order⟩ := List.append_of_mem descending
  have sorted : (before ++ c.rank :: after).Pairwise (· > ·) := order ▸ (by decide)
  rw [State.displacementCandidate, order]
  exact List.findSome?_eq_some_iff.mpr ⟨before, c.rank, after, rfl, own, fun r hr =>
    worse r ((List.pairwise_append.mp sorted).2.2 r hr _ List.mem_cons_self)⟩

theorem State.displacing_entries (bounded : s.tableBounded = true) (parts : s.offers.entries = as ++ c :: bs) :
    (s.displacing c).offers = { s.offers with entries := as ++ bs } := by
  have table := State.tableBounded_iff.mp bounded
  rw [parts] at table
  have left : (as ++ c :: bs).filter (fun x => x.id ≠ c.id) = as ++ bs := by
    have stay : (as ++ bs).filter (fun x => x.id ≠ c.id) = as ++ bs :=
      List.filter_eq_self.mpr fun x hx => by simpa using table.apart x hx
    rw [List.filter_append, List.filter_cons, if_neg (by simp), ← List.filter_append, stay]
  rw [State.displacing_offers, parts, left]

/-- The state in which a new entry stands behind the entries that stay. -/
theorem State.placeOffer_behind {u : State} {es : List OfferEntry} (only : OnlyChanges [.offers, .events] s u)
    (offers : u.offers = { s.offers with entries := es }) : (u.placeOffer zone f).offers = { s.offers with
      entries := es ++ [s.newEntry zone f], arrivals := (s.offers.arrivals + 1) % 65536 } := by
  have zones : u.zones = s.zones := only.keep .zones (by decide)
  have settings : u.settings = s.settings := only.keep .settings (by decide)
  have near : u.neighbours = s.neighbours := by rw [State.neighbours, State.neighbours, offers, zones]
  have rank : u.rank zone = s.rank zone := by
    cases zone with
    | none => rfl
    | some z => simp only [State.rank, near, offers]
  have new : u.newEntry zone f = s.newEntry zone f := by simp only [State.newEntry, rank, offers, settings]
  rw [State.placeOffer_offers, new, offers]

theorem State.only_displacing (c : OfferEntry) : OnlyChanges [.offers, .events] s (s.displacing c) :=
  .raise _ (.withEntries _ (.refl s) (by decide)) (by decide)

theorem State.displacing_raised (m : s.mainRuns = true) (c : OfferEntry) : Raised [.offerClosed] s (s.displacing c) :=
  State.raise_raised (s := s.withEntries (s.offers.entries.filter fun x => x.id ≠ c.id)) m .offerClosed

theorem OfferState.closed_eq_false (st : OfferState) : st.closed = false ↔ st = .shown ∨ st = .bid ∨ st = .awarded := by
  cases st <;> decide

/-- Settles O12: the frame is routed to `State.placeOrDisplace`, which has one equation for each outcome. -/
theorem offerFindsItsPlace : Obligations.OfferFindsItsPlace := by
  refine ⟨OfferState.closed_eq_false, fun s hdr payload f new admitted parsed accepted bounded absent formed => ?_⟩
  have runs : (s.withRecord none).mainRuns = true := State.admits_mainRuns (s := s) admitted
  obtain rfl : new = (s.withRecord none).newEntry (offerZone hdr) f := formed.trans State.newEntry_ofFrame.symm
  have arrives := State.offerArrives_new (s := s.withRecord none) (State.acceptsOffer_iff.mpr accepted) absent
  refine ⟨_, exec_offer admitted parsed, State.routedFrom_main (State.only_offerArrives _ f _) (by decide) (by decide), ?_⟩
  rw [arrives]
  refine ⟨fun room => ?_, fun as c bs full parts older closed => ?_, fun as c bs full parts kept shown high older newer => ?_⟩
  · rw [State.placeOrDisplace_room (s := s.withRecord none) room]
    exact ⟨(s.routedFrom_keep _ .offers).trans State.placeOffer_offers,
      State.routedFrom_raised (State.placeOffer_raised runs)⟩
  · rw [State.placeOrDisplace_closed (s := s.withRecord none) full parts older closed]
    exact ⟨(s.routedFrom_keep _ .offers).trans (State.placeOffer_behind
      (.withEntries _ (.refl _) (by decide)) rfl),
      State.routedFrom_raised (State.placeOffer_raised (s := (s.withRecord none).withEntries (as ++ bs)) runs)⟩
  · rw [State.placeOrDisplace_open (s := s.withRecord none) full kept
      (State.displacementCandidate_eq (s := s.withRecord none) parts shown high older newer)]
    change if (s.withRecord none).rank (offerZone hdr) < c.rank then _ else _
    split
    · have displacing := (s.withRecord none).only_displacing c
      have runs' := (displacing.mainRuns_eq (by decide)).trans runs
      exact ⟨(s.routedFrom_keep _ .offers).trans (State.placeOffer_behind displacing
          (State.displacing_entries (s := s.withRecord none) bounded parts)),
        State.routedFrom_raised ((State.displacing_raised runs c).trans (State.placeOffer_raised runs'))⟩
    · exact ⟨s.routedFrom_keep _ .offers, s.routedFrom_keep _ .events⟩

end Sys2Proof.Machine
end

section
/-! PROOFS. What dispatch answers: AWARD, REFUSE and OFFER_WITHDRAW (R72 to R75). -/

namespace Sys2Proof.Machine

variable {s : State} {hdr : AirHeader} {payload : List Byte} {id : Nat} {e : OfferEntry} {as bs : List OfferEntry}

/-! ## REFUSE (R74) -/

theorem exec_refuse (h : s.admits .refuse hdr payload = true) (parsed : parseId payload = .ok id) :
    exec (.refuse hdr payload) s = .next (s.routedFrom ((s.withRecord none).refuseArrives id)) :=
  done_handed State.refuseArrives h parsed

theorem State.refuseArrives_bid (held : s.entry id = some e) (bid : e.state = .bid) :
    s.refuseArrives id = s.endBid id .lost := by
  rw [State.refuseArrives, held]
  exact if_pos bid

theorem State.refuseArrives_ignored (other : ∀ x ∈ s.offers.entries, x.id = id → x.state ≠ .bid) :
    s.refuseArrives id = s := by
  rw [State.refuseArrives]
  cases held : s.entry id with
  | none => rfl
  | some e =>
    obtain ⟨mem, own⟩ := State.entry_eq_some held
    exact if_neg (other e mem own)

theorem State.entry_of_parts (bounded : s.tableBounded = true) (parts : s.offers.entries = as ++ e :: bs) :
    s.entry e.id = some e :=
  State.entry_of_mem (State.tableBounded_iff.mp bounded) (by rw [parts]; simp)

/-- Settles O15: a REFUSE for the entry in BID is `State.endBid`. -/
theorem refuseLosesBid : Obligations.RefuseLosesBid := by
  intro s hdr payload id admitted parsed
  have runs : (s.withRecord none).mainRuns = true := State.admits_mainRuns (s := s) admitted
  refine ⟨_, exec_refuse admitted parsed, fun other => ?_, fun as e bs bounded matched parts own bid => ?_⟩
  · rw [State.refuseArrives_ignored (s := s.withRecord none) other]
    exact s.routedFrom_idle
  · obtain rfl := own
    rw [State.refuseArrives_bid (s := s.withRecord none) (State.entry_of_parts bounded parts) bid]
    exact ⟨State.routedFrom_main (State.only_endBid _ _ _) (by decide) (by decide),
      State.routedFrom_raised (State.endBid_raised runs _ _),
      (s.routedFrom_keep _ .offers).trans
        (State.endBid_offers (s := s.withRecord none) bounded parts bid (by decide) (by decide)),
      fun b record => (s.routedFrom_keep _ .arbiter).trans
        (State.endBid_arbiter (s := s.withRecord none) parts bid matched record)⟩

/-! ## OFFER_WITHDRAW (R75) -/

theorem exec_offerWithdraw (h : s.admits .offerWithdraw hdr payload = true) (parsed : parseId payload = .ok id) :
    exec (.offerWithdraw hdr payload) s = .next (s.routedFrom ((s.withRecord none).withdrawArrives id)) :=
  done_handed State.withdrawArrives h parsed

theorem State.withdrawArrives_none (h : s.entry id = none) : s.withdrawArrives id = s.withdrawJob id := by
  rw [State.withdrawArrives, h]

section
variable (held : s.entry id = some e)
include held

theorem State.withdrawArrives_shown (h : e.state = .shown) : s.withdrawArrives id = s.closeEntry id .withdrawn := by
  simp only [State.withdrawArrives, held, h]

theorem State.withdrawArrives_bid (h : e.state = .bid) : s.withdrawArrives id = s.endBid id .withdrawn := by
  simp only [State.withdrawArrives, held, h]
  rfl

theorem State.withdrawArrives_awarded (h : e.state = .awarded) :
    s.withdrawArrives id = (s.closeEntry id .withdrawn).withdrawJob id := by
  simp only [State.withdrawArrives, held, h]

theorem State.withdrawArrives_closed (h : e.state.closed = true) : s.withdrawArrives id = s := by
  rw [State.withdrawArrives, held]
  cases state : e.state <;> simp_all [OfferState.closed]

end

/-- The meter of a job that is withdrawn (R8). -/
def State.freed (s : State) : State := s.withMeter { s.meter with state := .vacant, jobId := none }

section
variable (assigned : s.meter.state = .assigned) (job : s.meter.jobId = some id)
include assigned job

theorem State.withdrawJob_frees : s.withdrawJob id = s.freed.raise .jobWithdrawn := if_pos ⟨assigned, job⟩

theorem State.withdrawJob_meter : (s.withdrawJob id).meter = { s.meter with state := .vacant, jobId := none } := by
  rw [State.withdrawJob_frees assigned job]
  exact (State.only_raise _ s.freed).keep .meter (by decide)

theorem State.withdrawJob_raised (m : s.mainRuns = true) : Raised [.jobWithdrawn] s (s.withdrawJob id) := by
  rw [State.withdrawJob_frees assigned job]
  exact State.raise_raised (s := s.freed) m _

end

theorem State.withdrawJob_other (h : s.meter.state ≠ .assigned ∨ s.meter.jobId ≠ some id) : s.withdrawJob id = s :=
  if_neg fun k => h.elim (fun n => n k.1) (fun n => n k.2)

/-- The entry closes, and no other changes. -/
theorem State.closeEntry_one {st : OfferState} (bounded : s.tableBounded = true) (parts : s.offers.entries = as ++ e :: bs)
    (leaves : st ≠ .bid) : (s.closeEntry e.id st).offers
      = { s.offers with entries := as ++ { e with state := st, waiting := none } :: bs } := by
  have table := State.tableBounded_iff.mp bounded
  rw [parts] at table
  have become : e.become st = { e with state := st, waiting := none } := by rw [OfferEntry.become, if_neg leaves]
  rw [State.closeEntry_offers, parts, map_becomeAt table.apart, become]

/-- Settles O16: one equation of `State.withdrawArrives` for each row of R75. -/
theorem withdrawByState : Obligations.WithdrawByState := by
  intro s hdr payload id admitted parsed
  have runs : (s.withRecord none).mainRuns = true := State.admits_mainRuns (s := s) admitted
  refine ⟨_, exec_offerWithdraw admitted parsed, fun absent => ?_, fun as e bs bounded parts own => ?_⟩
  · rw [State.withdrawArrives_none (State.entry_eq_none (s := s.withRecord none).mpr absent)]
    refine ⟨fun assigned job => ⟨?_, ?_, ?_⟩, fun other => ?_⟩
    · exact State.routedFrom_routed ((State.only_withdrawJob id _).mono (by decide)) (by decide) (by decide)
    · exact (s.routedFrom_keep _ .meter).trans (State.withdrawJob_meter (s := s.withRecord none) assigned job)
    · exact State.routedFrom_raised (State.withdrawJob_raised (s := s.withRecord none) assigned job runs)
    · rw [State.withdrawJob_other (s := s.withRecord none) other]
      exact s.routedFrom_idle
  · obtain rfl := own
    have held : (s.withRecord none).entry e.id = some e := State.entry_of_parts (s := s.withRecord none) bounded parts
    have only : OnlyChanges [.offers, .events] (s.withRecord none) ((s.withRecord none).closeEntry e.id .withdrawn) :=
      State.only_closeEntry _ _ _
    have closes := State.closeEntry_one (s := s.withRecord none) (st := .withdrawn) bounded parts (by decide)
    have raised := State.closeEntry_raised runs e.id .withdrawn
    refine ⟨fun closed => ?_, fun shown => ?_, fun awarded assigned job => ?_, fun bid matched => ?_⟩
    · rw [State.withdrawArrives_closed held closed]
      exact s.routedFrom_idle
    · rw [State.withdrawArrives_shown held shown]
      exact ⟨State.routedFrom_main only (by decide) (by decide), State.routedFrom_raised raised,
        (s.routedFrom_keep _ .offers).trans closes⟩
    · rw [State.withdrawArrives_awarded held awarded]
      have meter : ((s.withRecord none).closeEntry e.id .withdrawn).meter = s.meter := only.keep .meter (by decide)
      generalize (s.withRecord none).closeEntry e.id .withdrawn = v at *
      have runs' : v.mainRuns = true := (only.mainRuns_eq (by decide)).trans runs
      rw [← meter] at assigned job
      have freed := State.only_withdrawJob e.id v
      refine ⟨State.routedFrom_routed (.withdrawJob _ (only.mono (by decide)) (by decide)) (by decide) (by decide),
        State.routedFrom_raised (raised.trans (State.withdrawJob_raised assigned job runs')), ?_, ?_⟩
      · rw [← meter]
        exact (s.routedFrom_keep _ .meter).trans (State.withdrawJob_meter assigned job)
      · exact (s.routedFrom_keep _ .offers).trans ((freed.keep .offers (by decide)).trans closes)
    · rw [State.withdrawArrives_bid held bid]
      exact ⟨State.routedFrom_main (State.only_endBid _ _ _) (by decide) (by decide),
        State.routedFrom_raised (State.endBid_raised runs _ _),
        (s.routedFrom_keep _ .offers).trans
          (State.endBid_offers (s := s.withRecord none) bounded parts bid (by decide) (by decide)),
        fun b record => (s.routedFrom_keep _ .arbiter).trans
          (State.endBid_arbiter (s := s.withRecord none) parts bid matched record)⟩

end Sys2Proof.Machine
end

section
/-! PROOFS. AWARD: one taken, one repeated, and one that owes a BID_CANCEL (R6, R72, R73). -/

namespace Sys2Proof.Machine

variable {s : State} {hdr : AirHeader} {payload : List Byte} {id : Nat} {e : OfferEntry} {as bs : List OfferEntry}

/-- What an AWARD needs to be taken (R72). -/
def State.AwardTaken (s : State) (id : Nat) : Prop :=
  (∃ e ∈ s.offers.entries, e.id = id ∧ e.state = .bid)
    ∧ (∃ b, s.offers.bid = some b ∧ b.offer = id ∧ b.stage = .sent) ∧ s.meter.state = .vacant

theorem State.awardTaken_iff : (s.offers.entries.any (fun e => e.id = id && e.state = .bid)
    && s.bidStage id = some .sent && s.meter.state = .vacant) = true ↔ s.AwardTaken id := by
  simp only [Bool.and_eq_true, List.any_eq_true, decide_eq_true_eq, State.bidStage_eq_some, State.AwardTaken, and_assoc]

theorem State.awardRepeated_iff : s.awardRepeated id = true ↔ s.AwardRepeats id := by
  simp only [State.awardRepeated, State.AwardRepeats, Bool.or_eq_true, Bool.and_eq_true, List.any_eq_true,
    decide_eq_true_eq, Option.any_eq_true, Meter.onTrip_iff, or_assoc]

theorem State.awardArrives_taken (h : s.AwardTaken id) : s.awardArrives id = s.takeAward id :=
  if_pos (State.awardTaken_iff.mpr h)

theorem State.awardArrives_repeated (h : ¬ s.AwardTaken id) (again : s.AwardRepeats id) : s.awardArrives id = s :=
  (if_neg (mt State.awardTaken_iff.mp h)).trans (if_pos (State.awardRepeated_iff.mpr again))

theorem State.awardArrives_other (h : ¬ s.AwardTaken id) (new : ¬ s.AwardRepeats id) :
    s.awardArrives id = s.oweCancel id (if s.meter.state = .vacant then .notBidding else .busy) :=
  (if_neg (mt State.awardTaken_iff.mp h)).trans (if_neg (mt State.awardRepeated_iff.mp new))

theorem exec_award (h : s.admits .award hdr payload = true) (parsed : parseId payload = .ok id) :
    exec (.award hdr payload) s = .next (s.routedFrom ((s.withRecord none).awardArrives id)) :=
  done_handed State.awardArrives h parsed

/-! ## A cancel becomes owed -/

theorem State.placeCancel_offers : s.placeCancel.offers = { s.offers with cancels := s.placeCancel.offers.cancels } := by
  rcases s.placeCancel_cases with ⟨same, -⟩ | ⟨c, -, -, -, -, placed⟩
  · rw [same]
  · rw [placed]
    rfl

/-- Of the Offer Unit only the cancel list differs. -/
theorem State.oweCancel_offers (id : Nat) (r : CancelReason) :
    (s.oweCancel id r).offers = { s.offers with cancels := (s.oweCancel id r).offers.cancels } := by
  unfold State.oweCancel State.placeCancels
  rw [State.placeCancel_offers, State.placeCancel_offers]
  rfl

/-! ## The award is taken -/

theorem OfferEntry.lapse_lapse (e : OfferEntry) : e.lapse.lapse = e.lapse := OfferEntry.lapse_of_ne e.lapse_not_shown

/-- A stop that takes effect where no entry is in SHOWN raises nothing. -/
theorem State.offerBoundary_events (h : s.anyEntry .shown = false) : s.offerBoundary.events = s.events := by
  rcases s.offerBoundary_cases with ⟨same, -⟩ | ⟨-, -, stop⟩
  · rw [same]
  · have quiet : s.offersHalted.lapseShown = s.offersHalted := State.lapseShown_none h
    rw [show s.offerBoundary = s.offersHalted from stop.trans quiet]
    rfl

section
variable (bounded : s.tableBounded = true) (parts : s.offers.entries = as ++ e :: bs) (bid : e.state = .bid)
include bounded parts bid

theorem State.assigned_entries :
    (s.assigned e.id).offers.entries = as ++ { e with state := .awarded, waiting := none } :: bs := by
  obtain ⟨-, apart⟩ := State.tableBounded_bid bounded parts bid
  change s.offers.entries.map (OfferEntry.becomeAt e.id .awarded) = _
  rw [parts, map_becomeAt apart]
  rfl

/-- The entries once the award is taken and the SHOWN ones have lapsed. -/
theorem State.takeAward_lapsed : ((s.assigned e.id).lapseShown.raise .jobAwarded).offers = { s.offers with
    entries := as.map OfferEntry.lapse ++ { e with state := .awarded, waiting := none } :: bs.map OfferEntry.lapse
    bid := none } := by
  have self : OfferEntry.lapse { e with state := .awarded, waiting := none } = { e with state := .awarded, waiting := none } :=
    OfferEntry.lapse_of_ne (by simp)
  rw [State.raise_offers, State.lapseShown_offers, State.assigned_entries bounded parts bid, List.map_append,
    List.map_cons, self]
  rfl

theorem State.takeAward_free {st : OfferState} (h : st = .shown ∨ st = .bid) :
    ((s.assigned e.id).lapseShown.raise .jobAwarded).anyEntry st = false := by
  obtain ⟨others, -⟩ := State.tableBounded_bid bounded parts bid
  have lapsed : ∀ x ∈ as ++ bs, x.lapse.state ≠ st := by
    rintro x hx rfl
    by_cases shown : x.state = .shown
    · simp [OfferEntry.lapse, shown] at h
    · rw [OfferEntry.lapse_of_ne shown] at h
      exact h.elim shown (others x hx)
  refine State.anyEntry_eq_false.mpr fun x hx => ?_
  rw [State.takeAward_lapsed bounded parts bid, List.mem_append, List.mem_cons, List.mem_map, List.mem_map] at hx
  rcases hx with ⟨y, hy, rfl⟩ | rfl | ⟨y, hy, rfl⟩
  · exact lapsed y (List.mem_append_left _ hy)
  · rcases h with rfl | rfl <;> simp
  · exact lapsed y (List.mem_append_right _ hy)

theorem State.takeAward_offers : (s.takeAward e.id).offers = { s.offers with
    entries := as.map OfferEntry.lapse ++ { e with state := .awarded, waiting := none } :: bs.map OfferEntry.lapse
    bid := none
    run := if s.offers.run = .stopping then .stopped else s.offers.run } := by
  have free := State.takeAward_free bounded parts bid (.inr rfl)
  have lapsed := State.takeAward_lapsed bounded parts bid
  have again : (as.map OfferEntry.lapse ++ { e with state := .awarded, waiting := none } :: bs.map OfferEntry.lapse).map
      OfferEntry.lapse
        = as.map OfferEntry.lapse ++ { e with state := .awarded, waiting := none } :: bs.map OfferEntry.lapse := by
    simp [Function.comp_def, OfferEntry.lapse_lapse, OfferEntry.lapse_of_ne]
  rw [State.takeAward_eq, State.offerBoundary_offers, lapsed]
  by_cases stops : s.offers.run = .stopping
  · rw [if_pos ⟨stops, free⟩, if_pos stops, again]
  · rw [if_neg fun k => stops k.1, if_neg stops]

theorem State.takeAward_raised (m : s.mainRuns = true) :
    Raised ((if s.anyEntry .shown then [.offerClosed] else []) ++ [.jobAwarded]) s (s.takeAward e.id) := by
  have shown : (s.assigned e.id).anyEntry .shown = s.anyEntry .shown := by
    simp [State.anyEntry, State.assigned_entries bounded parts bid, parts, bid]
  have runs : (s.assigned e.id).lapseShown.mainRuns = true := State.lapseShown_mainRuns.trans m
  have raised := (State.lapseShown_raised (s := s.assigned e.id) m).trans (State.raise_raised runs .jobAwarded)
  rw [shown] at raised
  exact raised.kept (State.offerBoundary_events (State.takeAward_free bounded parts bid (.inl rfl)))

end

/-- Settles O14: an AWARD is taken, repeated, or answered by a cancel. -/
theorem awardTakenOrAnswered : Obligations.AwardTakenOrAnswered := by
  refine ⟨fun s hdr payload as bs e b admitted parsed bounded parts bid record own sent vacant => ?_,
    fun s hdr payload id admitted parsed untaken => ?_⟩
  · have runs : (s.withRecord none).mainRuns = true := State.admits_mainRuns (s := s) admitted
    have taken : (s.withRecord none).AwardTaken e.id :=
      ⟨⟨e, by rw [show (s.withRecord none).offers = s.offers from rfl, parts]; simp, rfl, bid⟩, ⟨b, record, own, sent⟩, vacant⟩
    have raised := State.routedFrom_raised (State.takeAward_raised (s := s.withRecord none) bounded parts bid runs)
    refine ⟨_, exec_award admitted parsed, ?_⟩
    rw [State.awardArrives_taken taken]
    refine ⟨State.routedFrom_routed ((State.only_takeAward _ _).mono (by decide)) (by decide) (by decide),
      (s.routedFrom_keep _ .meter).trans (State.takeAward_meter _),
      (s.routedFrom_keep _ .offers).trans (State.takeAward_offers (s := s.withRecord none) bounded parts bid), fun k => ?_⟩
    have shown : (s.withRecord none).anyEntry .shown = s.offers.entries.any fun x => x.state = .shown := rfl
    rw [raised.flagged, shown]
    cases s.offers.entries.any fun x => x.state = .shown with
    | false => simp
    | true => simp [Bool.or_assoc, Bool.or_comm, Bool.or_left_comm]
  · refine ⟨_, exec_award admitted parsed, fun again => ?_, fun new => ?_⟩
    · rw [State.awardArrives_repeated (s := s.withRecord none) untaken again]
      exact s.routedFrom_idle
    · have runs : (s.withRecord none).mainRuns = true := State.admits_mainRuns (s := s) admitted
      have owed : ∀ r, (s.routedFrom ((s.withRecord none).oweCancel id r)).offers
          = ((s.withRecord none).oweCancel id r).offers := fun r => s.routedFrom_keep _ .offers
      rw [State.awardArrives_other (s := s.withRecord none) untaken new]
      refine ⟨State.routedFrom_main (State.only_oweCancel _ _ _) (by decide) (by decide), ?_,
        (State.oweCancel_placed runs _ _).congr (s.routedFrom_keep _ .arbiter) (congrArg Offers.cancels (owed _))⟩
      rw [owed]
      exact State.oweCancel_offers (s := s.withRecord none) _ _

end Sys2Proof.Machine
end

section
/-! PROOFS. Timers that count seconds run out: a shown lifetime, a bid's lifetime and its award wait, the ack timer and the
link-loss timer (R47, R67, R70, R71, R133). -/

namespace Sys2Proof.Machine

variable {s u : State} {e : OfferEntry} {as bs : List OfferEntry} {b : BidRecord} {blocks : List Block}

/-! ## Steps of the main domain -/

theorem State.whenMain_running (f : State → State) (m : s.mainRuns = true) : s.whenMain f = f s := if_pos m

theorem State.whenMain_same {f : State → State} (h : f s = s) : s.whenMain f = s := by
  rw [State.whenMain, h, ite_self]

/-- The end of a command leaves the blocks that it does not use as the step left them. -/
theorem State.ended_keep (s u : State) (b : Block) (m : b ∉ [.check, .pins] := by decide) :
    b.same u (s.updateCheck u).drive := (State.only_ended s u).keep b m

/-- A step of the main domain that changes nothing. -/
theorem done_whenMain_same {f : State → State} (h : f s = s) :
    ∃ t, done s (s.whenMain f) = .next t ∧ OnlyChanges [.pins] s t :=
  ⟨_, congrArg (done s) (State.whenMain_same h), s.only_ended_self⟩

/-! ## A shown lifetime (R67) -/

theorem State.expireShown_due (mem : e ∈ s.offers.entries) (shown : e.state = .shown) (due : e.lifetime = 0) :
    s.expireShown e.id = s.closeEntry e.id .expired :=
  if_pos (List.any_eq_true.mpr ⟨e, mem, by simp [shown, due]⟩)

theorem State.expireShown_notDue (bounded : s.tableBounded = true) (mem : e ∈ s.offers.entries)
    (h : e.state ≠ .shown ∨ e.lifetime ≠ 0) : s.expireShown e.id = s := by
  refine if_neg fun k => ?_
  obtain ⟨x, hx, fits⟩ := List.any_eq_true.mp k
  obtain ⟨⟨own, shown⟩, due⟩ : (x.id = e.id ∧ x.state = .shown) ∧ x.lifetime = 0 := by simpa using fits
  obtain rfl := eq_of_same_id (State.tableBounded_iff.mp bounded).distinct hx mem own
  exact h.elim (fun n => n shown) (fun n => n due)

/-! ## A bid's lifetime (R70) -/

theorem State.expireBid_notDue (h : ∀ x ∈ s.offers.entries, x.state = .bid → x.lifetime ≠ 0) : s.expireBid = s := by
  have none : (s.offers.entries.find? fun x => x.state = .bid && x.lifetime = 0) = none :=
    List.find?_eq_none.mpr fun x hx => by simpa using h x hx
  rw [State.expireBid, none]

section
variable (bounded : s.tableBounded = true) (parts : s.offers.entries = as ++ e :: bs) (bid : e.state = .bid)
include bounded parts bid

/-- A search for an entry in BID with a further property finds the one entry in BID, if it has it. -/
theorem State.find_bidAnd {p : OfferEntry → Bool} (h : p e = true) :
    (s.offers.entries.find? fun x => x.state = .bid && p x) = some e := by
  obtain ⟨others, -⟩ := State.tableBounded_bid bounded parts bid
  exact List.find?_eq_some_iff_append.mpr ⟨by simp [bid, h], as, bs, parts, fun x hx => by
    simp [others x (List.mem_append_left _ hx)]⟩

theorem State.expireAward_due (due : e.waiting = some 0) :
    s.expireAward = ((s.withBid none).closeEntry e.id .lost).offerBoundary := by
  rw [State.expireAward, State.find_bidAnd (p := fun x => x.waiting = some 0) bounded parts bid (by simpa using due)]

variable (due : e.lifetime = 0) (own : b.offer = e.id) (record : s.offers.bid = some b)
include due own record

theorem State.expireBid_queued (stage : b.stage = .queued) : s.expireBid = s.endBid e.id .expired := by
  rw [State.expireBid, State.find_bidAnd (p := fun x => x.lifetime = 0) bounded parts bid (by simpa using due)]
  simp only [State.bidStage_eq_some.mpr ⟨b, record, own, stage⟩]
  rfl

theorem State.expireBid_inFlight (stage : b.stage = .inFlight) :
    s.expireBid = s.withBid (some { b with mark := .expiryPending }) := by
  rw [State.expireBid, State.find_bidAnd (p := fun x => x.lifetime = 0) bounded parts bid (by simpa using due)]
  simp only [State.bidStage_eq_some.mpr ⟨b, record, own, stage⟩, record]
  rfl

theorem State.expireBid_sent (stage : b.stage = .sent) : s.expireBid = s := by
  rw [State.expireBid, State.find_bidAnd (p := fun x => x.lifetime = 0) bounded parts bid (by simpa using due)]
  simp only [State.bidStage_eq_some.mpr ⟨b, record, own, stage⟩]

end

/-! ## The award wait (R71) -/

theorem State.expireAward_notDue (h : ∀ x ∈ s.offers.entries, x.state = .bid → x.waiting ≠ some 0) : s.expireAward = s := by
  have none : (s.offers.entries.find? fun x => x.state = .bid && x.waiting = some 0) = none :=
    List.find?_eq_none.mpr fun x hx => by simpa using h x hx
  rw [State.expireAward, none]

theorem State.only_awardLost (id : Nat) (s : State) :
    OnlyChanges [.offers, .events] s ((s.withBid none).closeEntry id .lost).offerBoundary :=
  .offerBoundary (.closeEntry _ _ (.withBid _ (.refl s) (by decide)) (by decide)) (by decide)

/-! ## The ack timer (R47) -/

theorem State.expireAck_due {n : Nat} (due : s.store.sender = .sent n 0) : s.expireAck = (s.withSender .idle).placeTotal := by
  simp only [State.expireAck, due]

theorem State.expireAck_notDue (h : ∀ n, s.store.sender ≠ .sent n 0) : s.expireAck = s := by
  unfold State.expireAck
  split
  · next n due => exact absurd due (h n)
  · rfl

/-- The record it served is the oldest, so it is the one placed again. -/
theorem State.expireAck_serves {n : Nat} (m : s.mainRuns = true) (due : s.store.sender = .sent n 0)
    (order : s.storeInOrder = true) (free : classCount s.arbiter.queue 2 = 0) :
    s.expireAck.store = { s.store with sender := .queued n }
      ∧ s.expireAck.arbiter = { s.arbiter with queue := s.arbiter.queue ++ [.total n] } := by
  obtain ⟨r, rest, oldest, rfl⟩ := (State.storeInOrder_iff.mp order).oldest n (by rw [due]; rfl)
  obtain ⟨sender, arbiter⟩ := State.placeTotal_idle (s := s.withSender .idle) m rfl oldest free
  rw [State.expireAck_due due, State.placeTotal_store, sender]
  exact ⟨rfl, arbiter⟩

/-! ## The link-loss timer (R133) -/

/-- The link once no cycle frame has come in time. -/
def State.linkLost (s : State) : State :=
  s.withLink { s.link with state := .lost, cycle := none, allowance := 0, lossTimer := none }

theorem State.loseLink_due (synced : s.link.state = .synced) (due : s.link.lossTimer = some 0) :
    s.loseLink = s.linkLost.raise .linkState := if_pos ⟨synced, due⟩

theorem State.loseLink_notDue (h : s.link.state ≠ .synced ∨ s.link.lossTimer ≠ some 0) : s.loseLink = s :=
  if_neg fun k => h.elim (fun n => n k.1) (fun n => n k.2)

/-! ## The expiries -/

theorem offerLifetimeExpiry_takes (m : s.mainRuns = true) (bounded : s.tableBounded = true)
    (parts : s.offers.entries = as ++ e :: bs) : ∃ t, exec (.offerLifetimeExpiry e.id) s = .next t
      ∧ (e.state = .shown → e.lifetime = 0 → OnlyChanges [.offers, .events, .pins] s t ∧ Raised [.offerClosed] s t
          ∧ t.offers = { s.offers with entries := as ++ { e with state := .expired, waiting := none } :: bs })
      ∧ (e.state ≠ .shown ∨ e.lifetime ≠ 0 → OnlyChanges [.pins] s t) := by
  have mem : e ∈ s.offers.entries := by rw [parts]; simp
  refine ⟨_, congrArg (done s) (State.whenMain_running _ m), fun shown due => ?_, fun h => ?_⟩
  · rw [State.expireShown_due mem shown due]
    exact ⟨((State.only_closeEntry _ _ s).mono (by decide)).endedMain (by decide) (by decide),
      (State.closeEntry_raised m _ _).kept (s.ended_keep _ .events),
      (s.ended_keep _ .offers).trans (State.closeEntry_one bounded parts (by decide))⟩
  · rw [State.expireShown_notDue bounded mem h]
    exact s.only_ended_self

theorem bidLifetimeExpiry_takes (m : s.mainRuns = true) (bounded : s.tableBounded = true) (matched : s.bidMatched = true)
    (parts : s.offers.entries = as ++ e :: bs) (bid : e.state = .bid) (due : e.lifetime = 0)
    (record : s.offers.bid = some b) : ∃ t, exec .bidLifetimeExpiry s = .next t
      ∧ (b.stage = .queued →
          OnlyChanges [.offers, .arbiter, .events, .pins] s t ∧ Raised [.offerClosed] s t
          ∧ t.offers = s.offers.settled as { e with state := .expired, waiting := none } bs
          ∧ t.arbiter = Arbiter.without (.bid e.id) s.arbiter)
      ∧ (b.stage = .inFlight → OnlyChanges [.offers, .pins] s t
          ∧ t.offers = { s.offers with bid := some { b with mark := .expiryPending } })
      ∧ (b.stage = .sent → OnlyChanges [.pins] s t) := by
  have own := State.bidMatched_offer parts bid matched record
  refine ⟨_, congrArg (done s) (State.whenMain_running _ m), fun stage => ?_, fun stage => ?_, fun stage => ?_⟩
  · rw [State.expireBid_queued bounded parts bid due own record stage]
    exact ⟨((State.only_endBid _ _ s).mono (by decide)).endedMain (by decide) (by decide),
      (State.endBid_raised m _ _).kept (s.ended_keep _ .events),
      (s.ended_keep _ .offers).trans (State.endBid_offers bounded parts bid (by decide) (by decide)),
      (s.ended_keep _ .arbiter).trans ((State.endBid_arbiter parts bid matched record).trans (if_neg (by simp [stage])))⟩
  · rw [State.expireBid_inFlight bounded parts bid due own record stage]
    exact ⟨.endedMain (.withBid _ (.refl s) (by decide)) (by decide) (by decide), rfl⟩
  · rw [State.expireBid_sent bounded parts bid due own record stage]
    exact s.only_ended_self

theorem awardWaitExpiry_takes (m : s.mainRuns = true) (bounded : s.tableBounded = true)
    (parts : s.offers.entries = as ++ e :: bs) (bid : e.state = .bid) : ∃ t, exec .awardWaitExpiry s = .next t
      ∧ (e.waiting = some 0 →
          OnlyChanges [.offers, .events, .pins] s t ∧ Raised [.offerClosed] s t
          ∧ t.offers = s.offers.settled as { e with state := .lost, waiting := none } bs)
      ∧ (e.waiting ≠ some 0 → OnlyChanges [.pins] s t) := by
  refine ⟨_, congrArg (done s) (State.whenMain_running _ m), fun due => ?_, fun notDue => ?_⟩
  · rw [State.expireAward_due bounded parts bid due]
    exact ⟨((State.only_awardLost _ s).mono (by decide)).endedMain (by decide) (by decide),
      (State.closeEntry_offerBoundary_raised (s := s.withBid none) m _ _).kept (s.ended_keep _ .events),
      (s.ended_keep _ .offers).trans
        (offerBoundary_settles bounded parts bid (by decide) (by decide) State.withBid_closeEntry_offers)⟩
  · have still : ∀ x ∈ s.offers.entries, x.state = .bid → x.waiting ≠ some 0 := fun x hx k => by
      obtain ⟨others, -⟩ := State.tableBounded_bid bounded parts bid
      rw [parts, List.mem_append, List.mem_cons] at hx
      rcases hx with hx | rfl | hx
      · exact absurd k (others x (List.mem_append_left _ hx))
      · exact notDue
      · exact absurd k (others x (List.mem_append_right _ hx))
    rw [State.expireAward_notDue still]
    exact s.only_ended_self

theorem ackTimerExpiry_takes (m : s.mainRuns = true) (running : s.monitor.holding = false) :
    ∃ t, exec .ackTimerExpiry s = .next t
      ∧ (∀ n, s.store.sender = .sent n 0 → s.storeInOrder = true → classCount s.arbiter.queue 2 = 0 →
          OnlyChanges [.store, .arbiter, .check, .pins] s t ∧ t.store = { s.store with sender := .queued n }
          ∧ t.arbiter = { s.arbiter with queue := s.arbiter.queue ++ [.total n] })
      ∧ ((∀ n, s.store.sender ≠ .sent n 0) → OnlyChanges [.pins] s t) := by
  refine ⟨_, congrArg (done s) (State.whenRetained_running _ running), fun n due order free => ?_, fun notDue => ?_⟩
  · obtain ⟨store, arbiter⟩ := State.expireAck_serves m due order free
    exact ⟨((State.only_expireAck (s := s)).mono (by decide)).ended (by decide) (by decide),
      (s.ended_keep _ .store).trans store, (s.ended_keep _ .arbiter).trans arbiter⟩
  · rw [State.expireAck_notDue notDue]
    exact s.only_ended_self

theorem linkLossTimerExpiry_takes (m : s.mainRuns = true) : ∃ t, exec .linkLossTimerExpiry s = .next t
      ∧ (s.link.state = .synced → s.link.lossTimer = some 0 →
          OnlyChanges [.link, .events, .pins] s t ∧ Raised [.linkState] s t
          ∧ t.link = { s.link with state := .lost, cycle := none, allowance := 0, lossTimer := none })
      ∧ (s.link.state ≠ .synced ∨ s.link.lossTimer ≠ some 0 → OnlyChanges [.pins] s t) := by
  refine ⟨_, congrArg (done s) (State.whenMain_running _ m), fun synced due => ?_, fun h => ?_⟩
  · have only := (State.only_loseLink s).mono (bs := [.link, .events, .pins]) (by decide)
    rw [State.loseLink_due synced due] at only ⊢
    exact ⟨only.endedMain (by decide) (by decide), (State.raise_raised (s := s.linkLost) m _).kept (s.ended_keep _ .events),
      (s.ended_keep _ .link).trans ((State.only_raise _ s.linkLost).keep .link (by decide))⟩
  · rw [State.loseLink_notDue h]
    exact s.only_ended_self

/-- Settles O17: each expiry by itself, due and not due. -/
theorem secondTimersExpire : Obligations.SecondTimersExpire :=
  ⟨fun _ _ _ _ m bounded matched parts => ⟨offerLifetimeExpiry_takes m bounded parts,
      fun bid due _ record => bidLifetimeExpiry_takes m bounded matched parts bid due record,
      awardWaitExpiry_takes m bounded parts⟩,
    fun _ => ⟨fun notDue => done_whenMain_same (State.expireBid_notDue notDue),
      fun notDue => done_whenMain_same (State.expireAward_notDue notDue)⟩,
    fun _ => ackTimerExpiry_takes, fun _ => linkLossTimerExpiry_takes⟩

end Sys2Proof.Machine
end

section
/-! PROOFS. The Offer Unit follows the meter: a bid lapses with HIRE or SHIFT_CLOSE, and JOB_CANCEL owes a BID_CANCEL (R7,
R76 to R78). -/

namespace Sys2Proof.Machine

variable {s t u : State} {id : Nat} {e : OfferEntry} {as bs : List OfferEntry} {b : BidRecord} {a : Arbiter}

/-! ## What a stop that takes effect leaves alone (R81) -/

theorem State.offerBoundary_bid : s.offerBoundary.offers.bid = s.offers.bid := by
  rw [State.offerBoundary_offers]
  split <;> rfl

theorem State.offerBoundary_cancels : s.offerBoundary.offers.cancels = s.offers.cancels := by
  rw [State.offerBoundary_offers]
  split <;> rfl

theorem State.offerBoundary_run (free : s.anyEntry .bid = false) :
    s.offerBoundary.offers.run = if s.offers.run = .stopping then .stopped else s.offers.run := by
  rw [State.offerBoundary_offers]
  by_cases stops : s.offers.run = .stopping
  · rw [if_pos ⟨stops, free⟩, if_pos stops]
  · rw [if_neg fun k => stops k.1, if_neg stops]

/-! ## The bid of an entry that lapses (R77) -/

theorem State.lapseBid_run (id : Nat) : (s.lapseBid id).offers.run = s.offers.run := by
  rcases s.lapseBid_cases id with ⟨h, -⟩ | ⟨-, h⟩ | ⟨-, h⟩ | ⟨-, h⟩ <;> rw [h]
  · rw [State.dropBid_offers]
  · rfl
  · rw [State.oweCancel_offers]
    rfl

/-- What becomes of the bid record and of the cancels that are not yet owed. -/
theorem State.lapseBid_record (own : b.offer = id) (record : s.offers.bid = some b) :
    (b.stage = .queued → (s.lapseBid id).offers.bid = none ∧ (s.lapseBid id).offers.cancels = s.offers.cancels)
      ∧ (b.stage = .inFlight → (s.lapseBid id).offers.bid = some { b with mark := .cancelOnDone }
        ∧ (s.lapseBid id).offers.cancels = s.offers.cancels)
      ∧ (b.stage = .sent → (s.lapseBid id).offers.bid = none) := by
  have stage : ∀ st, b.stage = st → s.bidStage id = some st := fun st h => State.bidStage_eq_some.mpr ⟨b, record, own, h⟩
  refine ⟨fun h => ?_, fun h => ?_, fun h => ?_⟩
  · rw [State.lapseBid_queued (stage _ h), State.dropBid_offers]
    exact ⟨rfl, rfl⟩
  · rw [State.lapseBid_inFlight (stage _ h), record]
    exact ⟨rfl, rfl⟩
  · rw [State.lapseBid_sent (stage _ h), State.oweCancel_offers]
    rfl

/-- How the Offer Unit `o` and the arbiter `a` stand in `t`, once the entry in BID and the SHOWN ones have lapsed (R77). -/
structure BidLapses (o : Offers) (a : Arbiter) (as : List OfferEntry) (e : OfferEntry) (bs : List OfferEntry) (b : BidRecord)
    (t : State) : Prop where
  entries : t.offers.entries
    = as.map OfferEntry.lapse ++ { e with state := .lapsed, waiting := none } :: bs.map OfferEntry.lapse
  run : t.offers.run = if o.run = .stopping then .stopped else o.run
  flagged : t.flagged .offerClosed = true
  queued : b.stage = .queued →
    t.offers.bid = none ∧ t.offers.cancels = o.cancels ∧ t.arbiter = Arbiter.without (.bid e.id) a
  inFlight : b.stage = .inFlight →
    t.offers.bid = some { b with mark := .cancelOnDone } ∧ t.offers.cancels = o.cancels ∧ t.arbiter = a
  sent : b.stage = .sent → t.offers.bid = none
    ∧ CancelsPlaced a (oweInto o.cancels { offer := e.id, reason := .busy, stage := .owed }) t

theorem BidLapses.congr {o : Offers} (h : BidLapses o a as e bs b u) (offers : t.offers = u.offers)
    (arbiter : t.arbiter = u.arbiter) (events : t.events = u.events) : BidLapses o a as e bs b t where
  entries := by rw [offers, h.entries]
  run := by rw [offers, h.run]
  flagged := by
    have flagged := h.flagged
    rwa [State.flagged, ← events] at flagged
  queued stage := by rw [offers, arbiter]; exact h.queued stage
  inFlight stage := by rw [offers, arbiter]; exact h.inFlight stage
  sent stage := by
    obtain ⟨record, placed⟩ := h.sent stage
    exact ⟨by rw [offers, record], placed.congr arbiter (congrArg Offers.cancels offers)⟩

theorem OfferEntry.lapse_not_bid (h : e.state ≠ .bid) : e.lapse.state ≠ .bid := by
  by_cases shown : e.state = .shown
  · simp [OfferEntry.lapse, shown]
  · rwa [OfferEntry.lapse_of_ne shown]

theorem State.lapseOffers_lapses (m : s.mainRuns = true) (bounded : s.tableBounded = true) (matched : s.bidMatched = true)
    (parts : s.offers.entries = as ++ e :: bs) (bid : e.state = .bid) (record : s.offers.bid = some b) :
    BidLapses s.offers s.arbiter as e bs b s.lapseOffers := by
  have own := State.bidMatched_offer parts bid matched record
  have entries := State.lapseOffers_entries bounded parts bid
  obtain ⟨queued, inFlight, sent⟩ := State.lapseOffers_arbiter bounded parts bid matched record m
  obtain ⟨es, raised, -, closes⟩ := State.lapseOffers_raised m
  have offers := s.bidLapsed_offers e
  obtain ⟨queued', inFlight', sent'⟩ := State.lapseBid_record (s := s.bidLapsed e) own (by rw [offers]; exact record)
  have owing : (s.bidLapsed e).offers.cancels = s.offers.cancels := by rw [offers]
  have run : ((s.bidLapsed e).lapseBid e.id).offers.run = s.offers.run := by rw [State.lapseBid_run, offers]
  have free : ((s.bidLapsed e).lapseBid e.id).anyEntry .bid = false := by
    obtain ⟨others, -⟩ := State.tableBounded_bid bounded parts bid
    have kept := fun x hx => OfferEntry.lapse_not_bid (others x hx)
    refine State.anyEntry_eq_false.mpr fun x hx => ?_
    rw [State.lapseBid_entries, State.bidLapsed_entries bounded parts bid, List.mem_append, List.mem_cons, List.mem_map,
      List.mem_map] at hx
    rcases hx with ⟨y, hy, rfl⟩ | rfl | ⟨y, hy, rfl⟩
    · exact kept y (List.mem_append_left _ hy)
    · simp
    · exact kept y (List.mem_append_right _ hy)
  have closed : s.lapseOffers.flagged .offerClosed = true := by
    have some : EventKind.offerClosed ∈ es := closes.mpr (List.any_eq_true.mpr ⟨e, by rw [parts]; simp, by simp [bid]⟩)
    rw [raised.flagged, decide_eq_true some, Bool.or_true]
  rw [State.lapseOffers_bid (State.find_bid bounded parts bid)] at *
  rw [owing] at queued' inFlight'
  refine ⟨entries, ?_, closed, fun h => ?_, fun h => ?_, fun h => ?_⟩
  · rw [State.offerBoundary_run free, run]
  · obtain ⟨gone, cancels⟩ := queued' h
    exact ⟨State.offerBoundary_bid.trans gone, State.offerBoundary_cancels.trans cancels, queued h⟩
  · obtain ⟨marked, cancels⟩ := inFlight' h
    exact ⟨State.offerBoundary_bid.trans marked, State.offerBoundary_cancels.trans cancels, inFlight h⟩
  · exact ⟨State.offerBoundary_bid.trans (sent' h), sent h⟩

/-! ## HIRE and SHIFT_CLOSE in VACANT -/

section
variable {tag : Byte} (bounded : s.tableBounded = true) (matched : s.bidMatched = true)
  (parts : s.offers.entries = as ++ e :: bs) (bid : e.state = .bid) (record : s.offers.bid = some b)
include bounded matched parts bid record

/-- From a state that the request has reached with the Offer Unit untouched. -/
theorem bidLapses_from (offers : u.offers = s.offers) (arbiter : u.arbiter = a) (runs : u.mainRuns = true) :
    BidLapses s.offers a as e bs b u.lapseOffers := by
  rw [← arbiter, ← offers]
  exact State.lapseOffers_lapses runs ((State.tableBounded_congr offers).trans bounded)
    ((State.bidMatched_congr offers).trans matched) (by rw [offers, parts]) bid (by rw [offers, record])

variable (m : s.mainRuns = true) (vacant : s.meter.state = .vacant)
include m vacant

theorem hire_bidLapses {p : Byte} (ok : exec (.hire tag [p]) s = .next t) (leaves : t.meter.state ≠ .vacant) :
    BidLapses s.offers s.arbiter as e bs b t := by
  have permitted : s.meter.state ∈ [MeterState.vacant, .assigned] := by simp [vacant]
  by_cases refusing : s.tariff = none ∨ chooseBand s.tariff s.time p.toNat = none
  · obtain ⟨t', ok', only, -⟩ := serveMeter_refusedBy (kind := 0x8A#8) (tag := tag) m permitted (State.hire_refused refusing)
    obtain rfl : t' = t := Host.Outcome.next.inj (ok'.symm.trans ok)
    have meter : t'.meter = s.meter := only.keep .meter (by decide)
    exact absurd vacant (meter ▸ leaves)
  · obtain ⟨f, tariff⟩ := Option.ne_none_iff_exists'.mp (not_or.mp refusing).1
    obtain ⟨n, band⟩ := Option.ne_none_iff_exists'.mp (not_or.mp refusing).2
    have ok' := serveMeter_ok (kind := 0x8A#8) (tag := tag) m permitted (State.hire_ok tariff band)
    obtain rfl := Host.Outcome.next.inj (ok'.symm.trans ok)
    rw [State.startTrip_vacant vacant]
    have lapses := bidLapses_from bounded matched parts bid record (State.hiredWith_offers (f := f) (b := n))
      State.hiredWith_arbiter (State.hiredWith_mainRuns m)
    exact lapses.congr (State.answeredFrom_offers ..) (State.answeredFrom_arbiter ..)
      ((State.only_answeredFrom s _ 0x8A#8 tag []).keep .events (by decide))

theorem shiftClose_bidLapses (ok : exec (.shiftClose tag []) s = .next t) :
    BidLapses s.offers s.shiftOffered as e bs b t := by
  have ok' := serveMeter_ok (kind := 0x91#8) (tag := tag) (states := [.vacant]) (a := ()) m (by simp [vacant])
    (owner := fun _ t => t.closeShift) State.closeShift_eq
  obtain rfl := Host.Outcome.next.inj (ok'.symm.trans ok)
  have pended := s.only_shiftPended
  have lapses := bidLapses_from bounded matched parts bid record (pended.keep .offers (by decide))
    (State.shiftPended_arbiter m) ((pended.mainRuns_eq (by decide)).trans m)
  exact lapses.congr (State.answeredFrom_offers ..) (State.answeredFrom_arbiter ..)
    ((State.only_answeredFrom s _ 0x91#8 tag _).keep .events (by decide))

end

/-! ## JOB_CANCEL (R7, R78) -/

/-- The Offer Unit once the driver has cancelled a job: its cancel is owed and its entry declined. -/
def State.jobDeclined (s : State) (id : Nat) : State := (s.oweCancel id .driverCancel).closeAwarded (some id) .declined

theorem State.only_jobDeclined (s : State) (id : Nat) : OnlyChanges [.offers, .arbiter, .events] s (s.jobDeclined id) :=
  .closeAwarded _ _ (.oweCancel _ _ (.refl s) (by decide)) (by decide)

theorem State.cancelJob_eq (job : s.meter.jobId = some id) : s.cancelJob = ((s.jobDeclined id).withMeter
    { (s.jobDeclined id).meter with state := .vacant, jobId := none }).answered [] := by
  rw [State.cancelJob, job]
  rfl

theorem State.jobDeclined_offers : (s.jobDeclined id).offers = { s.offers with
    cancels := (s.jobDeclined id).offers.cancels
    entries := s.offers.entries.map fun e =>
      if e.id = id ∧ e.state = .awarded then { e with state := .declined, waiting := none } else e } := by
  rw [State.jobDeclined, State.closeAwarded_offers, State.oweCancel_offers]
  simp only [Option.some.injEq]
  rfl

theorem State.jobDeclined_placed (m : s.mainRuns = true) : CancelsPlaced s.arbiter
    (oweInto s.offers.cancels { offer := id, reason := .driverCancel, stage := .owed }) (s.jobDeclined id) :=
  (State.oweCancel_placed m id .driverCancel).congr ((State.only_closeAwarded _ _ _).keep .arbiter (by decide))
    (by rw [State.jobDeclined, State.closeAwarded_offers])

theorem State.jobDeclined_flagged (m : s.mainRuns = true) (k : EventKind) : (s.jobDeclined id).flagged k
    = (s.flagged k || k = .offerClosed && s.offers.entries.any fun e => e.id = id && e.state = .awarded) := by
  have owed := State.only_oweCancel id .driverCancel s
  have raised := State.closeAwarded_raised ((owed.mainRuns_eq (by decide)).trans m) (some id) .declined
  rw [State.oweCancel_entries] at raised
  have flagged := (raised.from_same (owed.keep .events (by decide))).flagged k
  rw [← State.jobDeclined] at flagged
  simpa only [decide_mem_ite, Option.some.injEq, Bool.decide_coe] using flagged

/-- Settles O18: the lapse layer from the state in which HIRE or SHIFT_CLOSE tells the Offer Unit, and the cancelled job. -/
theorem offersFollowMeter : Obligations.OffersFollowMeter := by
  refine ⟨fun s t tag p c as bs e b m vacant bounded matched parts bid record request ok leaves => ?_,
    fun s tag id m assigned job => ?_⟩
  · have lapses : ∀ a, a = (if c = .shiftClose tag [] then s.shiftOffered else s.arbiter) →
        BidLapses s.offers a as e bs b t := by
      rintro a rfl
      rcases request with rfl | rfl
      · rw [if_neg nofun]
        exact hire_bidLapses bounded matched parts bid record m vacant ok leaves
      · rw [if_pos rfl]
        exact shiftClose_bidLapses bounded matched parts bid record m vacant ok
    have common := lapses _ rfl
    exact ⟨common.entries, common.run, common.flagged, fun a ha =>
      ⟨(lapses a ha).queued, (lapses a ha).inFlight, (lapses a ha).sent⟩⟩
  · have ok := serveMeter_ok (kind := 0x87#8) (tag := tag) (states := [.assigned]) (a := ()) m (by simp [assigned])
      (owner := fun _ t => t.cancelJob) (State.cancelJob_eq job)
    have declined := s.only_jobDeclined id
    have meter : (s.jobDeclined id).meter = s.meter := declined.keep .meter (by decide)
    have offers := State.jobDeclined_offers (s := s) (id := id)
    have placed := State.jobDeclined_placed (id := id) m
    have flagged := State.jobDeclined_flagged (id := id) m
    rw [meter] at ok
    generalize s.jobDeclined id = v at *
    have only : OnlyChanges [.meter, .offers, .arbiter, .events, .check] s
        (v.withMeter { s.meter with state := .vacant, jobId := none }) := .withMeter (declined.mono (by decide)) (by decide)
    exact ⟨_, ok, State.answeredFrom_answered only (by decide) (by decide), rfl, offers, placed.congr rfl rfl, flagged⟩

end Sys2Proof.Machine
end

section
/-! PROOFS. DRIVER_MSG and PASS_UP: what the terminal sends to dispatch (R96, R141, R181). -/

namespace Sys2Proof.Machine

variable {s : State} {c : Byte} {body : List Byte} {n : Nat}

/-! ## A request whose payload may not hold its fields -/

/-- How a request ends, whether or not its payload holds the fields of its kind. -/
theorem serve_ends {α : Type} {kind tag : Byte} {args : Option α} {owner : α → State → State × Answer}
    (m : s.mainRuns = true) : ∃ t, serve kind tag args owner s = .next t
      ∧ (args = none → OnlyReplied s t { kind, tag, code := .refusedRange, payload := [] })
      ∧ ∀ x, args = some x →
          (∀ code, owner x s = s.refused code → OnlyReplied s t { kind, tag, code, payload := [] })
          ∧ ∀ v p, owner x s = State.answered p v → t = s.answeredFrom v kind tag p := by
  cases args with
  | none =>
    obtain ⟨t, ok, unfit⟩ := serve_unfit (kind := kind) (tag := tag) (owner := owner) m rfl
    exact ⟨t, ok, fun _ => unfit, nofun⟩
  | some x =>
    obtain ⟨t, ok, refused, answered⟩ := serve_replied (kind := kind) (tag := tag) (owner := owner) (x := x) m
    refine ⟨t, ok, nofun, fun y same => ?_⟩
    obtain rfl := Option.some.inj same
    exact ⟨refused, answered⟩

/-! ## DRIVER_MSG (R96) -/

theorem sharedFree_iff {q : List Entry} : sharedFree q = true ↔ sharedCount q < 6 := decide_eq_true_iff

theorem sharedFree_eq_false {q : List Entry} (full : 6 ≤ sharedCount q) : ¬ sharedFree q = true := fun free =>
  absurd (sharedFree_iff.mp free) (by omega)

theorem argDriver_counted (short : body.length < 256) : argDriver (c :: u8 body.length ++ body)
    = if c.toNat ≠ 0 then (if body.isEmpty then some (.code c.toNat) else none)
      else if 1 ≤ body.length ∧ body.length ≤ 64 then some (.text body) else none := by
  have count : (BitVec.ofNat 8 body.length).toNat = body.length := Nat.mod_eq_of_lt short
  exact if_neg (not_not.mpr count)

theorem argDriver_unfit (short : body.length < 256)
    (h : c = 0#8 ∧ (body = [] ∨ 64 < body.length) ∨ c ≠ 0#8 ∧ body ≠ []) :
    argDriver (c :: u8 body.length ++ body) = none := by
  rw [argDriver_counted short]
  rcases h with ⟨rfl, size⟩ | ⟨coded, text⟩
  · have unfit : ¬ (1 ≤ body.length ∧ body.length ≤ 64) := by
      rcases size with rfl | long
      · exact fun k => absurd k.1 (by simp)
      · omega
    exact if_neg unfit
  · rw [if_pos (by simpa [BitVec.toNat_eq] using coded), if_neg (by simpa using text)]

theorem argDriver_fits {x : DriverText} (short : body.length < 256)
    (h : c ≠ 0#8 ∧ body = [] ∧ x = .code c.toNat ∨ c = 0#8 ∧ 1 ≤ body.length ∧ body.length ≤ 64 ∧ x = .text body) :
    argDriver (c :: u8 body.length ++ body) = some x := by
  rw [argDriver_counted short]
  rcases h with ⟨coded, rfl, rfl⟩ | ⟨rfl, least, most, rfl⟩
  · exact if_pos (by simpa [BitVec.toNat_eq] using coded)
  · have fits : 1 ≤ body.length ∧ body.length ≤ 64 := ⟨least, most⟩
    exact if_pos fits

theorem State.sendDriver_full (x : DriverText) (full : 6 ≤ sharedCount s.arbiter.queue) :
    s.sendDriver x = s.refused .refusedFull :=
  if_neg (sharedFree_eq_false full)

/-- The driver's message has taken its place and its number. -/
def State.driverSent (s : State) (x : DriverText) (n : Nat) : State :=
  (s.enqueue (.driverMsg n x)).withMessages { s.messages with counter := n, outstanding := s.messages.outstanding + 1 }

theorem State.sendDriver_ok (x : DriverText) (room : sharedCount s.arbiter.queue < 6)
    (number : n = if s.messages.counter = 255 then 1 else s.messages.counter + 1) :
    s.sendDriver x = (s.driverSent x n).answered (u8 n) := by
  rw [number]
  exact if_pos (sharedFree_iff.mpr room)

theorem State.only_driverSent (s : State) (x : DriverText) (n : Nat) :
    OnlyChanges [.messages, .arbiter] s (s.driverSent x n) :=
  .withMessages (.enqueue _ (.refl s) (by decide)) (by decide)

/-! ## PASS_UP (R181) -/

theorem argUp_fits (least : 1 ≤ body.length) (most : body.length ≤ 199) : argUp body = some body := if_pos ⟨least, most⟩

theorem State.passUp_full (data : List Byte) (full : 6 ≤ sharedCount s.arbiter.queue) :
    s.passUp data = s.refused .refusedFull :=
  if_neg (sharedFree_eq_false full)

/-- The data to be passed up have taken their place and their number. -/
def State.passSent (s : State) (data : List Byte) (n : Nat) : State :=
  (s.enqueue (.passUp n data)).withTerminal { s.terminal with upCounter := n, upOutstanding := s.terminal.upOutstanding + 1 }

theorem State.passUp_ok (data : List Byte) (room : sharedCount s.arbiter.queue < 6)
    (number : n = if s.terminal.upCounter = 255 then 1 else s.terminal.upCounter + 1) :
    s.passUp data = (s.passSent data n).answered (u8 n) := by
  rw [number]
  exact if_pos (sharedFree_iff.mpr room)

theorem State.only_passSent_answered (s : State) (kind tag : Byte) (data : List Byte) (n : Nat) :
    OnlyChanges [.terminal, .arbiter, .pins] s (s.answeredFrom (s.passSent data n) kind tag (u8 n)) :=
  .endedMain (.putReply _ _ _ (.withTerminal (.enqueue _ (.refl s) (by decide)) (by decide)) (by decide)) (by decide)
    (by decide)

/-- Settles O30: a payload out of range, no shared place, or an entry with the next number. -/
theorem terminalSendsUplink : Obligations.TerminalSendsUplink := by
  intro s tag c body m short
  constructor
  · obtain ⟨t, ok, unfit, fit⟩ := serve_ends (kind := 0x96#8) (tag := tag) (owner := State.sendDriver)
      (args := argDriver (c :: u8 body.length ++ body)) m
    refine ⟨t, ok, fun h => unfit (argDriver_unfit short h), fun x h => ?_⟩
    obtain ⟨refused, answered⟩ := fit x (argDriver_fits short h)
    refine ⟨fun full => refused _ (State.sendDriver_full x full), fun room n number => ?_⟩
    rw [answered _ _ (State.sendDriver_ok x room number)]
    exact ⟨State.answeredFrom_main (s.only_driverSent x n) (by decide) (by decide), rfl, rfl⟩
  · obtain ⟨t, ok, unfit, fit⟩ := serve_ends (kind := 0x98#8) (tag := tag) (owner := State.passUp) (args := argUp body) m
    refine ⟨t, ok, fun h => unfit (argUp_none h), fun least most full => ?_, fun least most room n number => ?_⟩
    · obtain ⟨refused, -⟩ := fit body (argUp_fits least most)
      exact refused _ (State.passUp_full body full)
    · obtain ⟨-, answered⟩ := fit body (argUp_fits least most)
      rw [answered _ _ (State.passUp_ok body room number)]
      exact ⟨s.only_passSent_answered _ _ body n, rfl, rfl⟩

end Sys2Proof.Machine
end

section
/-! PROOFS. Receipts are placed, and what a change of the Message Store leaves to be placed (R85, R93). -/

namespace Sys2Proof.Machine

variable {s t u v : State} {i j : OwedItem} {id : Nat} {f : Message → Message}

/-! ## Stages of the owed order -/

theorem OwedItem.entry_inj : i.entry = j.entry ↔ i = j := by
  cases i <;> cases j <;> simp [OwedItem.entry]

theorem State.owedStage_of_lists (list : t.messages.list = s.messages.list) (refusal : t.messages.refusal = s.messages.refusal)
    (i : OwedItem) : t.owedStage i = s.owedStage i := by
  cases i with
  | message id => rw [State.owedStage, State.storedMessage, list]; rfl
  | refusal => exact congrArg (Option.map RefusalOwed.stage) refusal

theorem State.owedStage_congr (h : t.messages = s.messages) (i : OwedItem) : t.owedStage i = s.owedStage i :=
  State.owedStage_of_lists (congrArg Messages.list h) (congrArg Messages.refusal h) i

theorem State.mapMessage_list : (s.mapMessage id f).messages.list = s.messages.list.map (Message.changeAt id f) := rfl

/-- A message changed in place is found where it was. -/
theorem State.mapMessage_storedMessage (ids : ∀ x, (f x).id = x.id) (j : Nat) :
    (s.mapMessage id f).storedMessage j = (s.storedMessage j).map (Message.changeAt id f) := by
  have same : (fun m : Message => decide (m.id = j)) ∘ Message.changeAt id f = fun m => decide (m.id = j) :=
    funext fun m => by rw [Function.comp_apply, Message.changeAt_id ids]
  rw [State.storedMessage, State.mapMessage_list, List.find?_map, same]
  rfl

theorem State.mapMessage_owedStage_other (ids : ∀ x, (f x).id = x.id) (other : i ≠ .message id) :
    (s.mapMessage id f).owedStage i = s.owedStage i := by
  cases i with
  | refusal => rfl
  | message j =>
    rw [State.owedStage, State.mapMessage_storedMessage ids, State.owedStage]
    cases found : s.storedMessage j with
    | none => rfl
    | some m =>
      obtain ⟨-, rfl⟩ := State.storedMessage_mem found
      exact congrArg (fun x : Message => x.mark.map ReceiptMark.stage)
        (Message.changeAt_of_ne fun same => other (congrArg OwedItem.message same))

theorem State.mapMessage_owedStage {m : Message} (ids : ∀ x, (f x).id = x.id) (found : s.storedMessage id = some m) :
    (s.mapMessage id f).owedStage (.message id) = (f m).mark.map ReceiptMark.stage := by
  rw [State.owedStage, State.mapMessage_storedMessage ids, found]
  exact congrArg (fun x : Message => x.mark.map ReceiptMark.stage)
    (Message.changeAt_self (State.storedMessage_mem found).2)

theorem State.owedStage_stored {m : Message} (found : s.storedMessage id = some m) :
    s.owedStage (.message id) = m.mark.map ReceiptMark.stage := by
  rw [State.owedStage, found]
  rfl

theorem State.owedStage_missing (missing : s.storedMessage id = none) : s.owedStage (.message id) = none := by
  rw [State.owedStage, missing]
  rfl

/-- An item that has a stage takes another. -/
theorem State.setOwedStage_owedStage (held : (s.owedStage i).isSome = true) (stage : OwedStage) (j : OwedItem) :
    (s.setOwedStage i stage).owedStage j = if j = i then some stage else s.owedStage j := by
  split
  · next same =>
    subst same
    cases j with
    | refusal =>
      obtain ⟨r, hr⟩ := Option.isSome_iff_exists.mp (Option.isSome_map.symm.trans held)
      change (s.messages.refusal.map _).map _ = _
      rw [hr]
      rfl
    | message id =>
      cases found : s.storedMessage id with
      | none => rw [State.owedStage_missing found] at held; cases held
      | some m =>
        rw [State.owedStage_stored found] at held
        obtain ⟨k, hk⟩ := Option.isSome_iff_exists.mp (Option.isSome_map.symm.trans held)
        refine (State.mapMessage_owedStage (f := fun x => { x with mark := x.mark.map fun k => { k with stage } })
          (fun _ => rfl) found).trans ?_
        rw [hk]
        rfl
  · next other =>
    cases i with
    | message id => exact State.mapMessage_owedStage_other (fun _ => rfl) other
    | refusal =>
      cases j with
      | message => rfl
      | refusal => exact absurd rfl other

/-! ## Placing a receipt (R93) -/

/-- The receipt of an item takes a place. -/
def State.receiptQueued (s : State) (i : OwedItem) : State := (s.enqueue i.entry).setOwedStage i .queued

/-- No receipt waits for which there is a place. -/
def State.ReceiptsSettled (s : State) : Prop := ¬ s.ReceiptHeldBack ∨ ReceiptsFull s.arbiter.queue

/-- One turn: no receipt waits for a place, or the oldest takes one. -/
theorem State.placeReceipt_turn (m : s.mainRuns = true) : s.placeReceipt = s ∧ s.ReceiptsSettled
    ∨ ∃ i, s.messages.owed.find? (fun i => s.owedStage i = some .owed) = some i ∧ s.placeReceipt = s.receiptQueued i := by
  unfold State.placeReceipt
  split
  · next none =>
    exact .inl ⟨rfl, .inl fun ⟨i, hi, owed⟩ => absurd (decide_eq_true owed) (List.find?_eq_none.mp none i hi)⟩
  · next i found =>
    split
    · exact .inr ⟨i, found, rfl⟩
    · next full =>
      refine .inl ⟨rfl, .inr ?_⟩
      simp only [m, Bool.true_and, Bool.and_eq_true, decide_eq_true_eq, not_and_or, sharedFree_iff, Config.receiptLimit] at full
      unfold ReceiptsFull
      omega

theorem State.receiptQueued_arbiter (i : OwedItem) :
    (s.receiptQueued i).arbiter = { s.arbiter with queue := s.arbiter.queue ++ [i.entry] } :=
  (State.only_setOwedStage i .queued _).keep .arbiter (by decide)

theorem State.receiptQueued_mainRuns (i : OwedItem) : (s.receiptQueued i).mainRuns = s.mainRuns :=
  (State.only_setOwedStage i .queued _).mainRuns_eq (by decide)

theorem State.receiptQueued_owed (i : OwedItem) : (s.receiptQueued i).messages.owed = s.messages.owed := by
  cases i <;> rfl

theorem State.receiptQueued_owedStage (owed : s.owedStage i = some .owed) (j : OwedItem) :
    (s.receiptQueued i).owedStage j = if j = i then some .queued else s.owedStage j := by
  have enqueued : (s.enqueue i.entry).owedStage i = s.owedStage i := State.owedStage_congr rfl i
  exact State.setOwedStage_owedStage (s := s.enqueue i.entry) (by rw [enqueued, owed]; rfl) .queued j

theorem State.receiptQueued_count (i : OwedItem) : ((s.receiptQueued i).arbiter.queue.filter Entry.isReceipt).length
    = (s.arbiter.queue.filter Entry.isReceipt).length + 1 := by
  have receipt : i.entry.isReceipt = true := by cases i <;> rfl
  rw [State.receiptQueued_arbiter, List.filter_append, List.length_append, List.filter_singleton, receipt]
  rfl

/-! ## Receipts placed one after another -/

/-- The entries `new` have joined the queue for the oldest OWED receipts, which now stand QUEUED. -/
structure ReceiptsAdded (s : State) (new : List Entry) (t : State) : Prop where
  order : t.messages.owed = s.messages.owed
  arbiter : t.arbiter = { s.arbiter with queue := s.arbiter.queue ++ new }
  owed : ∀ e ∈ new, ∃ i ∈ s.messages.owed, s.owedStage i = some .owed ∧ e = i.entry
  oldest : s.messages.owed.Nodup →
    new <+: (s.messages.owed.filter fun i => s.owedStage i = some .owed).map OwedItem.entry
  stage : ∀ i, t.owedStage i = if i.entry ∈ new then some .queued else s.owedStage i

theorem ReceiptsAdded.none : ReceiptsAdded s [] s :=
  ⟨rfl, by simp, nofun, fun _ => List.nil_prefix, fun i => by simp⟩

/-- Behind the first element that satisfies `p`, a predicate that differs there alone selects the same. -/
theorem filter_first {α : Type} {p q : α → Bool} {x : α} : ∀ {l : List α}, l.find? p = some x → l.Nodup → q x = false →
    (∀ y, y ≠ x → q y = p y) → l.filter p = x :: l.filter q := by
  intro l found nodup off same
  obtain ⟨on, as, bs, rfl, none⟩ := List.find?_eq_some_iff_append.mp found
  obtain ⟨-, tail, apart⟩ := List.nodup_append.mp nodup
  have before : ∀ y ∈ as, q y = p y := fun y hy => same y fun k => apart y hy x List.mem_cons_self k
  have after : ∀ y ∈ bs, q y = p y := fun y hy => same y fun k => (List.nodup_cons.mp tail).1 (k ▸ hy)
  have gone : as.filter p = [] := List.filter_eq_nil_iff.mpr fun y hy => by simpa using none y hy
  rw [List.filter_append, List.filter_append, List.filter_congr before, gone, List.filter_cons_of_pos on,
    List.filter_cons_of_neg (by simp [off]), List.filter_congr after]
  rfl

/-- The oldest OWED receipt is placed, and then further ones. -/
theorem ReceiptsAdded.cons {new : List Entry} (found : s.messages.owed.find? (fun i => s.owedStage i = some .owed) = some i)
    (h : ReceiptsAdded (s.receiptQueued i) new t) : ReceiptsAdded s (i.entry :: new) t := by
  have owed : s.owedStage i = some .owed := by simpa using List.find?_some found
  have stages := State.receiptQueued_owedStage owed
  have order := State.receiptQueued_owed (s := s) i
  refine ⟨h.order.trans order, ?_, fun e he => ?_, fun nodup => ?_, fun j => ?_⟩
  · rw [h.arbiter, State.receiptQueued_arbiter, List.append_assoc, List.singleton_append]
  · rcases List.mem_cons.mp he with rfl | he
    · exact ⟨i, List.mem_of_find?_eq_some found, owed, rfl⟩
    · obtain ⟨j, hj, stage, rfl⟩ := h.owed e he
      rw [order] at hj
      rw [stages] at stage
      split at stage
      · cases stage
      · exact ⟨j, hj, stage, rfl⟩
  · have later := h.oldest (order ▸ nodup)
    rw [order] at later
    rw [filter_first found nodup (q := fun j => (s.receiptQueued i).owedStage j = some .owed) (by simp [stages])
      fun j other => by rw [stages, if_neg other], List.map_cons]
    exact List.cons_prefix_cons.mpr ⟨rfl, later⟩
  · rw [h.stage, stages]
    by_cases same : j = i
    · simp [same]
    · simp [same, OwedItem.entry_inj]

/-- Three turns settle the receipts, as no more than three entries of theirs are placed (R93). -/
theorem State.placeReceipts_added (m : s.mainRuns = true) :
    ∃ new, ReceiptsAdded s new s.placeReceipts ∧ s.placeReceipts.ReceiptsSettled := by
  unfold State.placeReceipts
  rcases s.placeReceipt_turn m with ⟨same, settled⟩ | ⟨i, first, placed⟩
  · rw [same, same, same]
    exact ⟨_, .none, settled⟩
  rw [placed]
  have m1 := (State.receiptQueued_mainRuns i).trans m
  rcases (s.receiptQueued i).placeReceipt_turn m1 with ⟨same, settled⟩ | ⟨j, second, placed⟩
  · rw [same, same]
    exact ⟨_, .cons first .none, settled⟩
  rw [placed]
  have m2 := (State.receiptQueued_mainRuns j).trans m1
  rcases ((s.receiptQueued i).receiptQueued j).placeReceipt_turn m2 with ⟨same, settled⟩ | ⟨k, third, placed⟩
  · rw [same]
    exact ⟨_, .cons first (.cons second .none), settled⟩
  · rw [placed]
    refine ⟨_, .cons first (.cons second (.cons third .none)), .inr (.inr ?_)⟩
    simp only [State.receiptQueued_count]
    omega

end Sys2Proof.Machine
end

section
/-! PROOFS. What the operations of the Message Store leave to be placed: which receipts leave the owed order and which join
it, and what placing them keeps (R85, R87, R89, R92, R93). -/

namespace Sys2Proof.Machine

variable {s t u v : State} {i j : OwedItem} {id : Nat} {m : Message} {gone joined more : List OwedItem}

/-! ## What placing keeps (R93) -/

/-- Of the Message Store only the stages of receipts differ. -/
structure RestagedOnly (s t : State) : Prop where
  messages : t.messages = { s.messages with list := t.messages.list, refusal := t.messages.refusal }
  unplaced : t.unplaced = s.unplaced
  refusal : t.messages.refusal.map (fun r => (r.id, r.replaced)) = s.messages.refusal.map fun r => (r.id, r.replaced)

theorem RestagedOnly.of_messages (h : t.messages = s.messages) : RestagedOnly s t :=
  ⟨by rw [h], congrArg (fun x : Messages => x.list.map Message.unplaced) h, by rw [h]⟩

theorem RestagedOnly.trans (h : RestagedOnly s u) (k : RestagedOnly u t) : RestagedOnly s t :=
  ⟨by rw [k.messages, h.messages], k.unplaced.trans h.unplaced, k.refusal.trans h.refusal⟩

theorem Message.unplaced_restage (stage : OwedStage) (x : Message) :
    Message.unplaced { x with mark := x.mark.map fun k => { k with stage } } = x.unplaced := by
  simp [Message.unplaced, Option.map_map, Function.comp_def]

theorem State.setOwedStage_restaged (i : OwedItem) (stage : OwedStage) (s : State) :
    RestagedOnly s (s.setOwedStage i stage) := by
  cases i with
  | refusal => exact ⟨rfl, rfl, by simp [State.setOwedStage, State.withRefusal, Option.map_map, Function.comp_def]⟩
  | message id =>
    refine ⟨rfl, ?_, rfl⟩
    refine List.map_map.trans (List.map_congr_left fun x _ => ?_)
    by_cases own : x.id = id
    · exact (congrArg Message.unplaced (if_pos own)).trans (x.unplaced_restage stage)
    · exact congrArg Message.unplaced (if_neg own)

theorem State.placeReceipt_restaged (s : State) : RestagedOnly s s.placeReceipt := by
  rcases s.placeReceipt_cases with ⟨same, -⟩ | ⟨i, -, -, -, -, -, placed⟩
  · exact .of_messages (by rw [same])
  · rw [placed]
    exact RestagedOnly.trans (u := s.enqueue i.entry) (.of_messages rfl) (State.setOwedStage_restaged i .queued _)

theorem State.placeReceipts_restaged (s : State) : RestagedOnly s s.placeReceipts :=
  (s.placeReceipt_restaged.trans (State.placeReceipt_restaged _)).trans (State.placeReceipt_restaged _)

/-! ## Receipts leave the owed order and join it -/

/-- The items in `gone` have left the owed order, their placed entries withdrawn or detached, and those in `joined` have
joined it in stage OWED; nothing has been placed yet. -/
structure OwedBecomes (gone joined : List OwedItem) (s u : State) : Prop where
  order : u.messages.owed = (s.messages.owed.filter fun i => i ∉ gone) ++ joined
  arbiter : u.arbiter = (gone.filter s.receiptPlaced).foldl (fun a i => Arbiter.without i.entry a) s.arbiter
  stage : ∀ i, u.owedStage i = if i ∈ gone then none else if i ∈ joined then some .owed else s.owedStage i

theorem OwedBecomes.of_same (order : u.messages.owed = s.messages.owed) (arbiter : u.arbiter = s.arbiter)
    (stage : ∀ i, u.owedStage i = s.owedStage i) : OwedBecomes [] [] s u :=
  ⟨by simpa using order, arbiter, by simpa using stage⟩

theorem OwedBecomes.of_messages (messages : u.messages = s.messages) (arbiter : u.arbiter = s.arbiter) :
    OwedBecomes [] [] s u :=
  .of_same (by rw [messages]) arbiter (State.owedStage_congr messages)

theorem State.receiptPlaced_congr (h : u.owedStage i = s.owedStage i) : u.receiptPlaced i = s.receiptPlaced i := by
  rw [State.receiptPlaced, State.receiptPlaced, h]

/-- Items leave, and then further ones leave and some join. -/
theorem OwedBecomes.trans (h : OwedBecomes gone [] s u) (k : OwedBecomes more joined u v)
    (apart : ∀ i ∈ more ++ joined, i ∉ gone) : OwedBecomes (gone ++ more) joined s v := by
  have stage : ∀ i, i ∉ gone → u.owedStage i = s.owedStage i := fun i hi => by
    rw [h.stage, if_neg hi, if_neg List.not_mem_nil]
  refine ⟨?_, ?_, fun i => ?_⟩
  · rw [k.order, h.order, List.append_nil, List.filter_filter]
    simp only [List.mem_append, not_or, Bool.decide_and, Bool.and_comm]
  · have placed : more.filter u.receiptPlaced = more.filter s.receiptPlaced := List.filter_congr fun i hi =>
      State.receiptPlaced_congr (stage i (apart i (List.mem_append_left _ hi)))
    rw [k.arbiter, placed, h.arbiter, List.filter_append, List.foldl_append]
  · rw [k.stage]
    by_cases left : i ∈ gone
    · have new : i ∉ more ++ joined := fun hi => apart i hi left
      rw [List.mem_append, not_or] at new
      rw [if_neg new.1, if_neg new.2, h.stage, if_pos left, if_pos (List.mem_append_left _ left)]
    · rw [stage i left]
      simp [left]

/-- The receipts are placed next. -/
theorem OwedBecomes.follow (h : OwedBecomes gone joined s u) (m : u.mainRuns = true) :
    ReceiptsFollow gone joined s u.placeReceipts := by
  obtain ⟨new, added, settled⟩ := State.placeReceipts_added m
  refine ⟨added.order.trans h.order, new, ?_, fun e he => ?_, fun nodup => ?_, fun i => ?_, settled⟩
  · rw [added.arbiter, h.arbiter]
  · obtain ⟨i, hi, owed, rfl⟩ := added.owed e he
    exact ⟨i, h.order ▸ hi, (h.stage i).symm.trans owed, rfl⟩
  · have oldest := added.oldest (h.order.symm ▸ nodup)
    rw [h.order] at oldest
    simpa only [h.stage] using oldest
  · rw [added.stage, h.stage]

theorem ReceiptsFollow.congr (h : ReceiptsFollow gone joined s t) (messages : u.messages = t.messages)
    (arbiter : u.arbiter = t.arbiter) : ReceiptsFollow gone joined s u := by
  simp only [ReceiptsFollow, State.ReceiptHeldBack, State.owedStage_congr messages, messages, arbiter] at h ⊢
  exact h

/-! ## A message leaves, and the refusal ends (R89, R92) -/

theorem State.receiptPlaced_eq_true : s.receiptPlaced i = true ↔ ¬ (s.owedStage i = none ∨ s.owedStage i = some .owed) := by
  unfold State.receiptPlaced
  cases s.owedStage i with
  | none => simp
  | some stage => cases stage <;> simp

/-- One item leaves: its entry is withdrawn where it is placed. -/
theorem State.withdrawn_arbiter (i : OwedItem) :
    (if s.owedStage i = none ∨ s.owedStage i = some .owed then s else s.withdraw i.entry).arbiter
      = ([i].filter s.receiptPlaced).foldl (fun a i => Arbiter.without i.entry a) s.arbiter := by
  by_cases placed : s.receiptPlaced i = true
  · rw [if_neg (State.receiptPlaced_eq_true.mp placed), List.filter_cons_of_pos placed]
    rfl
  · rw [if_pos (not_not.mp fun h => placed (State.receiptPlaced_eq_true.mpr h)), List.filter_cons_of_neg placed]
    rfl

theorem filter_left (l : List OwedItem) (i : OwedItem) : (l.filter fun j => j ≠ i) = l.filter fun j => j ∉ [i] := by
  simp

theorem State.storedMessage_filter (list : u.messages.list = s.messages.list.filter fun x => x.id ≠ id) (k : Nat) :
    u.storedMessage k = if k = id then none else s.storedMessage k := by
  rw [State.storedMessage, list, List.find?_filter]
  split
  · next same => simp [same]
  · next apart =>
    refine congrArg (fun p => s.messages.list.find? p) (funext fun x => ?_)
    by_cases own : x.id = k <;> simp [own, apart]

theorem State.removeMessage_owes (id : Nat) (s : State) : OwedBecomes [.message id] [] s (s.removeMessage id) := by
  have messages := s.removeMessage_messages id
  refine ⟨?_, State.withdrawn_arbiter (.message id), fun i => ?_⟩
  · rw [messages, List.append_nil, ← filter_left]
  · have stored := State.storedMessage_filter (s := s) (u := s.removeMessage id) (congrArg Messages.list messages)
    cases i with
    | refusal =>
      rw [if_neg (by simp), if_neg List.not_mem_nil, State.owedStage, messages]
      rfl
    | message k =>
      simp only [State.owedStage, stored, List.mem_singleton, OwedItem.message.injEq, List.not_mem_nil, if_false]
      split <;> rfl

theorem State.endRefusal_owes (s : State) : OwedBecomes [.refusal] [] s s.endRefusal := by
  have messages := s.endRefusal_messages
  refine ⟨?_, State.withdrawn_arbiter .refusal, fun i => ?_⟩
  · rw [messages, List.append_nil, ← filter_left]
  · cases i with
    | refusal => exact congrArg (fun x : Messages => x.refusal.map RefusalOwed.stage) messages
    | message k =>
      rw [if_neg (by simp), if_neg List.not_mem_nil, State.owedStage, State.storedMessage, messages]
      rfl

/-! ## A receipt becomes owed (R85) -/

theorem ReceiptMark.owe_stage (kind : ReceiptKind) (mark : Option ReceiptMark) :
    (ReceiptMark.owe kind mark).stage = (mark.map ReceiptMark.stage).getD .owed := by
  cases mark with
  | none => rfl
  | some k =>
    simp only [ReceiptMark.owe]
    split <;> rfl

/-- A message once a receipt of some kind is owed for it. -/
def Message.owing (kind : ReceiptKind) (x : Message) : Message := { x with mark := some (ReceiptMark.owe kind x.mark) }

/-- A receipt has become owed for a stored message, and is not yet placed. -/
def State.owing (s : State) (id : Nat) (kind : ReceiptKind) : State :=
  (if ((s.storedMessage id).bind Message.mark).isNone then s.withOwed (s.messages.owed ++ [.message id]) else s).mapMessage
    id (Message.owing kind)

theorem State.oweReceipt_eq (id : Nat) (kind : ReceiptKind) : s.oweReceipt id kind = (s.owing id kind).placeReceipts := rfl

theorem State.only_owing (id : Nat) (kind : ReceiptKind) (s : State) : OnlyChanges [.messages] s (s.owing id kind) := by
  unfold State.owing
  split
  · exact .mapMessage _ _ (.withOwed _ (.refl s) (by decide)) (by decide)
  · exact .mapMessage _ _ (.refl s) (by decide)

section
variable (found : s.storedMessage id = some m)
include found

theorem State.owing_messages (kind : ReceiptKind) : (s.owing id kind).messages = { s.messages with
    list := s.messages.list.map (Message.changeAt id (Message.owing kind))
    owed := s.messages.owed ++ if m.mark = none then [.message id] else [] } := by
  have free : ((s.storedMessage id).bind Message.mark).isNone = decide (m.mark = none) := by
    rw [found, Option.bind_some]
    cases m.mark <;> rfl
  unfold State.owing
  rw [free]
  by_cases unmarked : m.mark = none
  · rw [if_pos (decide_eq_true unmarked), if_pos unmarked]
    rfl
  · rw [if_neg (by simpa using unmarked), if_neg unmarked, List.append_nil]
    rfl

theorem State.owing_owes (kind : ReceiptKind) :
    OwedBecomes [] (if m.mark = none then [.message id] else []) s (s.owing id kind) := by
  have messages := State.owing_messages found kind
  have stage := State.owedStage_of_lists (t := s.owing id kind) (s := s.mapMessage id (Message.owing kind))
    (by rw [messages]; rfl) (by rw [messages]; rfl)
  refine ⟨?_, (s.only_owing id kind).keep .arbiter (by decide), fun i => ?_⟩
  · rw [messages]
    simp
  · rw [stage, if_neg List.not_mem_nil]
    by_cases own : i = .message id
    · subst own
      rw [State.mapMessage_owedStage (f := Message.owing kind) (fun _ => rfl) found, State.owedStage_stored found]
      change some (ReceiptMark.owe kind m.mark).stage = _
      rw [ReceiptMark.owe_stage]
      cases m.mark <;> simp
    · rw [State.mapMessage_owedStage_other (f := Message.owing kind) (fun _ => rfl) own, if_neg]
      split <;> simp [own]

end

end Sys2Proof.Machine
end

section
/-! PROOFS. A stored message is recalled, read and answered (R85, R90 to R93). -/

namespace Sys2Proof.Machine

variable {s t u : State} {id : Nat} {m : Message} {as bs : List Message} {f : Message → Message} {kind : ReceiptKind}
  {gone joined : List OwedItem}

/-! ## One message of a list with distinct ids -/

theorem apart_of_distinct (distinct : ((as ++ m :: bs).map Message.id).Nodup) : ∀ x ∈ as ++ bs, x.id ≠ m.id := by
  rw [List.map_append, List.map_cons, List.nodup_middle, List.nodup_cons, ← List.map_append] at distinct
  exact fun x hx same => distinct.1 (same ▸ List.mem_map_of_mem hx)

theorem map_changeAt (apart : ∀ x ∈ as ++ bs, x.id ≠ m.id) :
    (as ++ m :: bs).map (Message.changeAt m.id f) = as ++ f m :: bs := by
  have same : ∀ l : List Message, (∀ x ∈ l, x ∈ as ++ bs) → l.map (Message.changeAt m.id f) = l := fun l sub =>
    (List.map_congr_left fun x hx => Message.changeAt_of_ne (apart x (sub x hx))).trans (List.map_id l)
  rw [List.map_append, List.map_cons, same as (by simp +contextual), same bs (by simp +contextual), Message.changeAt_self rfl]

theorem filter_apart (apart : ∀ x ∈ as ++ bs, x.id ≠ m.id) :
    ((as ++ m :: bs).filter fun x => x.id ≠ m.id) = as ++ bs := by
  have kept := List.filter_eq_self.mpr fun x hx => decide_eq_true (apart x hx)
  rw [List.filter_append] at kept
  rw [List.filter_append, List.filter_cons_of_neg (by simp), kept]

theorem State.storedMessage_of_parts (parts : s.messages.list = as ++ m :: bs) (apart : ∀ x ∈ as ++ bs, x.id ≠ m.id) :
    s.storedMessage m.id = some m := by
  have before : as.find? (fun x => x.id = m.id) = none :=
    List.find?_eq_none.mpr fun x hx => by simpa using apart x (List.mem_append_left _ hx)
  rw [State.storedMessage, parts, List.find?_append, before]
  simp

/-! ## A receipt becomes owed and is placed -/

theorem State.unplaced_congr (h : t.messages = u.messages) : t.unplaced = u.unplaced :=
  congrArg (fun x : Messages => x.list.map Message.unplaced) h

theorem ReceiptsOnly.congr (h : ReceiptsOnly s u) (messages : t.messages = u.messages) : ReceiptsOnly s t := by
  unfold ReceiptsOnly at h ⊢
  rw [messages]
  exact h

theorem RestagedOnly.receiptsOnly (h : RestagedOnly u t)
    (messages : u.messages = { s.messages with list := u.messages.list, owed := u.messages.owed }) : ReceiptsOnly s t :=
  ⟨by rw [h.messages, messages], by rw [h.refusal, messages]⟩

theorem State.owing_mainRuns (id : Nat) (kind : ReceiptKind) : (s.owing id kind).mainRuns = s.mainRuns :=
  (s.only_owing id kind).mainRuns_eq (by decide)

theorem State.oweReceipt_follow (found : u.storedMessage id = some m) (runs : u.mainRuns = true)
    (before : OwedBecomes [] [] s u) :
    ReceiptsFollow [] (if m.mark = none then [.message id] else []) s (u.oweReceipt id kind) :=
  (before.trans (State.owing_owes found kind) (by simp)).follow ((State.owing_mainRuns id kind).trans runs)

theorem State.oweReceipt_receiptsOnly (found : s.storedMessage id = some m) (kind : ReceiptKind) :
    ReceiptsOnly s (s.oweReceipt id kind) :=
  (State.placeReceipts_restaged (s.owing id kind)).receiptsOnly (by rw [State.owing_messages found])

theorem State.oweReceipt_unplaced (parts : s.messages.list = as ++ m :: bs) (apart : ∀ x ∈ as ++ bs, x.id ≠ m.id)
    (kind : ReceiptKind) : (s.oweReceipt m.id kind).unplaced
      = as.map Message.unplaced ++ (m.owing kind).unplaced :: bs.map Message.unplaced := by
  have messages := State.owing_messages (State.storedMessage_of_parts parts apart) kind
  rw [State.oweReceipt_eq, (State.placeReceipts_restaged _).unplaced, State.unplaced, messages, parts]
  exact (congrArg (List.map Message.unplaced) (map_changeAt apart)).trans List.map_append

/-! ## A stored message is dealt with (R90, R91) -/

theorem State.mapMessage_owes (ids : ∀ x, (f x).id = x.id) (marks : ∀ x, (f x).mark = x.mark) (id : Nat) (s : State) :
    OwedBecomes [] [] s (s.mapMessage id f) := by
  refine .of_same rfl rfl fun i => ?_
  by_cases own : i = .message id
  · subst own
    cases found : s.storedMessage id with
    | none =>
      rw [State.owedStage_missing found, State.owedStage_missing]
      rw [State.mapMessage_storedMessage ids, found]
      rfl
    | some m => rw [State.mapMessage_owedStage ids found, marks, State.owedStage_stored found]
  · exact State.mapMessage_owedStage_other ids own

/-- A message is changed in place, and a receipt becomes owed for it. -/
theorem State.dealtWith (runs : s.mainRuns = true) (ids : ∀ x, (f x).id = x.id) (marks : ∀ x, (f x).mark = x.mark)
    (parts : s.messages.list = as ++ m :: bs) (apart : ∀ x ∈ as ++ bs, x.id ≠ m.id)
    (owed : t = (s.mapMessage m.id f).oweReceipt m.id kind) :
    t.unplaced = as.map Message.unplaced ++ ((f m).owing kind).unplaced :: bs.map Message.unplaced
      ∧ ReceiptsOnly s t ∧ ReceiptsFollow [] (if m.mark = none then [.message m.id] else []) s t := by
  subst owed
  have changed : (s.mapMessage m.id f).messages.list = as ++ f m :: bs := by
    rw [State.mapMessage_list, parts, map_changeAt apart]
  have apart' : ∀ x ∈ as ++ bs, x.id ≠ (f m).id := fun x hx => (ids m).symm ▸ apart x hx
  have found := State.storedMessage_of_parts changed apart'
  have unplaced := State.oweReceipt_unplaced changed apart' kind
  rw [ids] at found unplaced
  have only := State.oweReceipt_receiptsOnly found kind
  have follow := State.oweReceipt_follow (kind := kind) found
    (((State.only_mapMessage m.id f s).mainRuns_eq (by decide)).trans runs) (State.mapMessage_owes ids marks m.id s)
  rw [marks] at follow
  exact ⟨unplaced, only, follow⟩

/-! ## MESSAGE_RECALL (R92) -/

section
variable {hdr : AirHeader} {payload : List Byte}

theorem exec_messageRecall (h : s.admits .messageRecall hdr payload = true) (parsed : parseId payload = .ok id) :
    exec (.messageRecall hdr payload) s = .next (s.routedFrom ((s.withRecord none).recallMessage id)) :=
  done_handed State.recallMessage h parsed

theorem State.routedFrom_follow (h : ReceiptsFollow gone joined s u) : ReceiptsFollow gone joined s (s.routedFrom u) :=
  h.congr (s.routedFrom_keep u .messages) (s.routedFrom_keep u .arbiter)

end

/-- A recalled message has left the store, and what waits is not yet placed. -/
def State.recalled (s : State) (m : Message) : State :=
  if m.state = .unread then (s.removeMessage m.id).raise .msgRecalled else s.removeMessage m.id

theorem State.recallMessage_stored (found : s.storedMessage m.id = some m) :
    s.recallMessage m.id = (s.recalled m).placeReceipts := by
  rw [State.recallMessage, found]
  rfl

theorem State.only_recalled (s : State) (m : Message) : OnlyChanges [.events] (s.removeMessage m.id) (s.recalled m) := by
  unfold State.recalled
  split
  · exact State.only_raise _ _
  · exact .refl _

theorem State.removeMessage_mainRuns (id : Nat) : (s.removeMessage id).mainRuns = s.mainRuns :=
  (s.only_removeMessage id).mainRuns_eq (by decide)

theorem State.recalled_owes (s : State) (m : Message) : OwedBecomes [.message m.id] [] s (s.recalled m) := by
  have only := s.only_recalled m
  exact (s.removeMessage_owes m.id).trans (.of_messages (only.keep .messages (by decide)) (only.keep .arbiter (by decide)))
    nofun

theorem State.recalled_messages (s : State) (m : Message) : (s.recalled m).messages = { s.messages with
    list := s.messages.list.filter fun x => x.id ≠ m.id
    owed := s.messages.owed.filter fun i => i ≠ .message m.id } :=
  ((s.only_recalled m).keep .messages (by decide)).trans (s.removeMessage_messages m.id)

theorem State.recalled_raised (runs : s.mainRuns = true) (unread : m.state = .unread) :
    Raised [.msgRecalled] s (s.recalled m) := by
  rw [State.recalled, if_pos unread]
  exact (State.raise_raised ((State.removeMessage_mainRuns m.id).trans runs) _).from_same
    ((s.only_removeMessage m.id).keep .events (by decide))

theorem State.recalled_quiet (read : m.state ≠ .unread) : (s.recalled m).events = s.events := by
  rw [State.recalled, if_neg read]
  exact (s.only_removeMessage m.id).keep .events (by decide)

theorem State.recalled_mainRuns : (s.recalled m).mainRuns = s.mainRuns :=
  ((s.only_recalled m).mainRuns_eq (by decide)).trans (State.removeMessage_mainRuns m.id)

theorem State.placeReceipts_events : u.placeReceipts.events = u.events := u.only_placeReceipts.keep .events (by decide)

theorem State.recallMessage_refused {r : RefusalOwed} (missing : ∀ x ∈ s.messages.list, x.id ≠ id)
    (held : s.messages.refusal = some r) (own : r.id = id) : s.recallMessage id = s.endRefusal.placeReceipts := by
  rw [State.recallMessage, State.storedMessage_none.mpr missing, held]
  exact if_pos (by simpa using own)

theorem State.recallMessage_ignored (missing : ∀ x ∈ s.messages.list, x.id ≠ id)
    (other : ∀ r, s.messages.refusal = some r → r.id ≠ id) : s.recallMessage id = s := by
  rw [State.recallMessage, State.storedMessage_none.mpr missing]
  refine if_neg ?_
  cases held : s.messages.refusal with
  | none => simp
  | some r => simpa using other r held

theorem State.endRefusal_mainRuns : s.endRefusal.mainRuns = s.mainRuns := s.only_endRefusal.mainRuns_eq (by decide)

/-- With the refused id recalled, the refusal-owed record is gone. -/
theorem State.endRefusal_placed (placed : t.messages = s.endRefusal.placeReceipts.messages) :
    t.messages.refusal = none ∧ t.unplaced = s.unplaced
      ∧ t.messages = { s.messages with list := t.messages.list, owed := t.messages.owed, refusal := none } := by
  have restaged := State.placeReceipts_restaged s.endRefusal
  have ended := s.endRefusal_messages
  have gone : t.messages.refusal = none := by
    have same := restaged.refusal
    rw [ended] at same
    rw [placed]
    exact Option.map_eq_none_iff.mp same
  refine ⟨gone, ?_, ?_⟩
  · rw [State.unplaced_congr placed, restaged.unplaced, State.unplaced, ended]
    rfl
  · have all := placed.trans restaged.messages
    rw [← placed, gone, ended] at all
    rw [all]

section
variable (parts : s.messages.list = as ++ m :: bs) (apart : ∀ x ∈ as ++ bs, x.id ≠ m.id)
include parts apart

theorem State.recalled_unplaced :
    (s.recalled m).placeReceipts.unplaced = as.map Message.unplaced ++ bs.map Message.unplaced := by
  rw [(State.placeReceipts_restaged _).unplaced, State.unplaced, State.recalled_messages, parts]
  exact (congrArg (List.map Message.unplaced) (filter_apart apart)).trans List.map_append

/-- MESSAGE_RECALL of a stored message, as the Message Store takes it. -/
theorem State.recallMessage_removes (runs : s.mainRuns = true) (taken : t = s.recallMessage m.id) :
    t.unplaced = as.map Message.unplaced ++ bs.map Message.unplaced
      ∧ (m.state = .unread → Raised [.msgRecalled] s t) ∧ (m.state ≠ .unread → t.events = s.events)
      ∧ ReceiptsOnly s t ∧ ReceiptsFollow [.message m.id] [] s t := by
  rw [State.recallMessage_stored (State.storedMessage_of_parts parts apart)] at taken
  subst taken
  refine ⟨State.recalled_unplaced parts apart, fun unread => ?_, fun read => ?_, ?_, ?_⟩
  · exact (State.recalled_raised runs unread).kept State.placeReceipts_events
  · exact State.placeReceipts_events.trans (State.recalled_quiet read)
  · exact (State.placeReceipts_restaged (s.recalled m)).receiptsOnly (by rw [State.recalled_messages])
  · exact (s.recalled_owes m).follow (State.recalled_mainRuns.trans runs)

end

theorem messageRecall_takes {hdr : AirHeader} {payload : List Byte} (h : s.admits .messageRecall hdr payload = true)
    (parsed : parseId payload = .ok id) : ∃ t, exec (.messageRecall hdr payload) s = .next t
       ∧ (∀ as m bs, (s.messages.list.map Message.id).Nodup → s.messages.list = as ++ m :: bs → m.id = id →
           Routed [.messages, .arbiter, .events] s t
           ∧ t.unplaced = as.map Message.unplaced ++ bs.map Message.unplaced
           ∧ (m.state = .unread → Raised [.msgRecalled] s t) ∧ (m.state ≠ .unread → t.events = s.events)
           ∧ ReceiptsOnly s t ∧ ReceiptsFollow [.message id] [] s t)
       ∧ ((∀ m ∈ s.messages.list, m.id ≠ id) →
           (∀ r, s.messages.refusal = some r → r.id = id → Routed [.messages, .arbiter] s t
             ∧ t.messages.refusal = none ∧ t.unplaced = s.unplaced
             ∧ t.messages = { s.messages with list := t.messages.list, owed := t.messages.owed, refusal := none }
             ∧ ReceiptsFollow [.refusal] [] s t)
           ∧ ((∀ r, s.messages.refusal = some r → r.id ≠ id) → Routed [] s t)) := by
  have runs : (s.withRecord none).mainRuns = true := State.admits_mainRuns (s := s) h
  refine ⟨_, exec_messageRecall h parsed, fun as m bs distinct parts own => ?_, fun missing => ⟨fun r held own => ?_,
    fun other => ?_⟩⟩
  · subst own
    obtain ⟨unplaced, raised, quiet, only, follow⟩ := State.recallMessage_removes (s := s.withRecord none) parts
      (apart_of_distinct (parts ▸ distinct)) runs rfl
    have messages := s.routedFrom_keep ((s.withRecord none).recallMessage m.id) .messages
    exact ⟨State.routedFrom_main (State.only_recallMessage _ _) (by decide) (by decide),
      (State.unplaced_congr messages).trans unplaced, fun unread => State.routedFrom_raised (raised unread),
      fun read => (s.routedFrom_keep _ .events).trans (quiet read), only.congr messages, State.routedFrom_follow follow⟩
  · rw [State.recallMessage_refused (s := s.withRecord none) missing held own]
    obtain ⟨gone, unplaced, messages⟩ := State.endRefusal_placed (s := s.withRecord none) (s.routedFrom_keep _ .messages)
    exact ⟨State.routedFrom_main (.placeReceipts (.endRefusal (.refl _) (by decide)) (by decide)) (by decide) (by decide),
      gone, unplaced, messages,
      State.routedFrom_follow ((State.endRefusal_owes _).follow (State.endRefusal_mainRuns.trans runs))⟩
  · rw [State.recallMessage_ignored (s := s.withRecord none) missing other]
    exact s.routedFrom_idle

/-! ## MSG_READ and MSG_ANSWER (R90, R91) -/

/-- A message that the driver has read. -/
def Message.toRead (x : Message) : Message := { x with state := .read }

/-- A message that the driver has answered. -/
def Message.toAnswered (code : Nat) (x : Message) : Message := { x with state := .answered, answer := some code }

theorem State.readByDriver_missing (missing : ∀ x ∈ s.messages.list, x.id ≠ id) :
    s.readByDriver id = s.refused .notFound := by
  rw [State.readByDriver, State.storedMessage_none.mpr missing]

theorem State.readByDriver_again (found : s.storedMessage id = some m) (read : m.state ≠ .unread) :
    s.readByDriver id = s.answered [] := by
  rw [State.readByDriver, found]
  exact if_neg read

theorem State.readByDriver_wanted (found : s.storedMessage m.id = some m) (unread : m.state = .unread)
    (wanted : m.wanted = true) :
    s.readByDriver m.id = ((s.mapMessage m.id Message.toRead).oweReceipt m.id .read).answered [] := by
  rw [State.readByDriver, found]
  refine (if_pos unread).trans ?_
  rw [State.markRead, if_pos wanted]
  rfl

theorem State.readByDriver_unwanted (found : s.storedMessage m.id = some m) (unread : m.state = .unread)
    (unwanted : m.wanted = false) : s.readByDriver m.id = (s.mapMessage m.id Message.toRead).answered [] := by
  rw [State.readByDriver, found]
  refine (if_pos unread).trans ?_
  rw [State.markRead, unwanted]
  rfl

theorem State.answerByDriver_missing {code : Nat} (missing : ∀ x ∈ s.messages.list, x.id ≠ id) :
    s.answerByDriver (id, code) = s.refused .notFound := by
  rw [State.answerByDriver, State.storedMessage_none.mpr missing]

section
variable {code : Nat} (found : s.storedMessage m.id = some m)
include found

theorem State.answerByDriver_again (answered : m.state = .answered) :
    s.answerByDriver (m.id, code) = s.refused .refusedState := by
  rw [State.answerByDriver, found]
  exact if_pos answered

theorem State.answerByDriver_noOption (unanswered : m.state ≠ .answered) (other : code ∉ m.options) :
    s.answerByDriver (m.id, code) = s.refused .refusedRange := by
  rw [State.answerByDriver, found]
  exact (if_neg unanswered).trans (if_neg (by simpa using other))

theorem State.answerByDriver_ok (unanswered : m.state ≠ .answered) (option : code ∈ m.options) : s.answerByDriver (m.id, code)
    = ((s.mapMessage m.id (Message.toAnswered code)).oweReceipt m.id (.answer code)).answered [] := by
  rw [State.answerByDriver, found]
  exact (if_neg unanswered).trans (if_pos (by simpa using option))

end

theorem State.only_dealtWith (f : Message → Message) (id : Nat) (kind : ReceiptKind) (s : State) :
    OnlyChanges [.messages, .arbiter] s ((s.mapMessage id f).oweReceipt id kind) :=
  .oweReceipt _ _ (.mapMessage _ _ (.refl s) (by decide)) (by decide)

theorem State.answeredFrom_messages {g tag : Byte} {p : List Byte} : (s.answeredFrom u g tag p).messages = u.messages := rfl

/-- The answer adds nothing to what a message dealt with leaves. -/
theorem State.answeredFrom_follow {g tag : Byte} {p : List Byte} (h : ReceiptsFollow gone joined s u) :
    ReceiptsFollow gone joined s (s.answeredFrom u g tag p) :=
  h.congr State.answeredFrom_messages (State.answeredFrom_arbiter ..)

theorem msgRead_takes (tag a b : Byte) (runs : s.mainRuns = true) : ∃ t, exec (.msgRead tag [a, b]) s = .next t
    ∧ ((∀ m ∈ s.messages.list, m.id ≠ beNat [a, b]) →
        OnlyReplied s t { kind := 0x94#8, tag, code := .notFound, payload := [] })
    ∧ ∀ as m bs, (s.messages.list.map Message.id).Nodup → s.messages.list = as ++ m :: bs → m.id = beNat [a, b] →
        (m.state ≠ .unread → OnlyReplied s t { kind := 0x94#8, tag, code := .ok, payload := [] })
        ∧ (m.state = .unread → Answered [.messages, .arbiter] s t { kind := 0x94#8, tag, code := .ok, payload := [] }
            ∧ t.unplaced = as.map Message.unplaced ++ Message.unplaced { m with
                state := .read, mark := if m.wanted then some (ReceiptMark.owe .read m.mark) else m.mark }
                  :: bs.map Message.unplaced
            ∧ (m.wanted = true → ReceiptsOnly s t
                ∧ ReceiptsFollow [] (if m.mark = none then [.message m.id] else []) s t)
            ∧ (m.wanted = false → t.arbiter = s.arbiter
                ∧ t.messages = { s.messages with list := as ++ { m with state := .read } :: bs })) := by
  obtain ⟨t, ok, refused, answered⟩ := serve_replied (kind := 0x94#8) (tag := tag) (owner := State.readByDriver)
    (x := beNat [a, b]) runs
  refine ⟨t, ok, fun missing => refused _ (State.readByDriver_missing missing), fun as m bs distinct parts own => ?_⟩
  rw [← own] at answered
  have apart := apart_of_distinct (parts ▸ distinct)
  have found := State.storedMessage_of_parts parts apart
  refine ⟨fun read => ?_, fun unread => ?_⟩
  · rw [answered _ _ (State.readByDriver_again found read)]
    exact s.putReply_replied _ _
  · rcases Bool.eq_false_or_eq_true m.wanted with wanted | unwanted
    · obtain ⟨unplaced, only, follow⟩ := State.dealtWith (f := Message.toRead) (kind := .read) runs (fun _ => rfl)
        (fun _ => rfl) parts apart rfl
      rw [answered _ _ (State.readByDriver_wanted found unread wanted), if_pos wanted]
      exact ⟨State.answeredFrom_main (s.only_dealtWith _ _ _) (by decide) (by decide),
        (State.unplaced_congr State.answeredFrom_messages).trans unplaced,
        fun _ => ⟨only.congr State.answeredFrom_messages, State.answeredFrom_follow follow⟩,
        fun unwanted => absurd (wanted.symm.trans unwanted) (by decide)⟩
    · have list := (State.mapMessage_list (s := s) (id := m.id) (f := Message.toRead)).trans
        ((congrArg _ parts).trans (map_changeAt apart))
      rw [answered _ _ (State.readByDriver_unwanted found unread unwanted), if_neg (by simp [unwanted])]
      refine ⟨State.answeredFrom_main (.mapMessage _ _ (.refl s) (by decide)) (by decide) (by decide), ?_,
        fun wanted => absurd (unwanted.symm.trans wanted) (by decide),
        fun _ => ⟨State.answeredFrom_arbiter .., State.answeredFrom_messages.trans
          (congrArg (fun l => { s.messages with list := l }) list)⟩⟩
      refine (State.unplaced_congr State.answeredFrom_messages).trans ?_
      exact (congrArg (List.map Message.unplaced) list).trans List.map_append

theorem msgAnswer_takes (tag a b c : Byte) (runs : s.mainRuns = true) (coded : c ≠ 0#8) :
    ∃ t, exec (.msgAnswer tag [a, b, c]) s = .next t
    ∧ ((∀ m ∈ s.messages.list, m.id ≠ beNat [a, b]) →
        OnlyReplied s t { kind := 0x95#8, tag, code := .notFound, payload := [] })
    ∧ ∀ as m bs, (s.messages.list.map Message.id).Nodup → s.messages.list = as ++ m :: bs → m.id = beNat [a, b] →
        (m.state = .answered → OnlyReplied s t { kind := 0x95#8, tag, code := .refusedState, payload := [] })
        ∧ (m.state ≠ .answered → c.toNat ∉ m.options →
            OnlyReplied s t { kind := 0x95#8, tag, code := .refusedRange, payload := [] })
        ∧ (m.state ≠ .answered → c.toNat ∈ m.options →
            Answered [.messages, .arbiter] s t { kind := 0x95#8, tag, code := .ok, payload := [] }
            ∧ t.unplaced = as.map Message.unplaced ++ Message.unplaced { m with
                state := .answered, answer := some c.toNat, mark := some (ReceiptMark.owe (.answer c.toNat) m.mark) }
                  :: bs.map Message.unplaced
            ∧ ReceiptsOnly s t ∧ ReceiptsFollow [] (if m.mark = none then [.message m.id] else []) s t) := by
  have args : argAnswer [a, b, c] = some (beNat [a, b], c.toNat) := if_neg (by simpa [BitVec.toNat_eq] using coded)
  obtain ⟨t, ok, refused, answered⟩ := serve_replied (kind := 0x95#8) (tag := tag) (owner := State.answerByDriver)
    (x := (beNat [a, b], c.toNat)) runs
  rw [← args] at ok
  refine ⟨t, ok, fun missing => refused _ (State.answerByDriver_missing missing), fun as m bs distinct parts own => ?_⟩
  rw [← own] at refused answered
  have apart := apart_of_distinct (parts ▸ distinct)
  have found := State.storedMessage_of_parts parts apart
  refine ⟨fun again => refused _ (State.answerByDriver_again found again),
    fun unanswered other => refused _ (State.answerByDriver_noOption found unanswered other), fun unanswered option => ?_⟩
  obtain ⟨unplaced, only, follow⟩ := State.dealtWith (f := Message.toAnswered c.toNat) (kind := .answer c.toNat) runs
    (fun _ => rfl) (fun _ => rfl) parts apart rfl
  rw [answered _ _ (State.answerByDriver_ok found unanswered option)]
  exact ⟨State.answeredFrom_main (s.only_dealtWith _ _ _) (by decide) (by decide),
    (State.unplaced_congr State.answeredFrom_messages).trans unplaced, only.congr State.answeredFrom_messages,
    State.answeredFrom_follow follow⟩

/-! ## The mark (R85) -/

theorem ReceiptMark.owe_placed {k : ReceiptMark} (waiting : k.stage ≠ .inFlight) :
    ReceiptMark.owe kind (some k) = { k with kind } := by
  cases stage : k.stage with
  | inFlight => exact absurd stage waiting
  | owed | queued => simp only [ReceiptMark.owe, stage]

theorem ReceiptMark.owe_inFlight {k : ReceiptMark} (flying : k.stage = .inFlight) :
    ReceiptMark.owe kind (some k) = { k with next := some kind } := by
  simp only [ReceiptMark.owe, flying]

/-- Settles O29: what each operation leaves to be placed is stated by `OwedBecomes`, and placing follows. -/
theorem storedMessageDealtWith : Obligations.StoredMessageDealtWith :=
  ⟨fun _ _ _ _ admitted parsed => messageRecall_takes admitted parsed, fun _ tag a b runs => msgRead_takes tag a b runs,
    fun _ tag a b c runs coded => msgAnswer_takes tag a b c runs coded,
    fun _ _ => ⟨rfl, ReceiptMark.owe_inFlight, ReceiptMark.owe_placed⟩⟩

end Sys2Proof.Machine
end

section
/-! PROOFS. A MESSAGE arrives: the room it needs, the removals made for it, and how it is stored or refused (R86 to R89). -/

namespace Sys2Proof.Machine

variable {s t u v : State} {n id : Nat} {urgent : Bool} {ms : List Message} {gone order ids : List Nat} {f : MessageFields}

/-! ## Room (R87) -/

theorem hasRoom_iff : hasRoom ms n = true ↔ Fits n ms := by
  simp only [hasRoom, Bool.and_eq_true, decide_eq_true_eq, Config.messageSize, Config.poolSize]
  rfl

theorem removable_eq (urgent : Bool) (ms : List Message) : removable urgent ms = removalOrder urgent ms := by
  have seen : ∀ m : Message, decide (m.state ≠ .unread) = (m.state = .read || m.state = .answered) := fun m => by
    cases m.state <;> rfl
  simp only [removable, removalOrder, seen]

theorem without_nil (ms : List Message) : without [] ms = ms := by simp [without]

theorem without_cons (id : Nat) (gone : List Nat) (ms : List Message) :
    without (id :: gone) ms = without gone (ms.filter fun m => m.id ≠ id) := by
  simp only [without, List.filter_filter, List.mem_cons, not_or, Bool.decide_and, Bool.and_comm]

theorem foldl_filter_eq_without (gone : List Nat) : ∀ ms : List Message,
    gone.foldl (fun ms id => ms.filter fun m => m.id ≠ id) ms = without gone ms := by
  induction gone with
  | nil => exact fun ms => (without_nil ms).symm
  | cons id gone ih => exact fun ms => (ih _).trans (without_cons id gone ms).symm

/-- The search finds the shortest run of removals that makes room. -/
theorem roomFor_shortest (order : List Nat) : ∀ (ms : List Message) (gone : List Nat), gone <+: order →
    Fits n (without gone ms) → (∀ g, g <+: gone → g ≠ gone → ¬ Fits n (without g ms)) → roomFor n ms order = some gone := by
  induction order with
  | nil =>
    intro ms gone first fits _
    obtain rfl := List.prefix_nil.mp first
    rw [without_nil] at fits
    exact if_pos (hasRoom_iff.mpr fits)
  | cons id order ih =>
    intro ms gone first fits shortest
    cases gone with
    | nil =>
      rw [without_nil] at fits
      exact if_pos (hasRoom_iff.mpr fits)
    | cons x gone =>
      obtain ⟨rfl, later⟩ := List.cons_prefix_cons.mp first
      have full := shortest [] List.nil_prefix nofun
      rw [without_nil] at full
      rw [without_cons] at fits
      have rest := ih (ms.filter fun m => m.id ≠ x) gone later fits fun g before other => by
        rw [← without_cons]
        exact shortest (x :: g) (List.cons_prefix_cons.mpr ⟨rfl, before⟩) fun same => other (List.cons.inj same).2
      rw [roomFor, if_neg fun room => full (hasRoom_iff.mp room), rest]
      rfl

theorem roomFor_gone (h : GoneForRoom urgent n ms gone) : roomFor n ms (removable urgent ms) = some gone := by
  obtain ⟨first, fits, shortest⟩ := h
  exact roomFor_shortest _ ms gone (removable_eq urgent ms ▸ first) fits shortest

theorem roomFor_none (h : ∀ gone, gone <+: removalOrder urgent ms → ¬ Fits n (without gone ms)) :
    roomFor n ms (removable urgent ms) = none := by
  cases found : roomFor n ms (removable urgent ms) with
  | none => rfl
  | some ids =>
    obtain ⟨⟨rest, order⟩, room⟩ := roomFor_spec _ _ _ _ found
    rw [foldl_filter_eq_without] at room
    exact absurd (hasRoom_iff.mp room) (h ids ⟨rest, by rw [← order, removable_eq]⟩)

/-- What may be removed is stored. -/
theorem removalOrder_stored (mem : id ∈ removalOrder urgent ms) : ∃ m ∈ ms, m.id = id := by
  have sub : (removalOrder urgent ms).Subset (ms.map Message.id) := by
    unfold removalOrder
    refine List.append_subset.mpr ⟨List.map_subset _ (List.filter_subset_self _), ?_⟩
    split
    · exact List.map_subset _ (List.filter_subset_self _)
    · exact List.nil_subset _
  simpa using sub mem

/-- No message is twice in the removal order, as no read or answered one is unread. -/
theorem removalOrder_nodup (distinct : (ms.map Message.id).Nodup) : (removalOrder urgent ms).Nodup := by
  have part : ∀ p : Message → Bool, ((ms.filter p).map Message.id).Nodup := fun p =>
    (List.filter_sublist.map Message.id).nodup distinct
  unfold removalOrder
  cases urgent with
  | false => simpa using part _
  | true =>
    refine List.nodup_append.mpr ⟨part _, part _, fun i hi j hj same => ?_⟩
    obtain ⟨x, hx, rfl⟩ := List.mem_map.mp hi
    obtain ⟨y, hy, rfl⟩ := List.mem_map.mp hj
    obtain ⟨hx, seen⟩ := List.mem_filter.mp hx
    obtain ⟨hy, unseen⟩ := List.mem_filter.mp hy
    obtain rfl := List.inj_on_of_nodup_map distinct hx hy same
    revert seen unseen
    cases x.state <;> simp

/-! ## Removals for room (R87) -/

/-- The store with some messages removed for room, one after another. -/
def State.roomMade (s : State) (ids : List Nat) : State := ids.foldl (fun t id => t.removeForRoom id) s

theorem State.roomMade_cons (id : Nat) (ids : List Nat) : s.roomMade (id :: ids) = (s.removeForRoom id).roomMade ids := rfl

theorem State.removeForRoom_messages (id : Nat) (s : State) : (s.removeForRoom id).messages = { s.messages with
    list := s.messages.list.filter fun m => m.id ≠ id
    owed := s.messages.owed.filter fun i => i ≠ .message id
    removals := min 255 (s.messages.removals + 1) } := by
  change { (s.removeMessage id).messages with removals := min 255 ((s.removeMessage id).messages.removals + 1) } = _
  rw [s.removeMessage_messages id]

theorem State.removeForRoom_owes (id : Nat) (s : State) : OwedBecomes [.message id] [] s (s.removeForRoom id) := by
  have counted : OwedBecomes [] [] (s.removeMessage id) (s.removeForRoom id) := .of_same rfl rfl fun i =>
    State.owedStage_of_lists rfl rfl i
  exact (s.removeMessage_owes id).trans counted nofun

theorem State.only_roomMade (ids : List Nat) (s : State) : OnlyChanges [.messages, .arbiter] s (s.roomMade ids) :=
  State.only_removeAll ids s

theorem State.roomMade_messages (ids : List Nat) : ∀ s : State, (s.roomMade ids).messages = { s.messages with
    list := without ids s.messages.list
    owed := (s.roomMade ids).messages.owed
    removals := if ids = [] then s.messages.removals else min 255 (s.messages.removals + ids.length) } := by
  induction ids with
  | nil =>
    intro s
    rw [without_nil]
    rfl
  | cons id ids ih =>
    intro s
    have counts : (if ids = [] then min 255 (s.messages.removals + 1)
        else min 255 (min 255 (s.messages.removals + 1) + ids.length))
          = min 255 (s.messages.removals + (id :: ids).length) := by
      rw [List.length_cons]
      split
      · next none => rw [none, List.length_nil]
      · omega
    rw [State.roomMade_cons, ih, State.removeForRoom_messages, without_cons, if_neg (List.cons_ne_nil id ids), ← counts]

theorem State.roomMade_owes (ids : List Nat) : ∀ s : State, ids.Nodup →
    OwedBecomes (ids.map .message) [] s (s.roomMade ids) := by
  induction ids with
  | nil => exact fun s _ => .of_messages rfl rfl
  | cons id ids ih =>
    intro s nodup
    obtain ⟨fresh, nodup⟩ := List.nodup_cons.mp nodup
    refine (s.removeForRoom_owes id).trans (ih _ nodup) fun i hi same => ?_
    rw [List.mem_singleton.mp same, List.append_nil] at hi
    exact fresh (by simpa using hi)

/-! ## The arrival is stored (R89) -/

/-- The message that a frame's fields make, before any receipt is owed for it. -/
def MessageFields.message (f : MessageFields) : Message :=
  { id := f.id, urgent := f.urgent, wanted := f.wanted, options := f.options, text := f.text, state := .unread
    answer := none, mark := none, lastSent := none }

theorem State.only_stored (s : State) (f : MessageFields) : OnlyChanges [.messages, .events] s (s.stored f) :=
  .raise _ (.withList _ (.refl s) (by decide)) (by decide)

theorem State.only_accepted (s : State) (f : MessageFields) :
    OnlyChanges [.messages, .arbiter] (s.stored f) (s.accepted f) := by
  unfold State.accepted
  split
  · exact State.only_endRefusal _
  · exact .refl _

theorem State.stored_eq : (s.stored f).messages = { s.messages with list := s.messages.list ++ [f.message] } :=
  State.stored_messages

theorem State.stored_refusal : (s.stored f).messages.refusal = s.messages.refusal := by rw [State.stored_eq]

/-- A message without a mark adds no receipt. -/
theorem State.stored_owes : OwedBecomes [] [] s (s.stored f) := by
  refine .of_same (by rw [State.stored_eq]) ((s.only_stored f).keep .arbiter (by decide)) fun i => ?_
  cases i with
  | refusal => exact congrArg (Option.map RefusalOwed.stage) State.stored_refusal
  | message id =>
    rw [State.owedStage, State.owedStage, State.storedMessage, State.stored_eq, List.find?_append]
    change (((s.storedMessage id).or _).bind _).map _ = _
    cases found : s.storedMessage id with
    | some m => rfl
    | none => by_cases own : f.id = id <;> simp [MessageFields.message, own]

theorem refusal_filter (held : Option RefusalOwed) (id : Nat) :
    (held.filter fun r => r.id ≠ id) = if held.any fun r => r.id = id then none else held := by
  cases held with
  | none => rfl
  | some r => by_cases own : r.id = id <;> simp [Option.filter, own]

theorem State.accepted_messages : (s.accepted f).messages = { s.messages with
    list := s.messages.list ++ [f.message]
    owed := (s.accepted f).messages.owed
    refusal := s.messages.refusal.filter fun r => r.id ≠ f.id } := by
  unfold State.accepted
  rw [State.stored_refusal, refusal_filter]
  split
  · rw [State.endRefusal_messages, State.stored_eq]
  · rw [State.stored_eq]

theorem State.accepted_owes :
    OwedBecomes (if s.messages.refusal.any fun r => r.id = f.id then [.refusal] else []) [] s (s.accepted f) := by
  have stored := State.stored_owes (s := s) (f := f)
  unfold State.accepted
  rw [State.stored_refusal]
  split
  · exact stored.trans (State.endRefusal_owes _) (by simp)
  · exact stored

/-- The arrival stands in the store and its receipt is owed where one is wanted; nothing has been placed yet. -/
def State.arrived (s : State) (f : MessageFields) : State :=
  if f.wanted then (s.accepted f).owing f.id .delivered else s.accepted f

theorem State.storeMessage_arrived : s.storeMessage f = (s.arrived f).placeReceipts := by
  rw [State.storeMessage_eq, State.arrived]
  split <;> rfl

section
variable (new : ∀ m ∈ s.messages.list, m.id ≠ f.id)
include new

theorem State.accepted_found : (s.accepted f).storedMessage f.id = some f.message :=
  State.storedMessage_of_parts (m := f.message) (bs := []) (congrArg Messages.list State.accepted_messages)
    (by simpa [MessageFields.message] using new)

theorem State.arrived_owes :
    OwedBecomes (if s.messages.refusal.any fun r => r.id = f.id then [.refusal] else [])
      (if f.wanted then [.message f.id] else []) s (s.arrived f) := by
  have accepted := State.accepted_owes (s := s) (f := f)
  by_cases wanted : f.wanted = true
  · rw [State.arrived, if_pos wanted, if_pos wanted]
    have whole := accepted.trans (State.owing_owes (State.accepted_found new) .delivered) (by
      intro i hi
      obtain rfl : i = .message f.id := by simpa [MessageFields.message] using hi
      split <;> simp)
    rwa [List.append_nil] at whole
  · rw [State.arrived, if_neg wanted, if_neg wanted]
    exact accepted

theorem State.arrived_messages : (s.arrived f).messages = { s.messages with
    list := s.messages.list ++ [{ f.message with
      mark := if f.wanted then some { kind := .delivered, stage := .owed, next := none } else none }]
    owed := (s.arrived f).messages.owed
    refusal := s.messages.refusal.filter fun r => r.id ≠ f.id } := by
  have accepted := State.accepted_messages (s := s) (f := f)
  by_cases wanted : f.wanted = true
  · have marked : (s.accepted f).messages.list.map (Message.changeAt f.id (Message.owing .delivered))
        = s.messages.list ++ [f.message.owing .delivered] := by
      rw [accepted]
      exact map_changeAt (m := f.message) (bs := []) (by simpa [MessageFields.message] using new)
    rw [State.arrived, if_pos wanted, if_pos wanted, State.owing_messages (State.accepted_found new), marked, accepted]
    rfl
  · rw [State.arrived, if_neg wanted, if_neg wanted]
    exact accepted

end

theorem State.only_arrived (s : State) (f : MessageFields) :
    OnlyChanges [.messages, .arbiter] (s.stored f) (s.arrived f) := by
  unfold State.arrived
  split
  · exact (s.only_accepted f).andThen ((State.only_owing _ _ _).mono (by decide))
  · exact s.only_accepted f

theorem State.arrived_raised (runs : s.mainRuns = true) :
    Raised [if f.urgent then .msgUrgent else .msgNew] s (s.arrived f) :=
  Raised.kept (State.raise_raised (s := s.withList (s.messages.list ++ [f.message])) runs _)
    ((s.only_arrived f).keep .events (by decide))

theorem State.arrived_mainRuns : (s.arrived f).mainRuns = s.mainRuns :=
  ((s.only_arrived f).mainRuns_eq (by decide)).trans ((s.only_stored f).mainRuns_eq (by decide))

/-! ## The arrival is refused (R88) -/

/-- The refusal-owed record once a message is refused. -/
def MessageFields.refused (f : MessageFields) (held : Option RefusalOwed) : RefusalOwed :=
  match held with
  | none => { id := f.id, stage := .owed, replaced := false }
  | some r => { r with id := f.id, replaced := r.replaced || decide (r.stage = .inFlight) }

/-- A refusal has become owed, and is not yet placed. -/
def State.refusing (s : State) (f : MessageFields) : State := s.withMessages { s.messages with
  owed := s.messages.owed ++ if s.messages.refusal = none then [.refusal] else []
  refusal := some (f.refused s.messages.refusal) }

theorem State.refuseMessage_unwanted (unwanted : f.wanted = false) : s.refuseMessage f = s :=
  if_pos (by rw [unwanted]; rfl)

theorem State.refuseMessage_wanted (wanted : f.wanted = true) : s.refuseMessage f = (s.refusing f).placeReceipts := by
  refine (if_neg (by rw [wanted]; decide)).trans (congrArg State.placeReceipts ?_)
  unfold State.refusing
  cases s.messages.refusal with
  | none => rfl
  | some r => simp [State.withRefusal, MessageFields.refused]

theorem State.refusing_owes :
    OwedBecomes [] (if s.messages.refusal = none then [.refusal] else []) s (s.refusing f) := by
  refine ⟨by simp [State.refusing], rfl, fun i => ?_⟩
  rw [if_neg List.not_mem_nil]
  cases i with
  | message id =>
    rw [if_neg (by split <;> simp)]
    rfl
  | refusal =>
    change some (f.refused s.messages.refusal).stage = if _ then _ else s.messages.refusal.map RefusalOwed.stage
    cases s.messages.refusal with
    | none => simp [MessageFields.refused]
    | some r => simp [MessageFields.refused]

end Sys2Proof.Machine
end

section
/-! PROOFS. MESSAGE: stored after the removals that room needs, refused, or a duplicate (R86 to R89, R93). -/

namespace Sys2Proof.Machine

variable {s t : State} {f : MessageFields} {gone : List Nat} {hdr : AirHeader} {payload : List Byte}

theorem exec_message (h : s.admits .message hdr payload = true) (parsed : parseMessage payload = .ok f) :
    exec (.message hdr payload) s = .next (s.routedFrom ((s.withRecord none).messageArrives f)) :=
  done_handed State.messageArrives h parsed

/-! ## A new message (R87 to R89) -/

section
variable (new : ∀ m ∈ s.messages.list, m.id ≠ f.id)
include new

theorem State.messageArrives_room
    (room : roomFor f.text.length s.messages.list (removable f.urgent s.messages.list) = some gone) :
    s.messageArrives f = ((s.roomMade gone).arrived f).placeReceipts := by
  rw [State.messageArrives, State.storedMessage_none.mpr new, ← State.storeMessage_arrived]
  dsimp only
  rw [room]
  rfl

theorem State.messageArrives_full
    (full : roomFor f.text.length s.messages.list (removable f.urgent s.messages.list) = none) :
    s.messageArrives f = s.refuseMessage f := by
  rw [State.messageArrives, State.storedMessage_none.mpr new]
  dsimp only
  rw [full]

/-- With some messages gone for room, the arrival is still new. -/
theorem State.roomMade_new (gone : List Nat) : ∀ m ∈ (s.roomMade gone).messages.list, m.id ≠ f.id := by
  rw [State.roomMade_messages]
  exact fun m hm => new m (List.mem_of_mem_filter hm)

theorem State.roomMade_arrived_owes (distinct : (s.messages.list.map Message.id).Nodup)
    (first : gone <+: removalOrder f.urgent s.messages.list) :
    OwedBecomes (gone.map .message ++ if s.messages.refusal.any fun r => r.id = f.id then [.refusal] else [])
      (if f.wanted then [.message f.id] else []) s ((s.roomMade gone).arrived f) := by
  have removed := State.roomMade_owes gone s (first.sublist.nodup (removalOrder_nodup distinct))
  have arrived := State.arrived_owes (State.roomMade_new new gone)
  rw [congrArg Messages.refusal (s.roomMade_messages gone)] at arrived
  refine removed.trans arrived fun i hi left => ?_
  obtain ⟨id, mem, rfl⟩ := List.mem_map.mp left
  obtain ⟨m, stored, own⟩ := removalOrder_stored (first.subset mem)
  obtain ⟨-, same⟩ : f.wanted = true ∧ id = f.id := by simpa using hi
  exact new m stored (own.trans same)

/-- The Message Store once a new message has found room, in every block that the frame's end leaves. -/
theorem State.arrival_stored (runs : s.mainRuns = true) (room : GoneForRoom f.urgent f.text.length s.messages.list gone)
    (messages : t.messages = (s.messageArrives f).messages) (arbiter : t.arbiter = (s.messageArrives f).arbiter)
    (events : t.events = (s.messageArrives f).events) :
    t.unplaced = (without gone s.messages.list).map Message.unplaced ++ [{ f.message with
        mark := if f.wanted then some { kind := .delivered, stage := .owed, next := none } else none }]
      ∧ t.messages.removals =
          (if gone = [] then s.messages.removals else min 255 (s.messages.removals + gone.length))
      ∧ t.messages.refusal.map (fun r => (r.id, r.replaced))
          = (s.messages.refusal.filter fun r => r.id ≠ f.id).map (fun r => (r.id, r.replaced))
      ∧ t.messages = { s.messages with
          list := t.messages.list, owed := t.messages.owed, refusal := t.messages.refusal
          removals := t.messages.removals }
      ∧ Raised [if f.urgent then .msgUrgent else .msgNew] s t
      ∧ ((s.messages.list.map Message.id).Nodup → ReceiptsFollow
          (gone.map .message ++ if s.messages.refusal.any fun r => r.id = f.id then [.refusal] else [])
          (if f.wanted then [.message f.id] else []) s t) := by
  rw [State.messageArrives_room new (roomFor_gone room)] at messages arbiter events
  have made := s.roomMade_messages gone
  have removed := s.only_roomMade gone
  have runs' : (s.roomMade gone).mainRuns = true := (removed.mainRuns_eq (by decide)).trans runs
  have arrived := State.arrived_messages (State.roomMade_new new gone)
  have restaged := State.placeReceipts_restaged ((s.roomMade gone).arrived f)
  have all := messages.trans restaged.messages
  rw [arrived, made] at all
  refine ⟨?_, ?_, ?_, ?_, ?_, fun distinct => ?_⟩
  · rw [State.unplaced_congr messages, restaged.unplaced, State.unplaced, arrived, made, List.map_append]
    refine congrArg (fun x => _ ++ [x]) ?_
    unfold Message.unplaced
    split <;> rfl
  · rw [all]
  · rw [messages, restaged.refusal, arrived, made]
  · rw [← messages] at all
    rw [all]
  · have raised := State.arrived_raised (f := f) runs'
    exact ((raised.from_same (removed.keep .events (by decide))).kept State.placeReceipts_events).kept events
  · have owes := State.roomMade_arrived_owes new distinct room.1
    exact (owes.follow (State.arrived_mainRuns.trans runs')).congr messages arbiter

/-- The Message Store once a new message has been refused. -/
theorem State.arrival_refused (runs : s.mainRuns = true)
    (full : ∀ gone, gone <+: removalOrder f.urgent s.messages.list → ¬ Fits f.text.length (without gone s.messages.list))
    (messages : t.messages = (s.messageArrives f).messages) (arbiter : t.arbiter = (s.messageArrives f).arbiter)
    (events : t.events = (s.messageArrives f).events) :
    t.unplaced = s.unplaced ∧ t.events = s.events ∧ t.messages.removals = s.messages.removals
      ∧ (f.wanted = false → t.messages = s.messages ∧ t.arbiter = s.arbiter)
      ∧ (f.wanted = true → ReceiptsFollow [] (if s.messages.refusal = none then [.refusal] else []) s t
          ∧ t.messages = { s.messages with
              list := t.messages.list, owed := t.messages.owed, refusal := t.messages.refusal }
          ∧ ∃ r, t.messages.refusal = some r ∧ r.id = f.id
          ∧ (s.messages.refusal = none → r.replaced = false)
          ∧ ∀ q, s.messages.refusal = some q → r.replaced = (q.replaced || decide (q.stage = .inFlight))) := by
  rw [State.messageArrives_full new (roomFor_none full)] at messages arbiter events
  have quiet := events.trans ((s.only_refuseMessage f).keep .events (by decide))
  rcases Bool.eq_false_or_eq_true f.wanted with wanted | unwanted
  · rw [State.refuseMessage_wanted wanted] at messages arbiter
    have restaged := State.placeReceipts_restaged (s.refusing f)
    have all := messages.trans restaged.messages
    rw [← messages] at all
    have follow := (State.refusing_owes (s := s) (f := f)).follow runs
    refine ⟨(State.unplaced_congr messages).trans restaged.unplaced, quiet, by rw [all]; rfl,
      fun unwanted => absurd (wanted.symm.trans unwanted) (by decide), fun _ => ⟨follow.congr messages arbiter, ?_, ?_⟩⟩
    · rw [all]
      rfl
    · have refusal := restaged.refusal
      rw [← messages] at refusal
      obtain ⟨r, held, same⟩ := Option.map_eq_some_iff.mp refusal
      obtain ⟨own, replaced⟩ := Prod.mk.inj same
      refine ⟨r, held, own.trans ?_, fun none => replaced.trans ?_, fun q before => replaced.trans ?_⟩
      · cases s.messages.refusal <;> rfl
      · rw [none]
        rfl
      · rw [before]
        rfl
  · rw [State.refuseMessage_unwanted unwanted] at messages arbiter
    exact ⟨State.unplaced_congr messages, quiet, congrArg Messages.removals messages, fun _ => ⟨messages, arbiter⟩,
      fun wanted => absurd (unwanted.symm.trans wanted) (by decide)⟩

end

/-! ## A duplicate (R86) -/

section
variable {m : Message} (found : s.storedMessage f.id = some m)
include found

theorem State.messageArrives_repeats {k : ReceiptKind} (wanted : m.wanted = true) (unmarked : m.mark = none)
    (sent : m.lastSent = some k) : s.messageArrives f = s.oweReceipt m.id k := by
  rw [State.messageArrives, found]
  simp only [State.duplicateMessage, wanted, unmarked, sent]

theorem State.messageArrives_ignored (h : m.wanted = false ∨ m.mark ≠ none ∨ m.lastSent = none) :
    s.messageArrives f = s := by
  rw [State.messageArrives, found]
  change s.duplicateMessage m = s
  unfold State.duplicateMessage
  split
  · next wanted unmarked sent => simp [wanted, unmarked, sent] at h
  · rfl

end

/-- Settles O28: the removals of `roomFor` are those of `GoneForRoom`, and receipts follow what has become owed. -/
theorem messageArrives : Obligations.MessageArrives := by
  refine ⟨fun s hdr payload f new admitted parsed fresh made => ?_,
    fun s hdr payload f as bs m admitted parsed distinct parts own => ?_⟩
  all_goals have runs : (s.withRecord none).mainRuns = true := State.admits_mainRuns (s := s) admitted
  · subst made
    have messages := s.routedFrom_keep ((s.withRecord none).messageArrives f) .messages
    have arbiter := s.routedFrom_keep ((s.withRecord none).messageArrives f) .arbiter
    have events := s.routedFrom_keep ((s.withRecord none).messageArrives f) .events
    exact ⟨_, exec_message admitted parsed,
      State.routedFrom_main (State.only_messageArrives f _) (by decide) (by decide),
      fun gone room => State.arrival_stored (s := s.withRecord none) fresh runs room messages arbiter events,
      fun full => State.arrival_refused (s := s.withRecord none) fresh runs full messages arbiter events⟩
  · have apart := apart_of_distinct (parts ▸ distinct)
    have found : (s.withRecord none).storedMessage m.id = some m :=
      State.storedMessage_of_parts (s := s.withRecord none) parts apart
    refine ⟨_, exec_message admitted parsed, fun k wanted unmarked sent => ?_, fun still => ?_⟩
    · rw [State.messageArrives_repeats (own ▸ found) wanted unmarked sent]
      have messages := s.routedFrom_keep ((s.withRecord none).oweReceipt m.id k) .messages
      have unplaced := State.oweReceipt_unplaced (s := s.withRecord none) parts apart k
      have follow := State.oweReceipt_follow (kind := k) found runs (.of_messages rfl rfl)
      rw [if_pos unmarked, own] at follow
      rw [Message.owing, unmarked] at unplaced
      exact ⟨State.routedFrom_main (State.only_oweReceipt _ _ _) (by decide) (by decide),
        (State.unplaced_congr messages).trans unplaced, (State.oweReceipt_receiptsOnly found k).congr messages,
        State.routedFrom_follow (own ▸ follow)⟩
    · rw [State.messageArrives_ignored (own ▸ found) still]
      exact s.routedFrom_idle

end Sys2Proof.Machine
end

section
/-! PROOFS. What the Emergency Unit's operations do, block by block (R101 to R108, R113). -/

namespace Sys2Proof.Machine

variable {s u : State} {bs : List Block}

theorem EmergencyState.raised_iff {x : EmergencyState} : x.raised = true ↔ x = .active ∨ x = .acked := by
  cases x <;> decide

/-! ## The parts of an activation -/

/-- The arbiter once a report has fallen due: the slot is filled while the main domain runs with an identity (R108). -/
def State.slotFilled (s : State) : Arbiter :=
  { s.arbiter with slot := s.arbiter.slot || (s.mainRuns && s.identity.cab != 0) }

/-- What is raised under VISIBLE, while the Event Unit works (R113). -/
def State.emergencyShown (s : State) : List EventKind := if s.settings.visible && s.mainRuns then [.emergency] else []

theorem State.reportDue_arbiter : s.reportDue.arbiter = s.slotFilled := by
  change (if s.mainRuns && s.identity.cab != 0 then _ else _ : State).arbiter = _
  split
  · next fills => rw [State.slotFilled, fills, Bool.or_true]; rfl
  · next fills => rw [State.slotFilled, Bool.eq_false_of_not_eq_true fills, Bool.or_false]; rfl

theorem State.markTrip_meter : s.markTrip.meter = s.meterMarked := by
  unfold State.markTrip State.meterMarked
  by_cases hired : s.meter.state = .hired
  · simp only [if_pos hired]
    rfl
  · simp [hired]

theorem State.startRoof_roof : s.startRoof.roof = if s.settings.roofPattern then .blinking true 0 else s.roof := by
  unfold State.startRoof
  split <;> rfl

/-- What changed before in other blocks does not count. -/
theorem State.raiseEmergency_raised (h : OnlyChanges bs s u)
    (m : ∀ b ∈ [Block.settings, .monitor, .events], b ∉ bs) : Raised s.emergencyShown s u.raiseEmergency := by
  have settings : u.settings = s.settings := h.keep .settings (m _ (by decide))
  have events : u.events = s.events := h.keep .events (m _ (by decide))
  rw [Raised, State.raiseEmergency_events, h.mainRuns_eq (m _ (by decide)), settings, events]
  by_cases shows : s.settings.visible = true ∧ s.mainRuns = true <;> simp [State.emergencyShown, shows]

theorem State.raiseEmergency_keep (b : Block) (m : b ∉ [.events]) : b.same s s.raiseEmergency :=
  s.only_raiseEmergency.keep b m

theorem State.raiseEmergency_emergency : s.raiseEmergency.emergency = s.emergency :=
  State.raiseEmergency_keep .emergency (by decide)

/-! ## Activation and escalation (R103, R104) -/

/-- What an activation and an escalation have in common: the trip is marked and a report falls due. -/
def State.reported (s : State) : State := s.markTrip.reportDue

theorem State.only_reported : OnlyChanges [.meter, .emergency, .arbiter] s s.reported :=
  .reportDue (.markTrip (.refl s) (by decide)) (by decide)

theorem State.reported_emergency : s.reported.emergency = { s.emergency with owed := true } := by
  have marked : s.markTrip.emergency = s.emergency := s.only_markTrip.keep .emergency (by decide)
  exact State.reportDue_emergency.trans (by rw [marked])

theorem State.reported_meter : s.reported.meter = s.meterMarked :=
  ((State.only_reportDue _).keep .meter (by decide)).trans State.markTrip_meter

theorem State.reported_arbiter : s.reported.arbiter = s.slotFilled := by
  have arbiter : s.markTrip.arbiter = s.arbiter := s.only_markTrip.keep .arbiter (by decide)
  have identity : s.markTrip.identity = s.identity := s.only_markTrip.keep .identity (by decide)
  have runs : s.markTrip.mainRuns = s.mainRuns := s.only_markTrip.mainRuns_eq (by decide)
  exact State.reportDue_arbiter.trans (by simp only [State.slotFilled, arbiter, identity, runs])

/-- The Emergency Unit once the press timer has run out in PRESSING (R103). -/
def State.activated (s : State) : Emergency := { s.emergency with
  state := .active, press := none, activation := some { clock := s.time.clock, known := s.time.known }
  elapsed := 0, reports := 0, interval := some s.settings.activeInterval, owed := true }

/-- The Emergency Unit once the press timer has run out in ACKED (R104). -/
def State.escalated (s : State) : Emergency := { s.emergency with
  state := .active, press := none, interval := some s.settings.activeInterval, owed := true }

theorem State.only_shown : OnlyChanges [.roof, .events] s s.startRoof.raiseEmergency :=
  .raiseEmergency (.startRoof (.refl s) (by decide)) (by decide)

theorem State.activate_emergency : s.activate.emergency = s.activated :=
  (State.only_shown.keep .emergency (by decide)).trans State.reported_emergency

theorem State.activate_meter : s.activate.meter = s.meterMarked :=
  (State.only_shown.keep .meter (by decide)).trans State.reported_meter

theorem State.activate_arbiter : s.activate.arbiter = s.slotFilled :=
  (State.only_shown.keep .arbiter (by decide)).trans State.reported_arbiter

/-- R21: the pattern starts with ROOF on. -/
theorem State.activate_roof : s.activate.roof = if s.settings.roofPattern then .blinking true 0 else s.roof := by
  have shown : ∀ v, (s.withEmergency v).reported.startRoof.raiseEmergency.roof
      = if s.settings.roofPattern then .blinking true 0 else s.roof := by
    intro v
    have settings : (s.withEmergency v).reported.settings = s.settings := State.only_reported.keep .settings (by decide)
    have roof : (s.withEmergency v).reported.roof = s.roof := State.only_reported.keep .roof (by decide)
    have raised : ∀ w : State, w.raiseEmergency.roof = w.roof := fun w => State.raiseEmergency_keep .roof (by decide)
    rw [raised, State.startRoof_roof, settings, roof]
  exact shown _

theorem State.activate_raised : Raised s.emergencyShown s s.activate :=
  State.raiseEmergency_raised (bs := [.emergency, .meter, .arbiter, .roof])
    (.startRoof
      (.reportDue (.markTrip ((OnlyChanges.refl s).withEmergency (by decide)) (by decide)) (by decide)) (by decide)) (by decide)

theorem State.escalate_emergency : s.escalate.emergency = s.escalated :=
  State.raiseEmergency_emergency.trans State.reported_emergency

theorem State.escalate_meter : s.escalate.meter = s.meterMarked :=
  (State.raiseEmergency_keep .meter (by decide)).trans State.reported_meter

theorem State.escalate_arbiter : s.escalate.arbiter = s.slotFilled :=
  (State.raiseEmergency_keep .arbiter (by decide)).trans State.reported_arbiter

theorem State.escalate_raised : Raised s.emergencyShown s s.escalate :=
  State.raiseEmergency_raised (bs := [.emergency, .meter, .arbiter])
    (.reportDue (.markTrip ((OnlyChanges.refl s).withEmergency (by decide)) (by decide)) (by decide)) (by decide)

/-! ## The interval timer (R108) -/

section
variable (raised : s.emergency.state = .active ∨ s.emergency.state = .acked) (due : s.emergency.interval = some 0)
include raised due

theorem State.expireInterval_due :
    s.expireInterval = (s.withEmergency { s.emergency with interval := some s.reportInterval }).reportDue :=
  if_pos ⟨EmergencyState.raised_iff.mpr raised, due⟩

theorem State.expireInterval_emergency : s.expireInterval.emergency = { s.emergency with
    owed := true
    interval := some (if s.emergency.state = .acked then s.settings.ackedInterval else s.settings.activeInterval) } := by
  rw [State.expireInterval_due raised due]
  exact State.reportDue_emergency

theorem State.expireInterval_arbiter : s.expireInterval.arbiter = s.slotFilled := by
  rw [State.expireInterval_due raised due]
  exact State.reportDue_arbiter

end

theorem State.expireInterval_notDue
    (h : s.emergency.state = .clear ∨ s.emergency.state = .pressing ∨ s.emergency.interval ≠ some 0) :
    s.expireInterval = s := by
  refine if_neg fun ⟨raised, due⟩ => ?_
  rcases EmergencyState.raised_iff.mp raised with state | state <;> simp [state, due] at h

/-! ## The expiries -/

theorem State.takeActivation_notDue (h : s.emergency.state ≠ .pressing ∨ s.emergency.press ≠ some 0) :
    s.takeActivation = s := if_neg fun due => h.elim (· due.1) (· due.2)

theorem State.takeEscalation_notDue (h : s.emergency.state ≠ .acked ∨ s.emergency.press ≠ some 0) :
    s.takeEscalation = s := if_neg fun due => h.elim (· due.1) (· due.2)

/-- ROOF follows the pattern at the end of the command (R21). -/
theorem State.ended_roofPin {on : Bool} {n : Nat} (roof : u.roof = .blinking on n) (running : u.monitor.holding = false) :
    (s.updateCheck u).drive.pins.roof = on := State.roofLevel_blinking (s := s.updateCheck u) roof running

/-- An activation shows the pattern at once (R21, R103). -/
theorem State.activate_roofPin (running : s.monitor.holding = false) (pattern : s.settings.roofPattern = true) :
    (s.updateCheck s.activate).drive.pins.roof = true := by
  have monitor : s.activate.monitor = s.monitor := s.only_activate.keep .monitor (by decide)
  have roof : s.activate.roof = .blinking true 0 := State.activate_roof.trans (if_pos pattern)
  exact State.ended_roofPin roof ((congrArg Monitor.holding monitor).trans running)

/-- Settles O33, from what an activation, an escalation and a report that falls due do to each block. -/
theorem emergencyTimersExpire : Obligations.EmergencyTimersExpire := by
  rintro s fill running rfl
  have idle : ∀ {u : State}, u = s → OnlyChanges [.pins] s (s.updateCheck u).drive := fun h => h ▸ s.only_ended_self
  refine ⟨⟨_, congrArg (done s) (State.whenRetained_running State.takeActivation running),
      fun h => idle (State.takeActivation_notDue h), fun state due => ?activation⟩,
    ⟨_, congrArg (done s) (State.whenRetained_running State.takeEscalation running),
      fun h => idle (State.takeEscalation_notDue h), fun state due => ?escalation⟩,
    ⟨_, congrArg (done s) (State.whenRetained_running State.expireInterval running),
      fun h => idle (State.expireInterval_notDue h), fun raised due => ?interval⟩⟩
  case activation =>
    rw [show s.takeActivation = s.activate from if_pos ⟨state, due⟩]
    have ended := s.only_ended s.activate
    exact ⟨(s.only_activate.mono (by decide)).ended (by decide) (by decide),
      (ended.keep .emergency (by decide)).trans State.activate_emergency,
      (ended.keep .meter (by decide)).trans State.activate_meter,
      (ended.keep .arbiter (by decide)).trans State.activate_arbiter,
      (ended.keep .roof (by decide)).trans State.activate_roof, State.activate_roofPin running,
      State.activate_raised.kept (ended.keep .events (by decide))⟩
  case escalation =>
    rw [show s.takeEscalation = s.escalate from if_pos ⟨state, due⟩]
    have ended := s.only_ended s.escalate
    exact ⟨(s.only_escalate.mono (by decide)).ended (by decide) (by decide),
      (ended.keep .emergency (by decide)).trans State.escalate_emergency,
      (ended.keep .meter (by decide)).trans State.escalate_meter,
      (ended.keep .arbiter (by decide)).trans State.escalate_arbiter,
      State.escalate_raised.kept (ended.keep .events (by decide))⟩
  case interval =>
    have ended := s.only_ended s.expireInterval
    exact ⟨(s.only_expireInterval.mono (by decide)).ended (by decide) (by decide),
      (ended.keep .emergency (by decide)).trans (State.expireInterval_emergency raised due),
      (ended.keep .arbiter (by decide)).trans (State.expireInterval_arbiter raised due)⟩

end Sys2Proof.Machine
end

section
/-! PROOFS. What dispatch answers: EMERGENCY_ACK and EMERGENCY_CLEAR, which pass in CAB mode to this cab alone (R105,
R106, R124). -/

namespace Sys2Proof.Machine

variable {s u : State} {k : DownKind} {hdr : AirHeader} {payload : List Byte}

/-! ## Management frames (R124 to R126) -/

/-- A management frame passes the receive checks in CAB mode to this cab alone. -/
theorem addressPasses_management {i : Identity} {table : List AddressEntry} {k : DownKind} {hdr : AirHeader}
    (management : k.cls = .management) (h : addressPasses i table k hdr = true) :
    i.cab ≠ 0 ∧ hdr.mode = 0#8 ∧ hdr.addr.toNat = i.cab := by
  have notOffer : k ≠ .offer := by rintro rfl; cases management
  unfold addressPasses at h
  split at h
  · simp [management] at h
  · next set =>
    split at h
    · next cab => exact ⟨set, BitVec.eq_of_toNat_eq cab, of_decide_eq_true h⟩
    all_goals simp [management, notOffer] at h

theorem State.screenFrame_toThisCab {k k' : DownKind} {hdr hdr' : AirHeader} {payload payload' : List Byte}
    (management : k.cls = .management) (accepted : s.screenFrame k.code hdr payload = .accepted k' hdr' payload') :
    s.ToThisCab hdr := by
  have decoded : DownKind.ofCode k.code = some k := by cases k <;> rfl
  simp only [State.screenFrame, decoded, Bool.not_eq_true'] at accepted
  split at accepted
  · cases accepted
  · next fleet =>
    split at accepted
    · cases accepted
    · split at accepted
      · cases accepted
      · next address =>
        obtain ⟨set, mode, cab⟩ := addressPasses_management management (Bool.eq_true_of_not_eq_false address)
        have fleet : hdr.fleet.toNat = s.identity.fleet := by simpa [fleetPasses, set] using fleet
        exact ⟨set, fleet, mode, cab⟩

theorem State.admits_toThisCab (management : k.cls = .management) (h : s.admits k hdr payload = true) :
    s.ToThisCab hdr := by
  simp only [State.admits, Bool.and_eq_true, decide_eq_true_eq] at h
  exact State.screenFrame_toThisCab management h.1.2

/-! ## EMERGENCY_ACK (R105) -/

theorem State.acknowledgeEmergency_idle (h : s.emergency.state ≠ .active) : s.acknowledgeEmergency = s := if_neg h

section
variable (active : s.emergency.state = .active)
include active

theorem State.acknowledgeEmergency_active : s.acknowledgeEmergency = ((s.withEmergency { s.emergency with
    state := .acked, interval := some s.settings.ackedInterval }).reportDue).raiseEmergency := if_pos active

theorem State.acknowledgeEmergency_emergency : s.acknowledgeEmergency.emergency = { s.emergency with
    state := .acked, interval := some s.settings.ackedInterval, owed := true } := by
  rw [State.acknowledgeEmergency_active active]
  exact State.raiseEmergency_emergency.trans State.reportDue_emergency

theorem State.acknowledgeEmergency_arbiter : s.acknowledgeEmergency.arbiter = s.slotFilled := by
  rw [State.acknowledgeEmergency_active active]
  exact (State.raiseEmergency_keep .arbiter (by decide)).trans State.reportDue_arbiter

theorem State.acknowledgeEmergency_raised : Raised s.emergencyShown s s.acknowledgeEmergency := by
  rw [State.acknowledgeEmergency_active active]
  exact State.raiseEmergency_raised (bs := [.emergency, .arbiter])
    (.reportDue ((OnlyChanges.refl s).withEmergency (by decide)) (by decide)) (by decide)

end

/-! ## EMERGENCY_CLEAR (R106) -/

theorem State.clearEmergency_idle (h : s.emergency.state = .clear ∨ s.emergency.state = .pressing) :
    s.clearEmergency = s := by
  refine if_neg fun raised => ?_
  rcases h with state | state <;> simp [state, EmergencyState.raised] at raised

section
variable (raised : s.emergency.state = .active ∨ s.emergency.state = .acked)
include raised

theorem State.clearEmergency_eq : s.clearEmergency = (((s.withEmergency { s.emergency with
    state := .clear, press := none, interval := none, owed := false }).withdrawSlot).withRoof .steady).raiseEmergency :=
  if_pos (EmergencyState.raised_iff.mpr raised)

theorem State.clearEmergency_emergency : s.clearEmergency.emergency = { s.emergency with
    state := .clear, press := none, interval := none, owed := false } := by
  rw [State.clearEmergency_eq raised]
  exact State.raiseEmergency_emergency

theorem State.clearEmergency_arbiter : s.clearEmergency.arbiter = { s.arbiter with
    slot := false
    inFlight := s.arbiter.inFlight.map fun f => if f.granted = .slot then { f with granted := .detached } else f } := by
  rw [State.clearEmergency_eq raised]
  exact State.raiseEmergency_keep .arbiter (by decide)

theorem State.clearEmergency_roof : s.clearEmergency.roof = .steady := by
  rw [State.clearEmergency_eq raised]
  exact State.raiseEmergency_keep .roof (by decide)

theorem State.clearEmergency_raised : Raised s.emergencyShown s s.clearEmergency := by
  rw [State.clearEmergency_eq raised]
  exact State.raiseEmergency_raised (bs := [.emergency, .arbiter, .roof])
    (.withRoof (.withdrawSlot ((OnlyChanges.refl s).withEmergency (by decide)) (by decide)) (by decide)) (by decide)

end

theorem State.roofLevel_steady (roof : s.roof = .steady) (running : s.monitor.holding = false) :
    s.roofLevel = decide (s.meter.state = .vacant) := by
  simp [State.roofLevel, roof, running]

/-- Without the pattern ROOF shows VACANT again (R21). -/
theorem State.clearEmergency_roofPin (raised : u.emergency.state = .active ∨ u.emergency.state = .acked)
    (running : u.monitor.holding = false) :
    (s.routedFrom u.clearEmergency).pins.roof = decide (u.meter.state = .vacant) := by
  have cleared : OnlyChanges [.roof, .emergency, .arbiter, .events, .link] u u.clearEmergency.receiveBoundary :=
    .receiveBoundary (u.only_clearEmergency.mono (by decide)) (by decide)
  have roof : u.clearEmergency.receiveBoundary.roof = .steady :=
    ((State.only_receiveBoundary _).keep .roof (by decide)).trans (State.clearEmergency_roof raised)
  have monitor : u.clearEmergency.receiveBoundary.monitor = u.monitor := cleared.keep .monitor (by decide)
  have meter : u.clearEmergency.receiveBoundary.meter = u.meter := cleared.keep .meter (by decide)
  rw [← meter]
  exact State.roofLevel_steady (s := s.updateCheck u.clearEmergency.receiveBoundary) roof
    ((congrArg Monitor.holding monitor).trans running)

/-- Settles O32, from what the owner of each frame does to each block; only this cab's frames are admitted, so the
identity is set and the slot can be filled. -/
theorem dispatchAnswersEmergency : Obligations.DispatchAnswersEmergency := by
  refine fun s hdr payload => ⟨fun admitted => ⟨_, done_admitted _ admitted, fun idle => ?ignored, fun active => ?acked⟩,
    fun admitted => ⟨_, done_admitted _ admitted, fun idle => ?unraised, fun raised => ?cleared⟩⟩
  all_goals have runs : (s.withRecord none).mainRuns = true := State.admits_mainRuns (s := s) admitted
  case ignored =>
    rw [State.acknowledgeEmergency_idle (s := s.withRecord none) idle]
    exact s.routedFrom_idle
  case acked =>
    have set : (s.withRecord none).identity.cab ≠ 0 := (State.admits_toThisCab rfl admitted).1
    have arbiter := State.acknowledgeEmergency_arbiter (s := s.withRecord none) active
    have raised := State.acknowledgeEmergency_raised (s := s.withRecord none) active
    rw [State.slotFilled, runs, Bool.true_and, bne_iff_ne.mpr set, Bool.or_true] at arbiter
    rw [State.emergencyShown, runs, Bool.and_true] at raised
    exact ⟨State.routedFrom_routed ((State.only_acknowledgeEmergency _).mono (by decide)) (by decide) (by decide),
      (s.routedFrom_keep _ .emergency (by decide)).trans (State.acknowledgeEmergency_emergency (s := s.withRecord none) active),
      (s.routedFrom_keep _ .arbiter (by decide)).trans arbiter, State.routedFrom_raised raised⟩
  case unraised =>
    rw [State.clearEmergency_idle (s := s.withRecord none) idle]
    exact s.routedFrom_idle
  case cleared =>
    have flagged := State.clearEmergency_raised (s := s.withRecord none) raised
    rw [State.emergencyShown, runs, Bool.and_true] at flagged
    exact ⟨State.routedFrom_routed ((State.only_clearEmergency _).mono (by decide)) (by decide) (by decide),
      (s.routedFrom_keep _ .emergency (by decide)).trans (State.clearEmergency_emergency (s := s.withRecord none) raised),
      (s.routedFrom_keep _ .arbiter (by decide)).trans (State.clearEmergency_arbiter (s := s.withRecord none) raised),
      (s.routedFrom_keep _ .roof (by decide)).trans (State.clearEmergency_roof (s := s.withRecord none) raised),
      fun running => State.clearEmergency_roofPin (u := s.withRecord none) raised running,
      State.routedFrom_raised flagged⟩

end Sys2Proof.Machine
end

section
/-! PROOFS. A timer tick: the emergency switch, the sampled lines and the tick-based counts (R20, R21, R101, R102, R104,
R150, R186, R188, R189, R191). -/

namespace Sys2Proof.Machine

variable {s : State} {l : TickLines}

/-! ## The emergency switch, by state and sample (R101, R102, R104) -/

theorem State.sampleSwitch_lastSample (active : Bool) : (s.sampleSwitch active).emergency.lastSample = active := by
  unfold State.sampleSwitch
  extract_lets e edge stored
  cases e.state <;> dsimp only
  case clear => split <;> simp [State.raiseEmergency_emergency, stored]
  case pressing => split <;> simp [State.raiseEmergency_emergency, stored]
  case active => rfl
  case acked =>
    repeat' split
    all_goals rfl

section
variable (clear : s.emergency.state = .clear)
include clear

theorem State.sampleSwitch_clear_edge (edge : s.emergency.lastSample = false) : s.sampleSwitch true =
    (s.withEmergency { s.emergency with
      lastSample := true, state := .pressing, press := some s.settings.hold }).raiseEmergency := by
  simp [State.sampleSwitch, clear, edge]

theorem State.sampleSwitch_clear_quiet {active : Bool} (quiet : active = false ∨ s.emergency.lastSample = true) :
    s.sampleSwitch active = s.withEmergency { s.emergency with lastSample := active } := by
  rcases quiet with quiet | quiet <;> simp [State.sampleSwitch, clear, quiet]

end

section
variable (pressing : s.emergency.state = .pressing)
include pressing

theorem State.sampleSwitch_pressing_held : s.sampleSwitch true =
    s.withEmergency { s.emergency with lastSample := true, press := s.emergency.press.map (· - 1) } := by
  simp [State.sampleSwitch, pressing]

theorem State.sampleSwitch_pressing_released : s.sampleSwitch false =
    (s.withEmergency { s.emergency with lastSample := false, state := .clear, press := none }).raiseEmergency := by
  simp [State.sampleSwitch, pressing]

end

theorem State.sampleSwitch_active {active : Bool} (h : s.emergency.state = .active) :
    s.sampleSwitch active = s.withEmergency { s.emergency with lastSample := active } := by
  simp [State.sampleSwitch, h]

section
variable (acked : s.emergency.state = .acked)
include acked

theorem State.sampleSwitch_acked_edge (edge : s.emergency.lastSample = false) : s.sampleSwitch true =
    s.withEmergency { s.emergency with lastSample := true, press := some s.settings.hold } := by
  simp [State.sampleSwitch, acked, edge]

theorem State.sampleSwitch_acked_held (held : s.emergency.lastSample = true) : s.sampleSwitch true =
    s.withEmergency { s.emergency with lastSample := true, press := s.emergency.press.map (· - 1) } := by
  simp [State.sampleSwitch, acked, held]

theorem State.sampleSwitch_acked_released : s.sampleSwitch false =
    s.withEmergency { s.emergency with lastSample := false, press := none } := by
  simp [State.sampleSwitch, acked]

theorem State.sampleSwitch_acked_events (active : Bool) : (s.sampleSwitch active).events = s.events := by
  cases active with
  | false => rw [State.sampleSwitch_acked_released acked]; rfl
  | true =>
    cases sample : s.emergency.lastSample with
    | false => rw [State.sampleSwitch_acked_edge acked sample]; rfl
    | true => rw [State.sampleSwitch_acked_held acked sample]; rfl

end

/-! ## A tick, block by block -/

theorem State.tick_holding (h : s.monitor.holding = true) : s.tick l = s.withMonitor (s.monitor.supplyTick l.supplyOk) :=
  if_pos h

/-- The state that the switch is sampled in: the seat check and the roof have had their tick. -/
def State.seatTicked (s : State) (l : TickLines) : State :=
  (s.withSeat (s.seat.tick l.seat s.seatIdle (10 * s.settings.seatTime))).withRoof s.roof.tick

/-- The state that the switch leaves. -/
def State.switchTicked (s : State) (l : TickLines) : State := (s.seatTicked l).sampleSwitch (l.emerg0 || l.emerg1)

theorem State.only_switchTicked : OnlyChanges [.emergency, .events] (s.seatTicked l) (s.switchTicked l) :=
  State.only_sampleSwitch _ _

section
variable (running : s.monitor.holding = false)
include running

theorem State.tick_running : s.tick l =
    ((s.switchTicked l).whenMain fun u => u.withArbiter u.arbiter.tick).withMonitor
      ((s.monitor.lineTick l).supplyTick l.supplyOk) := by
  have monitor : ((s.switchTicked l).whenMain fun u => u.withArbiter u.arbiter.tick).monitor = s.monitor :=
    ((State.only_whenMain (bs := [.arbiter]) ((OnlyChanges.refl _).withArbiter (by decide))).keep .monitor
      (by decide)).trans (State.only_switchTicked.keep .monitor (by decide))
  rw [← monitor]
  exact if_neg (by rw [running]; decide)

/-- After the switch a tick moves the timers of the arbiter and the counts of the Condition Monitor alone. -/
theorem State.only_afterSwitch : OnlyChanges [.arbiter, .monitor] (s.switchTicked l) (s.tick l) := by
  rw [State.tick_running running]
  exact (State.only_whenMain ((OnlyChanges.refl _).withArbiter (by decide))).withMonitor (by decide)

theorem State.tick_monitor : (s.tick l).monitor = (s.monitor.lineTick l).supplyTick l.supplyOk := by
  rw [State.tick_running running]
  rfl

theorem State.tick_emergency : (s.tick l).emergency = (s.switchTicked l).emergency :=
  (State.only_afterSwitch running).keep .emergency (by decide)

theorem State.tick_events : (s.tick l).events = (s.switchTicked l).events :=
  (State.only_afterSwitch running).keep .events (by decide)

theorem State.tick_seat : (s.tick l).seat = s.seat.tick l.seat s.seatIdle (10 * s.settings.seatTime) :=
  ((State.only_afterSwitch running).keep .seat (by decide)).trans (State.only_switchTicked.keep .seat (by decide))

theorem State.tick_roof : (s.tick l).roof = s.roof.tick :=
  ((State.only_afterSwitch running).keep .roof (by decide)).trans (State.only_switchTicked.keep .roof (by decide))

theorem State.tick_arbiter (runs : s.mainRuns = true) : (s.tick l).arbiter = s.arbiter.tick := by
  have runs' : (s.switchTicked l).mainRuns = true := (State.only_switchTicked.mainRuns_eq (by decide)).trans runs
  have arbiter : (s.switchTicked l).arbiter = s.arbiter := State.only_switchTicked.keep .arbiter (by decide)
  rw [State.tick_running running, State.whenMain_running _ runs', ← arbiter]
  rfl

end

/-- R188, R189, R191: SUPPLY_OK is sampled and confirmed although the retained domain holds still. -/
theorem State.tick_supply : (s.tick l).monitor.supplyOk = l.supplyOk
    ∧ (s.tick l).monitor.supplyUp = s.monitor.supplyUp ∧ (s.tick l).monitor.ignition = s.monitor.ignition
    ∧ (s.tick l).monitor.confirm = if s.monitor.supplyUp then s.monitor.confirm
        else if l.supplyOk then min 5 (s.monitor.confirm + 1) else 0 := by
  cases h : s.monitor.holding with
  | true => rw [State.tick_holding h]; exact ⟨rfl, rfl, rfl, rfl⟩
  | false => rw [State.tick_monitor h]; exact ⟨rfl, rfl, rfl, rfl⟩

/-! ## The seat check (R20) -/

theorem State.seatIdle_iff : s.seatIdle = true ↔
    (s.meter.state = .off ∨ s.meter.state = .vacant) ∧ s.condition = .driving := by
  simp [State.seatIdle]

section
variable (running : s.monitor.holding = false)
include running

theorem State.tick_seat_counts (on : l.seat = true) (idle : s.meter.state = .off ∨ s.meter.state = .vacant)
    (driving : s.condition = .driving) : (s.tick l).seat.count = min 600 (s.seat.count + 1) := by
  rw [State.tick_seat running, on, State.seatIdle_iff.mpr ⟨idle, driving⟩]
  rfl

theorem State.tick_seat_restarts (off : l.seat = false ∨ (s.meter.state ≠ .off ∧ s.meter.state ≠ .vacant)
    ∨ s.condition ≠ .driving) : (s.tick l).seat.count = 0 := by
  have stops : (l.seat && s.seatIdle) = false := by
    rw [← Bool.not_eq_true, Bool.and_eq_true, State.seatIdle_iff]
    rintro ⟨on, idle, driving⟩
    rcases off with off | ⟨off, vacant⟩ | parked
    · exact Bool.false_ne_true (off.symm.trans on)
    · exact idle.elim off vacant
    · exact parked driving
  rw [State.tick_seat running, Seat.tick, stops]
  rfl

/-! ## The roof (R21) -/

theorem State.tick_roofPin {on : Bool} {n : Nat} (shows : s.roof.tick = .blinking on n) :
    (s.updateCheck (s.tick l)).drive.roof = .blinking on n ∧ (s.updateCheck (s.tick l)).drive.pins.roof = on := by
  have roof : (s.tick l).roof = .blinking on n := (State.tick_roof running).trans shows
  have holding : (s.tick l).monitor.holding = false := by rw [State.tick_monitor running]; exact running
  exact ⟨roof, State.ended_roofPin roof holding⟩

end

/-! ## The command -/

/-- R101, R102, R104: what a tick does to the Emergency Unit, and when EMERGENCY is raised. -/
theorem timerTick_samples {active : Bool} (running : s.monitor.holding = false)
    (sampled : active = (l.emerg0 || l.emerg1)) : ∃ t, exec (.timerTick l) s = .next t
      ∧ OnlyChanges [.seat, .roof, .emergency, .arbiter, .monitor, .events, .check, .pins] s t
      ∧ t.emergency = ((s.seatTicked l).sampleSwitch active).emergency
      ∧ t.events = ((s.seatTicked l).sampleSwitch active).events := by
  subst sampled
  have ended := s.only_ended (s.tick l)
  exact ⟨_, rfl, (s.only_tick l |>.mono (by decide)).ended (by decide) (by decide),
    (ended.keep .emergency (by decide)).trans (State.tick_emergency running),
    (ended.keep .events (by decide)).trans (State.tick_events running)⟩

/-- R113: entering and leaving PRESSING raises EMERGENCY. -/
theorem State.switch_raised (v : Emergency) :
    Raised s.emergencyShown s ((s.seatTicked l).withEmergency v).raiseEmergency :=
  State.raiseEmergency_raised (bs := [.seat, .roof, .emergency])
    ((((OnlyChanges.refl s).withSeat (by decide)).withRoof (by decide)).withEmergency (by decide)) (by decide)

/-- Settles O35: the switch by state and sample, then the lines and counts block by block. -/
theorem tickSamplesAndCounts : Obligations.TickSamplesAndCounts := by
  refine ⟨fun s l active running sampled => ?switch, fun s l => ?counts⟩
  case switch =>
    obtain ⟨t, taken, only, emergency, events⟩ := timerTick_samples running sampled
    refine ⟨t, taken, only, emergency ▸ State.sampleSwitch_lastSample active, fun clear => ⟨?edge, ?quiet⟩,
      fun pressing => ⟨?held, ?released⟩, fun raised => ?active, fun acked => ⟨?events, ?again, ?on, ?off⟩⟩
    all_goals clear sampled
    case edge =>
      rintro rfl edge
      rw [State.sampleSwitch_clear_edge (s := s.seatTicked l) clear edge] at emergency events
      exact ⟨emergency.trans State.raiseEmergency_emergency, (State.switch_raised _).kept events⟩
    case quiet =>
      intro quiet
      rw [State.sampleSwitch_clear_quiet (s := s.seatTicked l) clear quiet] at emergency events
      exact ⟨emergency, events⟩
    case held =>
      rintro rfl
      rw [State.sampleSwitch_pressing_held (s := s.seatTicked l) pressing] at emergency events
      exact ⟨emergency, events⟩
    case released =>
      rintro rfl
      rw [State.sampleSwitch_pressing_released (s := s.seatTicked l) pressing] at emergency events
      exact ⟨emergency.trans State.raiseEmergency_emergency, (State.switch_raised _).kept events⟩
    case active =>
      rw [State.sampleSwitch_active (s := s.seatTicked l) raised] at emergency events
      exact ⟨emergency, events⟩
    case events => exact events.trans (State.sampleSwitch_acked_events (s := s.seatTicked l) acked active)
    case again =>
      rintro rfl edge
      exact emergency.trans (congrArg State.emergency (State.sampleSwitch_acked_edge (s := s.seatTicked l) acked edge))
    case on =>
      rintro rfl held
      exact emergency.trans (congrArg State.emergency (State.sampleSwitch_acked_held (s := s.seatTicked l) acked held))
    case off =>
      rintro rfl
      exact emergency.trans (congrArg State.emergency (State.sampleSwitch_acked_released (s := s.seatTicked l) acked))
  case counts =>
    have ended := s.only_ended (s.tick l)
    have monitor : (s.updateCheck (s.tick l)).drive.monitor = (s.tick l).monitor := ended.keep .monitor (by decide)
    obtain ⟨supplyOk, supplyUp, ignition, confirm⟩ := State.tick_supply (s := s) (l := l)
    rw [← monitor] at supplyOk supplyUp ignition confirm
    refine ⟨_, rfl, supplyOk, supplyUp, ignition, fun down => confirm.trans (by simp [down]), fun holding => ?still,
      fun running => ?running⟩
    case still =>
      rw [State.tick_holding holding]
      exact ((OnlyChanges.refl s).withMonitor (by decide)).ended (by decide) (by decide)
    case running =>
      have lines := monitor.trans (State.tick_monitor running)
      have seat : (s.updateCheck (s.tick l)).drive.seat = (s.tick l).seat := ended.keep .seat (by decide)
      have fields := seat.trans (State.tick_seat running)
      refine ⟨congrArg Monitor.ignLevel lines, congrArg Monitor.seatLevel lines,
        fun settled => (congrArg Monitor.ignCount lines).trans (if_pos settled),
        fun moved => (congrArg Monitor.ignCount lines).trans (if_neg moved),
        fun on idle driving => (congrArg Seat.count seat).trans (State.tick_seat_counts running on idle driving),
        fun off => (congrArg Seat.count seat).trans (State.tick_seat_restarts running off), congrArg Seat.reported fields,
        ?due, fun runs => (ended.keep .arbiter (by decide)).trans (State.tick_arbiter running runs),
        fun steady => ?steady, fun v armed => State.tick_roofPin running (congrArg RoofPhase.tick armed),
        fun on n blinking => State.tick_roofPin running (congrArg RoofPhase.tick blinking)⟩
      case due =>
        rw [fields]
        rfl
      case steady =>
        exact (ended.keep .roof (by decide)).trans ((State.tick_roof running).trans (congrArg RoofPhase.tick steady))

end Sys2Proof.Machine
end

section
/-! PROOFS. What the meter's requests can change (R4 to R17). -/

namespace Sys2Proof.Machine

variable (s : State)

theorem State.only_openShift : OnlyChanges [.meter, .store] s s.openShift.1 := by
  unfold State.openShift
  repeat' split
  case isFalse.isFalse => exact ((OnlyChanges.refl s).withMeter (by decide)).withStore (by decide)
  all_goals exact .refl s

theorem State.only_closeShift : OnlyChanges [.meter, .store, .offers, .arbiter, .events] s s.closeShift.1 :=
  .lapseOffers (s.only_shiftPended.mono (by decide)) (by decide)

theorem State.only_cancelJob : OnlyChanges [.meter, .offers, .arbiter, .events] s s.cancelJob.1 := by
  unfold State.cancelJob
  cases s.meter.jobId with
  | none => exact (OnlyChanges.refl s).withMeter (by decide)
  | some id => exact ((s.only_jobDeclined id).mono (by decide)).withMeter (by decide)

theorem State.only_hire (n : Nat) :
    OnlyChanges [.meter, .pulses, .store, .offers, .arbiter, .events, .fault] s (s.hire n).1 := by
  unfold State.hire
  split
  · exact (State.only_hiredWith.trans State.only_startTrip_hired).mono (by decide)
  · exact .refl s

theorem State.only_payTrip : OnlyChanges [.meter, .pulses, .store, .arbiter, .events, .fault] s s.payTrip.1 := by
  unfold State.payTrip
  dsimp only
  split
  · exact .refl s
  · exact .withMeter (.enterRecord _ (.closePulses (.refl s) (by decide)) (by decide)) (by decide)

theorem State.only_takeExtra (i : Nat) : OnlyChanges [.meter] s (s.takeExtra i).1 := by
  unfold State.takeExtra
  repeat' split
  case h_2 => exact (OnlyChanges.refl s).withMeter (by decide)
  all_goals exact .refl s

end Sys2Proof.Machine
end

section
/-! PROOFS. A raised emergency, ACTIVE or ACKED, through a step: it stays raised, or `left` holds, the reason for which it
may be left (R106, R191). -/

namespace Sys2Proof.Machine

variable {s t u : State} {bs : List Block} {left : Prop}

/-- An emergency that is raised stays raised, unless `left` holds. -/
def AlarmKept (left : Prop) (s t : State) : Prop :=
  s.emergency.state.raised = true → t.emergency.state.raised = true ∨ left

namespace AlarmKept

theorem trans (h : AlarmKept left s t) (k : AlarmKept left t u) : AlarmKept left s u := fun alarm => (h alarm).elim k .inr

theorem of_state (h : t.emergency.state = s.emergency.state) : AlarmKept left s t := fun alarm => .inl (h ▸ alarm)

theorem refl (s : State) : AlarmKept left s s := of_state rfl

theorem of_raised (h : t.emergency.state.raised = true) : AlarmKept left s t := fun _ => .inl h

theorem of_left (h : left) : AlarmKept left s t := fun _ => .inr h

theorem of_only (h : OnlyChanges bs s t) (m : bs.contains .emergency = false) : AlarmKept left s t :=
  of_state (congrArg Emergency.state (h.keep .emergency (by simpa using m)))

/-- What follows on other blocks does not count. -/
theorem andThen (h : AlarmKept left s t) (k : OnlyChanges bs t u) (m : bs.contains .emergency = false) :
    AlarmKept left s u := h.trans (of_only k m)

end AlarmKept

/-! ## How commands end -/

theorem State.whenRetained_alarmKept {f : State → State} (h : AlarmKept left s (f s)) :
    AlarmKept left s (s.whenRetained f) := by
  unfold State.whenRetained
  split
  · exact .refl s
  · exact h

theorem done_alarmKept (h : AlarmKept left s u) (e : done s u = .next t) : AlarmKept left s t := by
  obtain rfl : (s.updateCheck u).drive = t := Host.Outcome.next.inj e
  exact h.andThen (s.only_ended u) rfl

/-- No owner of a request is the Emergency Unit. -/
theorem serve_alarmKept {α : Type} {kind tag : Byte} {args : Option α} {owner : α → State → State × Answer}
    (h : ∀ a, OnlyChanges bs s (owner a s).1) (m : bs.contains .emergency = false)
    (e : serve kind tag args owner s = .next t) : AlarmKept left s t := by
  have served : OnlyChanges (bs ++ [.terminal, .pins, .check]) s t :=
    only_serve (fun a => (h a).mono fun _ hb => List.mem_append_left _ hb) e fun _ hb => List.mem_append_right _ hb
  exact .of_only served (by simpa using m)

theorem serveMeter_alarmKept {α : Type} {kind tag : Byte} {states : List MeterState} {args : Option α}
    {owner : α → State → State × Answer} (h : ∀ a, OnlyChanges bs s (owner a s).1) (m : bs.contains .emergency = false)
    (e : serveMeter kind tag states args owner s = .next t) : AlarmKept left s t := by
  unfold serveMeter at e
  split at e
  · exact serve_alarmKept h m e
  · exact serve_alarmKept (bs := []) (owner := fun _ t => t.refused .refusedState) (fun _ => .refl s) rfl e

/-- The owner of a frame sees it once every check has passed (R119). -/
theorem receive_alarmKept {k : DownKind} {hdr : AirHeader} {payload : List Byte} {owner : State → State}
    (h : ∀ k' hdr' payload', s.screenFrame k.code hdr payload = .accepted k' hdr' payload' →
      AlarmKept left (s.withRecord none) (owner (s.withRecord none)))
    (e : done s (s.receive k hdr payload owner) = .next t) : AlarmKept left s t := by
  have closed : AlarmKept left s (s.withRecord none) := .of_state rfl
  refine done_alarmKept ?_ e
  unfold State.receive
  split
  · refine AlarmKept.andThen ?_ (State.only_receiveBoundary _) rfl
    split
    · next accepted =>
      split
      · exact closed
      · exact closed.trans (h _ _ _ accepted)
    · exact closed.andThen (State.only_offerFault _ _ _ _ _) rfl
    · exact closed
  · exact .refl s

/-- A frame whose owner is not the Emergency Unit. -/
theorem receive_alarmKept_other {k : DownKind} {hdr : AirHeader} {payload : List Byte} {owner : State → State}
    (h : ∀ u, OnlyChanges bs u (owner u)) (m : bs.contains .emergency = false)
    (e : done s (s.receive k hdr payload owner) = .next t) : AlarmKept left s t :=
  receive_alarmKept (fun _ _ _ _ => .of_only (h _) m) e

/-! ## The Emergency Unit's own steps (R101 to R110) -/

theorem State.acknowledgeEmergency_alarmKept (s : State) : AlarmKept left s s.acknowledgeEmergency := by
  by_cases active : s.emergency.state = .active
  · exact .of_raised (by rw [State.acknowledgeEmergency_emergency active]; rfl)
  · rw [State.acknowledgeEmergency_idle active]
    exact .refl s

theorem State.takeActivation_alarmKept : AlarmKept left s s.takeActivation := by
  unfold State.takeActivation
  split
  · exact .of_raised (by rw [State.activate_emergency]; rfl)
  · exact .refl s

theorem State.takeEscalation_alarmKept : AlarmKept left s s.takeEscalation := by
  unfold State.takeEscalation
  split
  · exact .of_raised (by rw [State.escalate_emergency]; rfl)
  · exact .refl s

theorem State.expireInterval_alarmKept : AlarmKept left s s.expireInterval := by
  unfold State.expireInterval
  split
  · exact .of_state (by rw [State.reportDue_emergency]; rfl)
  · exact .refl s

/-- The switch leaves ACTIVE and ACKED alone (R101, R104). -/
theorem State.sampleSwitch_raised (active : Bool) (alarm : s.emergency.state.raised = true) :
    (s.sampleSwitch active).emergency.state = s.emergency.state := by
  rw [State.sampleSwitch_state]
  rcases EmergencyState.raised_iff.mp alarm with state | state <;> rw [state]

theorem State.tick_alarmKept (l : TickLines) : AlarmKept left s (s.tick l) := by
  cases h : s.monitor.holding with
  | true => rw [State.tick_holding h]; exact .of_state rfl
  | false =>
    intro alarm
    left
    rw [State.tick_emergency h]
    exact (congrArg EmergencyState.raised (State.sampleSwitch_raised (s := s.seatTicked l) _ alarm)).trans alarm

theorem Emergency.second_state (e : Emergency) : e.second.state = e.state := by
  unfold Emergency.second
  split <;> rfl

theorem State.second_alarmKept : AlarmKept left s s.second := by
  cases h : s.monitor.holding with
  | true => rw [State.second_holding h]; exact .refl s
  | false => exact .of_state (by rw [State.second_emergency h, Emergency.second_state])

theorem State.tellDone_alarmKept (g : Granted) (s : State) : AlarmKept left s (s.tellDone g) := by
  cases g with
  | slot | detached => exact .of_state rfl
  | entry e =>
    cases e with
    | bid offer => exact .of_only (s.only_bidDone offer) rfl
    | bidCancel offer => exact .of_only (s.only_cancelDone offer) rfl
    | total trip => exact .of_only (s.only_totalSent trip) rfl
    | receipt id => exact .of_only (s.only_receiptDone id) rfl
    | receiptRefusal => exact .of_only s.only_refusalDone rfl
    | driverMsg number => exact .of_only (s.only_driverDone number) rfl
    | shift number => exact .of_only (s.only_shiftSent number) rfl
    | passUp | status | tableResult => exact .of_state rfl

theorem State.takeDone_alarmKept : AlarmKept left s s.takeDone := by
  unfold State.takeDone
  split
  · exact .refl s
  · split
    · next f _ =>
      refine AlarmKept.trans ?_ (State.tellDone_alarmKept f.granted _)
      exact .of_only (bs := [.arbiter]) (.leaveQueue _ (.withInFlight _ (.refl s) (by decide)) (by decide)) rfl
    · exact .of_only (s.only_strayResult 1) rfl

/-! ## Resets (R112, R191) -/

theorem State.exitShed_state : s.exitShed.emergency.state = s.emergency.state := by
  have gated : ∀ u : State, u.emergency = s.emergency → (if u.emergency.state.raised then
      u.withEmergency { u.emergency with owed := true } else u).emergency.state = s.emergency.state := by
    intro u same
    have state : u.emergency.state = s.emergency.state := congrArg Emergency.state same
    split <;> exact state
  unfold State.exitShed
  exact gated _ (by split <;> rfl)

/-- Without a failed check a main reset keeps the Emergency Unit's state. -/
theorem State.mainReset_alarmKept (endsShed : Bool) (h : s.checkFails = true → left) :
    AlarmKept left s (s.mainReset endsShed) := by
  cases lost : s.checkFails with
  | true => exact .of_left (h lost)
  | false =>
    have tested : AlarmKept left s (s.tested endsShed) := by
      unfold State.tested
      rw [lost]
      cases endsShed with
      | true => exact .of_state State.exitShed_state
      | false => exact .of_state rfl
    exact tested.andThen (State.only_restarted s.checkFails endsShed _) rfl

theorem State.returnSupply_alarmKept (h : s.checkFails = true → left) : AlarmKept left s s.returnSupply := by
  unfold State.returnSupply
  split
  · exact State.mainReset_alarmKept true h
  · exact .refl s

theorem State.resetPin_alarmKept (level : Bool) (h : s.checkFails = true → left) :
    AlarmKept left s (s.resetPin level) := by
  have pin : AlarmKept left s (s.withMonitor { s.monitor with resetLow := !level }) := .of_state rfl
  unfold State.resetPin
  dsimp only
  split
  · exact pin
  · split
    · exact pin.andThen (State.only_releaseReset _) rfl
    · exact pin.trans (State.mainReset_alarmKept false h)

/-! ## Every command -/

/-- The reasons for which a command may leave ACTIVE and ACKED. -/
def State.MayLeave (s : State) (c : Instr) : Prop :=
  (∃ hdr payload, c = .emergencyClear hdr payload ∧ s.ToThisCab hdr)
    ∨ s.checkFails = true ∧ ((∃ level, c = .mainReset level) ∨ c = .supplyReturn)

theorem exec_alarmKept (c : Instr) (e : exec c s = .next t) : AlarmKept (s.MayLeave c) s t := by
  cases c with
  | shiftOpen => exact serveMeter_alarmKept (fun _ => s.only_openShift) rfl e
  | shiftClose => exact serveMeter_alarmKept (fun _ => s.only_closeShift) rfl e
  | jobCancel => exact serveMeter_alarmKept (fun _ => s.only_cancelJob) rfl e
  | hire => exact serveMeter_alarmKept s.only_hire rfl e
  | paid => exact serveMeter_alarmKept (fun _ => s.only_payTrip) rfl e
  | endTrip | holdOn | holdOff =>
    exact serveMeter_alarmKept (bs := [.meter]) (fun _ => (OnlyChanges.refl s).withMeter (by decide)) rfl e
  | extra => exact serveMeter_alarmKept s.only_takeExtra rfl e
  | readStatus | readNotices | readOffers | readMeter | readStore | readMessage | readFault =>
    exact serve_alarmKept (bs := []) (fun _ => .refl s) rfl e
  | clearEvents | noticeSetup =>
    exact serve_alarmKept (bs := [.events]) (fun _ => (OnlyChanges.refl s).withEvents (by decide)) rfl e
  | accept => exact serve_alarmKept s.only_acceptOffer rfl e
  | dismiss => exact serve_alarmKept s.only_dismissOffer rfl e
  | position => exact serve_alarmKept s.only_position rfl e
  | msgRead => exact serve_alarmKept s.only_readByDriver rfl e
  | msgAnswer => exact serve_alarmKept s.only_answerByDriver rfl e
  | driverMsg => exact serve_alarmKept s.only_sendDriver rfl e
  | readPass => exact serve_alarmKept (fun _ => s.only_readPass) rfl e
  | passUp => exact serve_alarmKept s.only_passUp rfl e
  | releaseFault => exact serve_alarmKept (bs := [.fault]) (fun _ => (OnlyChanges.refl s).withFault (by decide)) rfl e
  | localTableOpen svc => exact serve_alarmKept (s.only_localOpen svc) rfl e
  | localTableSegment => exact serve_alarmKept s.only_localSegment rfl e
  | localTableCommit svc => exact serve_alarmKept (s.only_localCommit svc) rfl e
  | localTableAbort => exact serve_alarmKept s.only_localAbort rfl e
  | softReset => exact serve_alarmKept (owner := fun _ t => t.softReset.answered []) (fun _ => s.only_softReset) rfl e
  | localFrameMalformed bytes => exact done_alarmKept (.of_only (State.only_whenMain (s.only_rejectLocal bytes)) rfl) e
  | startMarker => exact done_alarmKept (.of_only s.only_startMarker rfl) e
  | airFrameRejected bytes => exact done_alarmKept (.of_only (s.only_rejectFrame bytes) rfl) e
  | offer hdr => exact receive_alarmKept_other (only_handed fun v u => u.only_offerArrives (offerZone hdr) v) rfl e
  | offerWithdraw => exact receive_alarmKept_other (only_handed fun v u => u.only_withdrawArrives v) rfl e
  | award => exact receive_alarmKept_other (only_handed fun v u => u.only_awardArrives v) rfl e
  | refuse => exact receive_alarmKept_other (only_handed fun v u => u.only_refuseArrives v) rfl e
  | message => exact receive_alarmKept_other (only_handed fun v u => u.only_messageArrives v) rfl e
  | messageRecall => exact receive_alarmKept_other (only_handed fun v u => u.only_recallMessage v) rfl e
  | cycle => exact receive_alarmKept_other (only_handed fun v u => u.only_takeCycle v) rfl e
  | statusPoll => exact receive_alarmKept_other State.only_pollArrives rfl e
  | airTableOpen => exact receive_alarmKept_other (only_handed fun v u => u.only_airOpen v) rfl e
  | airTableSegment => exact receive_alarmKept_other (only_handed fun v u => u.only_airSegment v) rfl e
  | airTableCommit => exact receive_alarmKept_other (only_handed fun v u => u.only_airCommit v) rfl e
  | airTableAbort => exact receive_alarmKept_other (only_handed fun v u => u.only_airAbort v) rfl e
  | totalAck => exact receive_alarmKept_other (only_handed fun v u => u.only_acknowledge v) rfl e
  | emergencyAck => exact receive_alarmKept (fun _ _ _ _ => State.acknowledgeEmergency_alarmKept _) e
  | emergencyClear hdr payload =>
    exact receive_alarmKept
      (fun _ _ _ accepted => .of_left (.inl ⟨hdr, payload, rfl, State.screenFrame_toThisCab rfl accepted⟩)) e
  | pass hdr => exact receive_alarmKept_other (only_handed fun v u => u.only_passArrives hdr.mode v) rfl e
  | grant => exact done_alarmKept (.of_only s.only_makeGrant rfl) e
  | txDone => exact done_alarmKept State.takeDone_alarmKept e
  | txFail withDone => exact done_alarmKept (.of_only (s.only_takeFail withDone) rfl) e
  | responseTimerExpiry => exact done_alarmKept (.of_only s.only_expireResponse rfl) e
  | settleTimerExpiry => exact done_alarmKept (.of_only s.only_expireSettle rfl) e
  | placeAppears order => exact done_alarmKept (.of_only (State.only_whenMain (s.only_offerAgain order)) rfl) e
  | ackTimerExpiry => exact done_alarmKept (.of_only (State.only_whenRetained s.only_expireAck) rfl) e
  | linkLossTimerExpiry => exact done_alarmKept (.of_only (State.only_whenMain s.only_loseLink) rfl) e
  | offerLifetimeExpiry id => exact done_alarmKept (.of_only (State.only_whenMain (s.only_expireShown id)) rfl) e
  | bidLifetimeExpiry => exact done_alarmKept (.of_only (State.only_whenMain s.only_expireBid) rfl) e
  | awardWaitExpiry => exact done_alarmKept (.of_only (State.only_whenMain s.only_expireAward) rfl) e
  | inactivityTimerExpiry => exact done_alarmKept (.of_only (State.only_whenMain s.only_expireLoad) rfl) e
  | activation => exact done_alarmKept (State.whenRetained_alarmKept State.takeActivation_alarmKept) e
  | escalation => exact done_alarmKept (State.whenRetained_alarmKept State.takeEscalation_alarmKept) e
  | intervalTimerExpiry => exact done_alarmKept (State.whenRetained_alarmKept State.expireInterval_alarmKept) e
  | seatCheck => exact done_alarmKept (.of_only (State.only_whenRetained s.only_reportSeat) rfl) e
  | ignDebounceEnd => exact done_alarmKept (.of_only s.only_endDebounce rfl) e
  | roofBlinkToggle => exact done_alarmKept (.of_only (State.only_whenRetained s.only_toggleRoof) rfl) e
  | distPulse => exact done_alarmKept (State.whenRetained_alarmKept (.of_state rfl)) e
  | timerTick l => exact done_alarmKept (State.tick_alarmKept l) e
  | meterSecond => exact done_alarmKept State.second_alarmKept e
  | shedEntry => exact done_alarmKept (.of_only s.only_enterShed rfl) e
  | powerUp => exact done_alarmKept (.of_only s.only_powerUp rfl) e
  | supplyReturn => exact done_alarmKept (State.returnSupply_alarmKept fun lost => .inr ⟨lost, .inr rfl⟩) e
  | mainReset level => exact done_alarmKept (State.resetPin_alarmKept level fun lost => .inr ⟨lost, .inl ⟨level, rfl⟩⟩) e

/-- Settles O34, from what a step can make of a raised emergency. -/
theorem emergencyLeftOnlyByClear : Obligations.EmergencyLeftOnlyByClear := by
  intro c s t e alarm
  rcases exec_alarmKept c e (EmergencyState.raised_iff.mpr alarm) with raised | ⟨hdr, payload, clear, own⟩ | lost
  · exact .inl (EmergencyState.raised_iff.mp raised)
  · obtain ⟨set, fleet, mode, cab⟩ := own
    exact .inr (.inl ⟨hdr, payload, clear, mode, cab, fleet, set⟩)
  · exact .inr (.inr lost)

end Sys2Proof.Machine
end

section
/-! PROOFS. Under SILENT the terminal's readings do not show the emergency (R113, log 19). -/

namespace Sys2Proof.Machine

/-- Two states under SILENT that differ in nothing but what an emergency changes: the Emergency Unit, the slot, a report in
flight or none, and the EMERGENCY_DURING flags. -/
structure EmergencyHidden (s u : State) : Prop where
  silent : s.settings.visible = false
  only : OnlyChanges [.emergency, .arbiter, .meter, .store, .check] s u
  queue : u.arbiter.queue = s.arbiter.queue
  inFlight : u.arbiter.inFlight = s.arbiter.inFlight
    ∨ (s.arbiter.inFlight.all fun f => f.kind = 0x49) ∧ (u.arbiter.inFlight.all fun f => f.kind = 0x49)
  meter : ∃ b, u.meter = { s.meter with
    trip := s.meter.trip.map fun x => { x with flags := { x.flags with emergencyDuring := b } } }
  store : ∃ g : TripRecord → Bool, u.store = { s.store with
    records := s.store.records.map fun r => { r with flags := { r.flags with emergencyDuring := g r } } }

variable {s u : State}

/-! ## Flags and kinds that are not shown -/

theorem TripFlags.shown_silent (f : TripFlags) (b : Bool) :
    ({ f with emergencyDuring := b } : TripFlags).shown false = f.shown false := by
  simp [TripFlags.shown]

/-- No frame, or an emergency report in flight, is shown as no kind. -/
theorem State.shownKind_report (silent : s.settings.visible = false)
    (report : s.arbiter.inFlight.all (fun f => f.kind = 0x49) = true) : s.shownKind = 0 := by
  unfold State.shownKind
  cases h : s.arbiter.inFlight with
  | none => rfl
  | some f =>
    have kind : f.kind = 0x49 := by simpa [h] using report
    exact if_pos ⟨kind, silent⟩

namespace EmergencyHidden

variable (h : EmergencyHidden s u)
include h

theorem settings : u.settings = s.settings := h.only.keep .settings (by decide)

theorem identity : u.identity = s.identity := h.only.keep .identity (by decide)

theorem condition : u.condition = s.condition := h.only.condition_eq (by decide)

theorem shownKind : u.shownKind = s.shownKind := by
  rcases h.inFlight with same | ⟨report, report'⟩
  · simp only [State.shownKind, same, h.settings]
  · rw [State.shownKind_report h.silent report, State.shownKind_report (h.settings ▸ h.silent) report']

/-! ## READ_STATUS -/

theorem arbiterFigures : u.arbiterFigures = s.arbiterFigures := by
  simp only [State.arbiterFigures, h.queue, h.shownKind, h.settings, h.silent, Bool.and_false]

theorem emergencyFigures : u.emergencyFigures = s.emergencyFigures := by
  simp only [State.emergencyFigures, h.settings, h.silent, Bool.false_eq_true, if_false]

theorem meterState : u.meter.state = s.meter.state := by
  obtain ⟨b, meter⟩ := h.meter
  rw [meter]

theorem statusFields : u.statusFields = s.statusFields := by
  have link : u.link = s.link := h.only.keep .link (by decide)
  have loader : u.loader = s.loader := h.only.keep .loader (by decide)
  have tariff : u.tariff = s.tariff := h.only.keep .tariff (by decide)
  have addresses : u.addresses = s.addresses := h.only.keep .addresses (by decide)
  have zones : u.zones = s.zones := h.only.keep .zones (by decide)
  have terminal : u.terminal = s.terminal := h.only.keep .terminal (by decide)
  have fault : u.fault = s.fault := h.only.keep .fault (by decide)
  simp only [State.statusFields, h.arbiterFigures, h.emergencyFigures, h.meterState, h.condition, fault,
    State.linkFigures, link, State.loaderFigures, loader, tariff, addresses, zones, h.identity, h.settings,
    State.passUpFigures, terminal]

/-! ## READ_METER -/

theorem tripFields (x : Trip) (b : Bool) :
    u.tripFields { x with flags := { x.flags with emergencyDuring := b } } = s.tripFields x := by
  have hold : u.meter.hold = s.meter.hold := by obtain ⟨_, meter⟩ := h.meter; rw [meter]
  simp only [State.tripFields, State.gateCauses, Trip.total, h.settings, h.silent, TripFlags.shown_silent, h.identity,
    h.condition, h.meterState, hold]

theorem meterFields : u.meterFields = s.meterFields := by
  have shift : u.store.totals = s.store.totals := by obtain ⟨_, store⟩ := h.store; rw [store]
  obtain ⟨b, meter⟩ := h.meter
  have trip : u.meter.trip.map u.tripFields = s.meter.trip.map s.tripFields := by
    rw [meter, Option.map_map]
    exact congrArg (fun f => s.meter.trip.map f) (funext fun x => h.tripFields x b)
  have jobId : u.meter.jobId = s.meter.jobId := by rw [meter]
  have lastTrip : u.meter.lastTrip = s.meter.lastTrip := by rw [meter]
  have onTrip : u.meter.onTrip = s.meter.onTrip := by rw [meter]; rfl
  unfold State.meterFields
  rw [h.meterState, jobId, onTrip, trip, lastTrip, shift]

/-! ## READ_STORE -/

theorem shiftReport : u.shiftReport = s.shiftReport := by
  obtain ⟨g, store⟩ := h.store
  simp only [State.shiftReport, store, h.identity, List.filter_map, List.length_map, List.foldl_map, Function.comp_def]

theorem storeFields : u.storeFields = s.storeFields := by
  obtain ⟨g, store⟩ := h.store
  simp only [State.storeFields, h.shiftReport]
  simp only [store, List.length_map]

theorem recordShown (r : TripRecord) (b : Bool) :
    ({ r with flags := { r.flags with emergencyDuring := b } } : TripRecord).shown u.settings.visible
      = r.shown s.settings.visible := by
  simp only [TripRecord.shown, h.settings, h.silent, TripFlags.shown_silent]

theorem readStore (pos : Nat) : u.readStore pos = s.readStore pos := by
  obtain ⟨g, store⟩ := h.store
  have record : u.store.records[pos - 1]? = (s.store.records[pos - 1]?).map
      fun r => { r with flags := { r.flags with emergencyDuring := g r } } := by rw [store, List.getElem?_map]
  unfold State.readStore
  rw [h.storeFields, record]
  cases s.store.records[pos - 1]? with
  | none => rfl
  | some r => simp only [Option.map_some, h.recordShown]

/-! ## The reply -/

/-- Where the owners' answers agree, the replies do. -/
theorem serve_terminal {t t' : State} {α : Type} {kind tag : Byte} (a : α) {answer : α → State → Answer}
    (runs : s.mainRuns = true) (same : answer a u = answer a s)
    (e : serve kind tag (some a) (reading answer) s = .next t)
    (e' : serve kind tag (some a) (reading answer) u = .next t') : t'.terminal = t.terminal := by
  have runs' : u.mainRuns = true := (h.only.mainRuns_eq (by decide)).trans runs
  have terminal : u.terminal = s.terminal := h.only.keep .terminal (by decide)
  rw [serve_served _ _ _ _ runs] at e
  rw [serve_served _ _ _ _ runs'] at e'
  have replied : ∀ v : State,
      (v.updateCheck ((reading answer a v).1.putReply kind tag (reading answer a v).2)).drive.terminal
        = { v.terminal with reply := some { kind, tag, code := (answer a v).code, payload := (answer a v).payload } } :=
    fun _ => rfl
  cases e
  cases e'
  rw [replied, replied, same, terminal]

end EmergencyHidden

/-- Settles O6, reading by reading: each is answered from fields that the emergency does not reach. -/
theorem silentRepliesHideEmergency : Obligations.SilentRepliesHideEmergency := by
  intro s u t t' c tag p silent runs reads only queue inFlight meter store e e'
  have hidden : EmergencyHidden s u := ⟨silent, only, queue, inFlight, meter, store⟩
  rcases reads with rfl | rfl | rfl
  · have same := congrArg Answer.ok hidden.statusFields
    exact hidden.serve_terminal (answer := fun _ v => .ok v.statusFields) () runs same e e'
  · have same := congrArg Answer.ok hidden.meterFields
    exact hidden.serve_terminal (answer := fun _ v => .ok v.meterFields) () runs same e e'
  · exact hidden.serve_terminal (answer := fun pos v => v.readStore pos) p.toNat runs (hidden.readStore _) e e'

end Sys2Proof.Machine
end

section
/-! PROOFS. The bounds of the routine queue (R140) as a proposition, and the ways in which a queue changes: entries leave,
one joins, and the SHIFT entry is rewritten. -/

namespace Sys2Proof.Machine

variable {s t u : State} {q r : List Entry} {e : Entry} {bs : List Block} {n id : Nat}

/-! ## The bounds -/

/-- The routine queue within the bounds of R140. -/
structure QueueFits (q : List Entry) : Prop where
  first : classCount q 1 ≤ 2
  second : classCount q 2 ≤ 1
  shared : sharedCount q ≤ 6
  bids : (q.filter Entry.isBid).length ≤ 1
  polls : (q.filter fun e => e = .status).length ≤ 1

theorem State.queueBounded_iff : s.queueBounded = true ↔ QueueFits s.arbiter.queue := by
  simp only [State.queueBounded, Config.sharedPlaces, Bool.and_eq_true, decide_eq_true_eq]
  exact ⟨fun ⟨⟨⟨⟨first, second⟩, shared⟩, bids⟩, polls⟩ => ⟨first, second, shared, bids, polls⟩,
    fun h => ⟨⟨⟨⟨h.first, h.second⟩, h.shared⟩, h.bids⟩, h.polls⟩⟩

theorem QueueFits.nil : QueueFits [] := ⟨by decide, by decide, by decide, by decide, by decide⟩

theorem classCount_sublist_le (h : r.Sublist q) (c : Nat) : classCount r c ≤ classCount q c := (h.filter _).length_le

/-- Entries leave: with at most two entries in class 1 the shared count can only fall. -/
theorem QueueFits.sublist (h : QueueFits q) (sub : r.Sublist q) : QueueFits r where
  first := (classCount_sublist_le sub 1).trans h.first
  second := (classCount_sublist_le sub 2).trans h.second
  shared := by
    have shared := h.shared
    have first := h.first
    have le := classCount_sublist_le sub
    have le1 := le 1
    have le3 := le 3
    have le4 := le 4
    have le5 := le 5
    unfold sharedCount at shared ⊢
    split at shared <;> split <;> omega
  bids := ((sub.filter _).length_le).trans h.bids
  polls := ((sub.filter _).length_le).trans h.polls

theorem classCount_erase (mem : e ∈ q) (c : Nat) : classCount (q.erase e) c = classCount q c - if e.cls = c then 1 else 0 := by
  simp [classCount, ← List.countP_eq_length_filter, List.countP_erase, mem]

theorem classCount_pos (mem : e ∈ q) : 1 ≤ classCount q e.cls :=
  List.length_pos_of_mem (List.mem_filter.mpr ⟨mem, decide_eq_true rfl⟩)

/-- A shared place is freed by an entry of classes 3 to 5. -/
theorem sharedCount_erase_lt (mem : e ∈ q) (cls : 3 ≤ e.cls) : sharedCount (q.erase e) < sharedCount q := by
  have held := classCount_pos mem
  have range := e.cls_range
  have kinds : e.cls = 3 ∨ e.cls = 4 ∨ e.cls = 5 := by omega
  simp only [sharedCount, classCount_erase mem]
  rcases kinds with own | own | own <;> simp only [own] at held ⊢ <;> simp <;> omega

/-- A BID entry finds no other BID (R140). -/
theorem hasPlace_bid_first (place : hasPlace q e = true) (bid : e.isBid = true) : q.filter Entry.isBid = [] := by
  cases e with
  | bid offer =>
    simp only [hasPlace, Bool.and_eq_true, Bool.not_eq_true'] at place
    simpa using place.1
  | _ => cases bid

/-- A STATUS entry finds no other STATUS (R140). -/
theorem hasPlace_status_first (place : hasPlace q .status = true) : q.filter (fun e => e = .status) = [] := by
  simp only [hasPlace, Bool.and_eq_true, Bool.not_eq_true', List.contains_eq_mem, decide_eq_false_iff_not] at place
  exact List.filter_eq_nil_iff.mpr fun x hx same => place.1 (of_decide_eq_true same ▸ hx)

/-- An entry joins for which there is a place. -/
theorem QueueFits.append (h : QueueFits q) (place : hasPlace q e = true) : QueueFits (q ++ [e]) := by
  obtain ⟨room, firstRoom, sharedRoom⟩ := hasPlace_room place
  have first := h.first
  have second := h.second
  have shared := h.shared
  have range := e.cls_range
  refine ⟨?_, ?_, ?_, ?_, ?_⟩
  · rw [classCount_append]
    split
    · next cls => rw [cls] at room; exact room
    · exact first
  · rw [classCount_append]
    split
    · next cls => rw [cls] at room; exact room
    · exact second
  · by_cases cls : e.cls = 1
    · have at1 := firstRoom cls
      rw [if_pos cls, cls] at room
      simp only [sharedCount, classCount_append, cls, Config.sharedPlaces, reduceIte] at shared at1 ⊢
      grind
    · simp only [sharedCount, classCount_append, if_neg cls, Config.sharedPlaces] at shared sharedRoom ⊢
      grind
  · rw [List.filter_append, List.length_append]
    by_cases bid : e.isBid = true
    · simp [hasPlace_bid_first place bid, bid]
    · simpa [bid] using h.bids
  · rw [List.filter_append, List.length_append]
    by_cases poll : e = .status
    · subst poll
      simp [hasPlace_status_first place]
    · simpa [poll] using h.polls

/-- Entries are rewritten in place. -/
theorem QueueFits.map (h : QueueFits q) {f : Entry → Entry} (cls : ∀ x, (f x).cls = x.cls)
    (bid : ∀ x, (f x).isBid = x.isBid) (poll : ∀ x, f x = .status ↔ x = .status) : QueueFits (q.map f) := by
  have count : ∀ p r : Entry → Bool, (∀ x, p (f x) = r x) → ((q.map f).filter p).length = (q.filter r).length :=
    fun p r same => by rw [List.filter_map, List.length_map, funext (f := p ∘ f) same]
  have classes : ∀ c, classCount (q.map f) c = classCount q c := fun c => count _ _ fun x => by rw [cls]
  have polls := count (fun x => x = .status) (fun x => x = .status) fun x => decide_eq_decide.mpr (poll x)
  refine ⟨?_, ?_, ?_, ?_, ?_⟩
  · rw [classes]; exact h.first
  · rw [classes]; exact h.second
  · rw [sharedCount, classes, classes, classes, classes]; exact h.shared
  · rw [count _ _ bid]; exact h.bids
  · rw [polls]; exact h.polls

/-! ## From one state to another -/

/-- The bounds of the queue are kept from one state to another. -/
def QueueKept (s t : State) : Prop := QueueFits s.arbiter.queue → QueueFits t.arbiter.queue

namespace QueueKept

theorem trans (h : QueueKept s t) (k : QueueKept t u) : QueueKept s u := k ∘ h

theorem of_queue (h : t.arbiter.queue = s.arbiter.queue) : QueueKept s t := by
  unfold QueueKept
  rw [h]
  exact id

theorem refl (s : State) : QueueKept s s := id

theorem of_only (h : OnlyChanges bs s t) (m : .arbiter ∉ bs) : QueueKept s t :=
  of_queue (congrArg Arbiter.queue (h.keep .arbiter m))

/-- What went before on other blocks does not count. -/
theorem after (h : QueueKept u t) (same : u.arbiter.queue = s.arbiter.queue) : QueueKept s t :=
  (of_queue same).trans h

theorem of_sublist (h : t.arbiter.queue.Sublist s.arbiter.queue) : QueueKept s t := fun k => k.sublist h

theorem of_empty (h : t.arbiter.queue = []) : QueueKept s t := fun _ => h ▸ .nil

/-- What follows on other blocks does not count. -/
theorem andThen (h : QueueKept s t) (k : OnlyChanges bs t u) (m : .arbiter ∉ bs) : QueueKept s u :=
  h.trans (of_only k m)

theorem ite {p : Prop} [Decidable p] (h : QueueKept s t) (k : QueueKept t u) : QueueKept s (if p then u else t) := by
  split
  · exact h.trans k
  · exact h

end QueueKept

theorem State.enqueue_queueKept (place : hasPlace s.arbiter.queue e = true) : QueueKept s (s.enqueue e) :=
  fun h => h.append place

theorem State.dequeue_queueKept (e : Entry) (s : State) : QueueKept s (s.dequeue e) := .of_sublist List.erase_sublist

theorem State.withdraw_queueKept (e : Entry) (s : State) : QueueKept s (s.withdraw e) := .of_sublist List.erase_sublist

theorem State.withInFlight_queueKept (f : Option InFlight) (s : State) : QueueKept s (s.withInFlight f) := .of_queue rfl

theorem State.fillSlot_queueKept (s : State) : QueueKept s s.fillSlot := (QueueKept.refl s).ite (.of_queue rfl)

/-! ## How commands end -/

theorem State.whenMain_queueKept {f : State → State} (h : QueueKept s (f s)) : QueueKept s (s.whenMain f) :=
  (QueueKept.refl s).ite h

theorem State.whenRetained_queueKept {f : State → State} (h : QueueKept s (f s)) : QueueKept s (s.whenRetained f) := by
  unfold State.whenRetained
  split
  · exact .refl s
  · exact h

theorem done_queueKept (h : QueueKept s u) (e : done s u = .next t) : QueueKept s t := by
  obtain rfl : (s.updateCheck u).drive = t := Host.Outcome.next.inj e
  exact h.andThen (s.only_ended u) (by decide)

theorem serve_queueKept {α : Type} {kind tag : Byte} {args : Option α} {owner : α → State → State × Answer}
    (h : ∀ a, QueueKept s (owner a s).1) (e : serve kind tag args owner s = .next t) : QueueKept s t := by
  have replied : ∀ {v : State} {a : Answer}, QueueKept s v → QueueKept s (v.putReply kind tag a) := fun k =>
    k.andThen (State.only_putReply _ _ _ _) (by decide)
  cases m : s.mainRuns with
  | false => exact done_queueKept (.refl s) ((serve_held _ _ _ _ m).symm.trans e)
  | true =>
    cases args with
    | none => exact done_queueKept (replied (.refl s)) ((serve_malformed _ _ _ m).symm.trans e)
    | some a => exact done_queueKept (replied (h a)) ((serve_served _ _ _ _ m).symm.trans e)

theorem serveMeter_queueKept {α : Type} {kind tag : Byte} {states : List MeterState} {args : Option α}
    {owner : α → State → State × Answer} (h : ∀ a, QueueKept s (owner a s).1)
    (e : serveMeter kind tag states args owner s = .next t) : QueueKept s t := by
  unfold serveMeter at e
  split at e
  · exact serve_queueKept h e
  · exact serve_queueKept (owner := fun _ t => t.refused .refusedState) (fun _ => .refl s) e

theorem receive_queueKept {k : DownKind} {hdr : AirHeader} {payload : List Byte} {owner : State → State}
    (h : ∀ u, QueueKept u (owner u)) (e : done s (s.receive k hdr payload owner) = .next t) : QueueKept s t := by
  have closed : QueueKept s (s.withRecord none) := .of_only (s.only_withRecord none) (by decide)
  refine done_queueKept ?_ e
  unfold State.receive
  split
  · refine QueueKept.andThen ?_ (State.only_receiveBoundary _) (by decide)
    split
    · split
      · exact closed
      · exact closed.trans (h _)
    · exact closed.andThen (State.only_offerFault _ _ _ _ _) (by decide)
    · exact closed
  · exact .refl s

theorem handed_queueKept {α : Type} {fields : Except Nat α} {owner : α → State → State}
    (h : ∀ v u, QueueKept u (owner v u)) (u : State) : QueueKept u (handed fields owner u) := by
  rcases handed_cases (s := u) fields owner with ⟨v, -, eq⟩ | eq <;> rw [eq]
  · exact h v u
  · exact .refl u

end Sys2Proof.Machine
end

section
/-! PROOFS. What the owners place, withdraw and rewrite keeps the queue within its bounds (R45, R55, R68 to R78, R85 to R96,
R140 to R142). -/

namespace Sys2Proof.Machine

variable {s t u : State} {e : Entry} {n id : Nat}

/-! ## The Fare Store (R43 to R49, R55) -/

theorem State.placeTotal_queueKept (s : State) : QueueKept s s.placeTotal := by
  rcases s.placeTotal_cases with same | ⟨r, -, -, -, -, place, placed⟩
  · rw [same]
    exact .refl s
  · rw [placed]
    exact (State.enqueue_queueKept place).andThen (State.only_withSender _ _) (by decide)

theorem State.releaseServed_queueKept (trip : Nat) (s : State) : QueueKept s (s.releaseServed trip) := by
  rcases s.releaseServed_cases trip with ⟨same, -⟩ | ⟨-, withdrawn⟩ | ⟨-, idle⟩
  · rw [same]
    exact .refl s
  · rw [withdrawn]
    exact ((s.withdraw_queueKept _).andThen (State.only_withSender _ _) (by decide)).trans (State.placeTotal_queueKept _)
  · rw [idle]
    exact QueueKept.trans (.of_only (s.only_withSender _) (by decide)) (State.placeTotal_queueKept _)

theorem State.foldOldest_queueKept (s : State) : QueueKept s s.foldOldest := by
  cases h : s.store.records with
  | nil => exact .of_queue (by rw [State.foldOldest, h])
  | cons r rest =>
    rw [State.foldOldest_eq h]
    exact QueueKept.trans (.of_only State.only_folded (by decide)) (State.releaseServed_queueKept _ _)

theorem State.enterRecord_queueKept (r : TripRecord) (s : State) : QueueKept s (s.enterRecord r) := by
  have room : QueueKept s s.withRoom := by
    unfold State.withRoom
    split
    · exact .refl s
    · exact s.foldOldest_queueKept
  rw [State.enterRecord_eq]
  exact (room.andThen State.only_entered (by decide)).trans (State.placeTotal_queueKept _)

theorem State.acknowledge_queueKept (trip : Nat) (s : State) : QueueKept s (s.acknowledge trip) := by
  unfold State.acknowledge
  split
  · exact .refl s
  · refine QueueKept.andThen ?_ (State.only_raise _ _) (by decide)
    exact QueueKept.after (State.releaseServed_queueKept _ _) rfl

theorem State.expireAck_queueKept : QueueKept s s.expireAck := by
  unfold State.expireAck
  split
  · exact QueueKept.trans (.of_only (s.only_withSender _) (by decide)) (State.placeTotal_queueKept _)
  · exact .refl s

theorem State.placeShift_queueKept (s : State) : QueueKept s s.placeShift := by
  rcases s.placeShift_cases with same | ⟨r, -, -, -, free, placed⟩
  · rw [same]
    exact .refl s
  · rw [placed]
    exact State.enqueue_queueKept free

/-- A SHIFT entry that is rewritten stays a SHIFT entry. -/
theorem State.rewriteShift_queueKept (number : Nat) (s : State) : QueueKept s (s.rewriteShift number) := fun h => by
  have shift : ∀ x : Entry, x.isShift = true → ∃ n, x = .shift n := fun x own => by
    cases x <;> first | exact ⟨_, rfl⟩ | cases own
  refine h.map (fun x => ?_) (fun x => ?_) fun x => ?_
  all_goals
    split
    · next own =>
      obtain ⟨n, rfl⟩ := shift x (Bool.and_eq_true_iff.mp own).1
      simp [Entry.cls, Entry.isBid]
    · simp

theorem State.shiftPended_queueKept : QueueKept s s.shiftPended :=
  (QueueKept.after (State.rewriteShift_queueKept _ s.reportPending) rfl).trans (State.placeShift_queueKept _)

theorem State.shiftSent_queueKept (number : Nat) (s : State) : QueueKept s (s.shiftSent number) := by
  unfold State.shiftSent
  split
  · exact .refl s
  · split
    · exact .of_queue rfl
    · exact s.placeShift_queueKept

theorem State.shiftFailed_queueKept (s : State) : QueueKept s s.shiftFailed := by
  unfold State.shiftFailed
  split
  · exact .refl s
  · exact s.rewriteShift_queueKept _

theorem State.storeOffers_queueKept (s : State) : QueueKept s s.storeOffers :=
  s.placeTotal_queueKept.trans (State.placeShift_queueKept _)

/-! ## The Offer Unit (R68 to R78, R81) -/

theorem State.placeCancel_queueKept (s : State) : QueueKept s s.placeCancel := by
  rcases s.placeCancel_cases with ⟨same, -⟩ | ⟨c, -, -, -, place, placed⟩
  · rw [same]
    exact .refl s
  · rw [placed]
    exact (State.enqueue_queueKept place).andThen (State.only_setCancel _ _ _) (by decide)

theorem State.placeCancels_queueKept (s : State) : QueueKept s s.placeCancels :=
  s.placeCancel_queueKept.trans (State.placeCancel_queueKept _)

theorem State.oweCancel_queueKept (id : Nat) (reason : CancelReason) (s : State) : QueueKept s (s.oweCancel id reason) :=
  QueueKept.trans (.of_only (s.only_withCancels _) (by decide)) (State.placeCancels_queueKept _)

theorem State.dropBid_queueKept (s : State) : QueueKept s s.dropBid := by
  rcases s.dropBid_cases with ⟨same, -⟩ | ⟨b, -, -, arbiter⟩
  · rw [same]
    exact .refl s
  · refine .of_sublist ?_
    rw [arbiter]
    split
    · exact .refl _
    · exact List.erase_sublist

theorem State.bidDone_queueKept (id : Nat) (s : State) : QueueKept s (s.bidDone id) := by
  unfold State.bidDone
  split
  · exact .refl s
  · split
    · exact .refl s
    · split
      · exact QueueKept.after (State.oweCancel_queueKept _ _ _) rfl
      · exact QueueKept.after (State.placeCancels_queueKept _) rfl

theorem State.bidFailed_queueKept (id : Nat) (s : State) : QueueKept s (s.bidFailed id) := by
  have withdrawn : QueueKept s ((s.withdraw (.bid id)).withBid none) :=
    (s.withdraw_queueKept _).andThen (State.only_withBid _ _) (by decide)
  unfold State.bidFailed
  split
  · exact .refl s
  · split
    · exact .refl s
    · split
      · exact .of_queue rfl
      · have closed := withdrawn.andThen (State.only_closeEntry id .expired _) (by decide)
        exact (closed.andThen (State.only_offerBoundary _) (by decide)).trans (State.placeCancels_queueKept _)
      · exact withdrawn.trans (State.placeCancels_queueKept _)

theorem State.cancelDone_queueKept (id : Nat) (s : State) : QueueKept s (s.cancelDone id) :=
  QueueKept.after (State.placeCancels_queueKept _) rfl

theorem State.acceptOffer_queueKept (id : Nat) : QueueKept s (s.acceptOffer id).1 := by
  unfold State.acceptOffer
  repeat' split
  case isFalse.isFalse.isFalse.isFalse =>
    next full =>
    have place : hasPlace s.arbiter.queue (.bid id) = true := by simpa using full
    have placed : QueueKept (s.setEntry id .bid) ((s.setEntry id .bid).enqueue (.bid id)) := State.enqueue_queueKept place
    exact (QueueKept.trans (.of_only (s.only_setEntry id .bid) (by decide)) placed).andThen (State.only_withBid _ _) (by decide)
  all_goals exact .refl s

theorem State.awardArrives_queueKept (id : Nat) (s : State) : QueueKept s (s.awardArrives id) := by
  unfold State.awardArrives
  split
  · exact .of_only (s.only_takeAward id) (by decide)
  · split
    · exact .refl s
    · exact s.oweCancel_queueKept _ _

theorem State.endBid_queueKept (id : Nat) (st : OfferState) (s : State) : QueueKept s (s.endBid id st) :=
  (s.dropBid_queueKept.andThen (State.only_closeEntry id st _) (by decide)).andThen (State.only_offerBoundary _) (by decide)

theorem State.refuseArrives_queueKept (id : Nat) (s : State) : QueueKept s (s.refuseArrives id) := by
  unfold State.refuseArrives
  split
  · split
    · exact s.endBid_queueKept id .lost
    · exact .refl s
  · exact .refl s

theorem State.withdrawArrives_queueKept (id : Nat) (s : State) : QueueKept s (s.withdrawArrives id) := by
  unfold State.withdrawArrives
  split
  · exact .of_only (s.only_withdrawJob id) (by decide)
  · split
    · exact .of_only (s.only_closeEntry id .withdrawn) (by decide)
    · exact s.endBid_queueKept id .withdrawn
    · have closed : QueueKept s (s.closeEntry id .withdrawn) := .of_only (s.only_closeEntry id .withdrawn) (by decide)
      exact closed.andThen (State.only_withdrawJob id _) (by decide)
    · exact .refl s

theorem State.lapseBid_queueKept (id : Nat) (s : State) : QueueKept s (s.lapseBid id) := by
  rcases s.lapseBid_cases id with ⟨h, -⟩ | ⟨-, h⟩ | ⟨-, h⟩ | ⟨-, h⟩ <;> rw [h]
  · exact .refl s
  · exact s.dropBid_queueKept
  · exact .of_queue rfl
  · exact QueueKept.trans (.of_only (s.only_withBid none) (by decide)) (State.oweCancel_queueKept _ _ _)

theorem State.lapseOffers_queueKept (s : State) : QueueKept s s.lapseOffers := by
  unfold State.lapseOffers
  split
  · exact .of_only s.only_lapseShown (by decide)
  · next x _ =>
    have lapsed : QueueKept s (s.bidLapsed x) := .of_only (State.only_bidLapsed x) (by decide)
    exact (lapsed.trans (State.lapseBid_queueKept x.id _)).andThen (State.only_offerBoundary _) (by decide)

theorem State.expireBid_queueKept (s : State) : QueueKept s s.expireBid := by
  unfold State.expireBid
  split
  · exact .refl s
  · next x _ =>
    split
    · exact s.endBid_queueKept x.id .expired
    · exact .of_queue rfl
    · exact .refl s

/-! ## The Message Store (R85 to R96) -/

theorem State.placeReceipt_queueKept (s : State) : QueueKept s s.placeReceipt := by
  rcases s.placeReceipt_cases with ⟨same, -⟩ | ⟨i, -, -, -, free, -, placed⟩
  · rw [same]
    exact .refl s
  · rw [placed]
    have place : hasPlace s.arbiter.queue i.entry = true := by
      cases i <;> exact free
    exact (State.enqueue_queueKept place).andThen (State.only_setOwedStage _ _ _) (by decide)

theorem State.placeReceipts_queueKept (s : State) : QueueKept s s.placeReceipts :=
  (s.placeReceipt_queueKept.trans (State.placeReceipt_queueKept _)).trans (State.placeReceipt_queueKept _)

theorem State.oweReceipt_queueKept (id : Nat) (kind : ReceiptKind) (s : State) : QueueKept s (s.oweReceipt id kind) := by
  rw [State.oweReceipt_eq]
  exact QueueKept.trans (.of_only (s.only_owing id kind) (by decide)) (State.placeReceipts_queueKept _)

theorem State.removeMessage_queueKept (id : Nat) (s : State) : QueueKept s (s.removeMessage id) := by
  unfold State.removeMessage
  dsimp only
  refine QueueKept.trans ?_ (.of_queue rfl)
  split
  · exact .refl s
  · exact s.withdraw_queueKept _

theorem State.endRefusal_queueKept (s : State) : QueueKept s s.endRefusal := by
  unfold State.endRefusal
  dsimp only
  refine QueueKept.trans ?_ (.of_queue rfl)
  split
  · exact .refl s
  · exact s.withdraw_queueKept _

theorem State.removeForRoom_queueKept (id : Nat) (s : State) : QueueKept s (s.removeForRoom id) :=
  (s.removeMessage_queueKept id).trans (.of_queue rfl)

theorem State.removeAll_queueKept (ids : List Nat) : ∀ s : State,
    QueueKept s (ids.foldl (fun t id => t.removeForRoom id) s) := by
  induction ids with
  | nil => exact .refl
  | cons id ids ih => exact fun s => (s.removeForRoom_queueKept id).trans (ih _)

theorem State.storeMessage_queueKept (f : MessageFields) (s : State) : QueueKept s (s.storeMessage f) := by
  have stored : QueueKept s (s.stored f) := .of_queue (congrArg Arbiter.queue ((State.only_raise _ _).keep .arbiter (by decide)))
  have accepted : QueueKept s (s.accepted f) := stored.ite (State.endRefusal_queueKept _)
  rw [State.storeMessage_eq]
  split
  · exact accepted.trans (State.oweReceipt_queueKept _ _ _)
  · exact accepted.trans (State.placeReceipts_queueKept _)

theorem State.refuseMessage_queueKept (f : MessageFields) (s : State) : QueueKept s (s.refuseMessage f) := by
  unfold State.refuseMessage
  split
  · exact .refl s
  · refine QueueKept.trans ?_ (State.placeReceipts_queueKept _)
    split <;> exact .of_queue rfl

theorem State.messageArrives_queueKept (f : MessageFields) (s : State) : QueueKept s (s.messageArrives f) := by
  unfold State.messageArrives
  split
  · unfold State.duplicateMessage
    split
    · exact s.oweReceipt_queueKept _ _
    · exact .refl s
  · split
    · exact (State.removeAll_queueKept _ s).trans (State.storeMessage_queueKept f _)
    · exact s.refuseMessage_queueKept f

theorem State.recallMessage_queueKept (id : Nat) (s : State) : QueueKept s (s.recallMessage id) := by
  unfold State.recallMessage
  split
  · refine QueueKept.trans ?_ (State.placeReceipts_queueKept _)
    exact (s.removeMessage_queueKept id).ite (.of_only (State.only_raise _ _) (by decide))
  · split
    · exact s.endRefusal_queueKept.trans (State.placeReceipts_queueKept _)
    · exact .refl s

theorem State.receiptDone_queueKept (id : Nat) (s : State) : QueueKept s (s.receiptDone id) := by
  unfold State.receiptDone
  split
  · exact .refl s
  · split
    · exact QueueKept.after (State.placeReceipts_queueKept _) rfl
    · exact QueueKept.after (State.placeReceipts_queueKept _) rfl

theorem State.refusalDone_queueKept (s : State) : QueueKept s s.refusalDone := by
  unfold State.refusalDone
  split
  · exact .refl s
  · refine QueueKept.trans ?_ (State.placeReceipts_queueKept _)
    split <;> exact .of_queue rfl

theorem State.readByDriver_queueKept (id : Nat) : QueueKept s (s.readByDriver id).1 := by
  unfold State.readByDriver
  split
  · exact .refl s
  · next m _ =>
    split
    · have read : QueueKept s (s.mapMessage m.id fun x => { x with state := .read }) := .of_queue rfl
      exact read.ite (State.oweReceipt_queueKept _ _ _)
    · exact .refl s

theorem State.answerByDriver_queueKept (a : Nat × Nat) : QueueKept s (s.answerByDriver a).1 := by
  unfold State.answerByDriver
  repeat' split
  case isFalse.isTrue => exact QueueKept.after (State.oweReceipt_queueKept _ _ _) rfl
  all_goals exact .refl s

theorem State.sendDriver_queueKept (body : DriverText) : QueueKept s (s.sendDriver body).1 := by
  unfold State.sendDriver
  split
  · next free =>
    refine QueueKept.trans (State.enqueue_queueKept (e := .driverMsg _ body) ?_) (.of_queue rfl)
    exact free
  · exact .refl s

theorem State.passUp_queueKept (data : List Byte) : QueueKept s (s.passUp data).1 := by
  unfold State.passUp
  split
  · next free =>
    refine QueueKept.trans (State.enqueue_queueKept (e := .passUp _ data) ?_) (.of_queue rfl)
    exact free
  · exact .refl s

/-! ## The Table Loader (R142, R156 to R161) -/

theorem State.displaced_queue (e : Entry) : (s.displaced e).arbiter.queue = s.arbiter.queue :=
  congrArg Arbiter.queue ((State.only_displaced e s).keep .arbiter (by decide))

/-- The displaced entry leaves a shared place for the result. -/
theorem State.offerResult_queueKept (r : LoadResult) (s : State) : QueueKept s (s.offerResult r) := by
  rcases s.offerResult_cases r with ⟨free, placed⟩ | ⟨e, full, found, placed⟩ | ⟨-, -, same⟩
  · rw [placed]
    exact State.enqueue_queueKept free
  · rw [placed]
    intro h
    obtain ⟨mem, cls, -, -⟩ := State.displaceable_spec found
    have left : ((s.dequeue e).displaced e).arbiter.queue = s.arbiter.queue.erase e := State.displaced_queue e
    have fits : QueueFits ((s.dequeue e).displaced e).arbiter.queue := left ▸ h.sublist List.erase_sublist
    refine fits.append ?_
    change sharedFree _ = true
    rw [left, sharedFree_iff]
    exact (sharedCount_erase_lt mem (by omega)).trans_le h.shared
  · rw [same]
    exact .refl s

theorem State.endLoad_queueKept (port : LoadPort) (r : LoadResult) (s : State) : QueueKept s (s.endLoad port r) := by
  cases port with
  | air => exact QueueKept.after ((s.withContext none).offerResult_queueKept r) rfl
  | terminal => exact .of_queue (congrArg Arbiter.queue ((State.only_raise _ _).keep .arbiter (by decide)))

theorem State.reopen_queueKept (c : Load) (f : OpenFields) (s : State) : QueueKept s (s.reopen c f).1 := by
  unfold State.reopen
  split
  · exact .of_only (s.only_restartLoad c) (by decide)
  · exact (s.endLoad_queueKept _ _).andThen (State.only_openLoad _ _ _) (by decide)

theorem State.airOpen_queueKept (f : OpenFields) (s : State) : QueueKept s (s.airOpen f) := by
  unfold State.airOpen
  extract_lets refusal
  split
  · exact s.offerResult_queueKept _
  · split
    · exact .of_only (s.only_openLoad _ _) (by decide)
    · split
      · exact s.reopen_queueKept _ f
      · exact s.offerResult_queueKept _

theorem State.localOpen_queueKept (svc : Bool) (f : OpenFields) : QueueKept s (s.localOpen svc f).1 := by
  unfold State.localOpen
  split
  · exact .refl s
  · split
    · exact .of_only (s.only_openLoad _ _) (by decide)
    · split
      · exact s.reopen_queueKept _ f
      · exact .refl s

theorem State.takeSegment_queueKept (c : Load) (f : SegmentFields) (s : State) : QueueKept s (s.takeSegment c f).1 := by
  unfold State.takeSegment
  dsimp only
  repeat' split
  · exact s.endLoad_queueKept _ _
  · exact .of_only (s.only_restartLoad _) (by decide)
  · exact s.endLoad_queueKept _ _
  · exact .of_only (s.only_restartLoad _) (by decide)

theorem State.applyIdentity_queueKept (new : Identity) (s : State) : QueueKept s (s.applyIdentity new) := by
  unfold State.applyIdentity
  dsimp only
  split
  · exact .of_queue rfl
  · exact QueueKept.after (State.fillSlot_queueKept _) rfl

theorem State.applyImage_queueKept {table : TableId} {img : List Byte} (h : s.applyImage table img = .ok u) :
    QueueKept s u := by
  unfold State.applyImage at h
  repeat' split at h
  all_goals cases h
  · exact .of_queue rfl
  · exact .of_queue rfl
  · exact .of_queue rfl
  · exact .of_only (s.only_applySettings _) (by decide)
  · exact s.applyIdentity_queueKept _

theorem State.commitLoad_queueKept (c : Load) (check : Nat) (svc : Bool) (s : State) :
    QueueKept s (s.commitLoad c check svc).1 := by
  unfold State.commitLoad
  dsimp only
  repeat' split
  case h_2 u applied => exact (State.applyImage_queueKept applied).trans (u.endLoad_queueKept _ _)
  all_goals exact s.endLoad_queueKept _ _

theorem State.strayLoad_queueKept : QueueKept s s.strayLoad.1 := .of_only (s.only_strayLoad []) (by decide)

theorem State.localSegment_queueKept (f : SegmentFields) : QueueKept s (s.localSegment f).1 := by
  unfold State.localSegment
  split
  · exact s.takeSegment_queueKept _ f
  · exact State.strayLoad_queueKept

theorem State.localCommit_queueKept (svc : Bool) (f : CommitFields) : QueueKept s (s.localCommit svc f).1 := by
  unfold State.localCommit
  split
  · exact s.commitLoad_queueKept _ _ _
  · exact State.strayLoad_queueKept

theorem State.localAbort_queueKept (f : AbortFields) : QueueKept s (s.localAbort f).1 := by
  unfold State.localAbort
  split
  · exact s.endLoad_queueKept _ _
  · exact State.strayLoad_queueKept

theorem State.airSegment_queueKept (f : SegmentFields) (s : State) : QueueKept s (s.airSegment f) := by
  unfold State.airSegment
  split
  · exact s.takeSegment_queueKept _ f
  · exact .refl s

theorem State.airCommit_queueKept (f : CommitFields) (s : State) : QueueKept s (s.airCommit f) := by
  unfold State.airCommit
  split
  · exact s.commitLoad_queueKept _ _ _
  · exact .refl s

theorem State.airAbort_queueKept (f : AbortFields) (s : State) : QueueKept s (s.airAbort f) := by
  unfold State.airAbort
  split
  · exact s.endLoad_queueKept _ _
  · exact .refl s

theorem State.expireLoad_queueKept : QueueKept s s.expireLoad := by
  unfold State.expireLoad
  split
  · split
    · exact s.endLoad_queueKept _ _
    · exact .refl s
  · exact .refl s

end Sys2Proof.Machine
end

section
/-! PROOFS. Every step keeps the routine queue within its bounds (R140). -/

namespace Sys2Proof.Machine

variable {s t u : State}

/-! ## The emergency slot (R103 to R110, R144) -/

theorem QueueKept.of_slotFilled (h : t.arbiter = s.slotFilled) : QueueKept s t := .of_queue (by rw [h]; rfl)

theorem State.takeActivation_queueKept : QueueKept s s.takeActivation :=
  (QueueKept.refl s).ite (.of_slotFilled State.activate_arbiter)

theorem State.takeEscalation_queueKept : QueueKept s s.takeEscalation :=
  (QueueKept.refl s).ite (.of_slotFilled State.escalate_arbiter)

theorem State.acknowledgeEmergency_queueKept (s : State) : QueueKept s s.acknowledgeEmergency := by
  by_cases active : s.emergency.state = .active
  · exact .of_slotFilled (State.acknowledgeEmergency_arbiter active)
  · rw [State.acknowledgeEmergency_idle active]
    exact .refl s

theorem State.clearEmergency_queueKept (s : State) : QueueKept s s.clearEmergency := by
  unfold State.clearEmergency
  refine (QueueKept.refl s).ite (QueueKept.andThen ?_ (State.only_raiseEmergency _) (by decide))
  exact .of_queue rfl

theorem State.expireInterval_queueKept : QueueKept s s.expireInterval := by
  unfold State.expireInterval
  refine (QueueKept.refl s).ite (.of_queue ?_)
  rw [State.reportDue_arbiter]
  rfl

/-! ## The arbiter's own steps (R143 to R151) -/

theorem State.pollArrives_queueKept (s : State) : QueueKept s s.pollArrives := by
  unfold State.pollArrives
  split
  · next place => exact State.enqueue_queueKept place.2
  · exact .refl s

theorem State.makeGrant_queueKept : QueueKept s s.makeGrant := by
  rcases s.makeGrant_cases with ⟨same, -⟩ | ⟨-, slot⟩ | ⟨e, -, entry⟩
  · rw [same]
    exact .refl s
  · rw [slot]
    exact .of_queue rfl
  · rw [entry]
    have charged : QueueKept s s.charge := .of_only s.only_charge (by decide)
    refine QueueKept.andThen (charged.trans ?_) (State.only_tellGrant e _) (by decide)
    exact .of_queue rfl

theorem State.tellDone_queueKept (g : Granted) (s : State) : QueueKept s (s.tellDone g) := by
  cases g with
  | slot => exact .of_only s.only_reportDone (by decide)
  | detached => exact .refl s
  | entry e =>
    cases e with
    | bid offer => exact s.bidDone_queueKept offer
    | bidCancel offer => exact s.cancelDone_queueKept offer
    | total trip => exact .of_only (s.only_totalSent trip) (by decide)
    | receipt id => exact s.receiptDone_queueKept id
    | receiptRefusal => exact s.refusalDone_queueKept
    | driverMsg number => exact .of_only (s.only_driverDone number) (by decide)
    | shift number => exact s.shiftSent_queueKept number
    | passUp | status | tableResult => exact .of_queue rfl

theorem State.tellFail_queueKept (g : Granted) (s : State) : QueueKept s (s.tellFail g) := by
  cases g with
  | slot => exact s.fillSlot_queueKept
  | detached => exact .refl s
  | entry e =>
    cases e with
    | bid offer => exact s.bidFailed_queueKept offer
    | bidCancel offer => exact .of_only (s.only_setCancel offer .queued) (by decide)
    | receipt id => exact .of_only (s.only_receiptFailed id) (by decide)
    | receiptRefusal => exact .of_only s.only_refusalFailed (by decide)
    | shift number => exact s.shiftFailed_queueKept
    | total | driverMsg | passUp | status | tableResult => exact .refl s

theorem State.frameDone_queueKept (f : InFlight) (s : State) : QueueKept s (s.frameDone f) := by
  refine QueueKept.trans ?_ (State.tellDone_queueKept f.granted _)
  cases f.granted with
  | entry e => exact QueueKept.after ((s.withInFlight none).dequeue_queueKept e) rfl
  | slot | detached => exact .of_queue rfl

theorem State.frameFailed_queueKept (f : InFlight) (s : State) : QueueKept s (s.frameFailed f) := by
  refine QueueKept.trans ?_ (State.tellFail_queueKept f.granted _)
  exact QueueKept.andThen (s.withInFlight_queueKept none) (State.only_giveBack _ _) (by decide)

theorem State.takeDone_queueKept : QueueKept s s.takeDone := by
  unfold State.takeDone
  split
  · exact .refl s
  · split
    · exact s.frameDone_queueKept _
    · exact .of_only (s.only_strayResult 1) (by decide)

theorem State.takeFail_queueKept (withDone : Bool) : QueueKept s (s.takeFail withDone) := by
  unfold State.takeFail
  split
  · exact .refl s
  · split
    · next f _ =>
      refine QueueKept.trans ?_ (State.frameFailed_queueKept f _)
      exact (QueueKept.refl s).ite (.of_only (State.only_offerFault _ _ _ _ _) (by decide))
    · exact .of_only (s.only_strayResult _) (by decide)

theorem State.expireResponse_queueKept : QueueKept s s.expireResponse := by
  unfold State.expireResponse
  split
  · exact .refl s
  · split
    · next f _ =>
      split
      · have counted : QueueKept s (s.offerFault .modemTimeout .air f.kind (f.cls.getD 0)) :=
          .of_only (State.only_offerFault _ _ _ _ _) (by decide)
        refine QueueKept.trans (counted.trans ?_) (State.frameFailed_queueKept f _)
        exact .of_queue rfl
      · exact .refl s
    · exact .refl s

theorem State.expireSettle_queueKept : QueueKept s s.expireSettle := (QueueKept.refl s).ite (.of_queue rfl)

theorem State.offerAgain_queueKept (order : OfferOrder) (s : State) : QueueKept s (s.offerAgain order) := by
  have cancels : ∀ u : State, QueueKept u u.placeCancels := State.placeCancels_queueKept
  have receipts : ∀ u : State, QueueKept u u.placeReceipts := State.placeReceipts_queueKept
  have store : ∀ u : State, QueueKept u u.storeOffers := State.storeOffers_queueKept
  cases order with
  | offersStoreMessages => exact ((cancels s).trans (store _)).trans (receipts _)
  | offersMessagesStore => exact ((cancels s).trans (receipts _)).trans (store _)
  | storeOffersMessages => exact ((store s).trans (cancels _)).trans (receipts _)
  | storeMessagesOffers => exact ((store s).trans (receipts _)).trans (cancels _)
  | messagesOffersStore => exact ((receipts s).trans (cancels _)).trans (store _)
  | messagesStoreOffers => exact ((receipts s).trans (store _)).trans (cancels _)

theorem State.offerAfterReset_queueKept (s : State) : QueueKept s s.offerAfterReset :=
  (s.offerAgain_queueKept _).trans (State.fillSlot_queueKept _)

/-! ## Time, supply and resets (R154, R188 to R191) -/

theorem State.tick_queueKept (lines : TickLines) : QueueKept s (s.tick lines) := by
  cases held : s.monitor.holding with
  | true => exact .of_queue (by rw [State.tick_holding held]; rfl)
  | false =>
    rw [State.tick_running held]
    have switched : QueueKept s (s.switchTicked lines) :=
      QueueKept.after (u := s.seatTicked lines) (.of_only State.only_switchTicked (by decide)) rfl
    exact (switched.trans (State.whenMain_queueKept (.of_queue rfl))).trans (.of_queue rfl)

/-- A reset empties the queue, and what the owners then offer again finds its place. -/
theorem State.restarted_queueKept (lost endsShed : Bool) (s : State) : QueueKept u (s.restarted lost endsShed) := by
  unfold State.restarted
  extract_lets s4 s5 s6 s7
  have h4 : QueueKept u s4 := .of_empty rfl
  have h5 : QueueKept u s5 := h4.ite (.of_queue rfl)
  have h6 : QueueKept u s6 := h5.ite (.of_queue rfl)
  have h7 : QueueKept u s7 := h6.ite (.of_queue rfl)
  exact h7.ite s7.offerAfterReset_queueKept

theorem State.resetPin_queueKept (level : Bool) : QueueKept s (s.resetPin level) := by
  have pin : QueueKept s (s.withMonitor { s.monitor with resetLow := !level }) := .of_queue rfl
  unfold State.resetPin
  dsimp only
  split
  · exact pin
  · split
    · exact QueueKept.after (State.offerAfterReset_queueKept _) rfl
    · exact State.restarted_queueKept _ false (State.tested false _)

theorem State.returnSupply_queueKept : QueueKept s s.returnSupply :=
  (QueueKept.refl s).ite (State.restarted_queueKept s.checkFails true (s.tested true))

theorem State.enterShed_queueKept : QueueKept s s.enterShed := (QueueKept.refl s).ite (.of_empty rfl)

theorem State.softReset_queueKept : QueueKept s s.softReset := by
  unfold State.softReset
  dsimp only
  refine QueueKept.trans ?_ (State.offerAfterReset_queueKept _)
  split
  · exact .of_empty rfl
  · exact .of_empty (congrArg Arbiter.queue ((State.only_raise _ _).keep .arbiter (by decide)))

/-! ## Every command -/

theorem State.hire_queueKept (n : Nat) : QueueKept s (s.hire n).1 := by
  unfold State.hire
  split
  · next f b _ _ =>
    have hired : QueueKept s (s.hiredWith f b) := .of_only State.only_hiredWith (by decide)
    change QueueKept s (s.startTrip f b)
    by_cases assigned : s.meter.state = .assigned
    · rw [State.startTrip_assigned assigned]
      exact hired.andThen (State.only_closeAwarded _ _ _) (by decide)
    · rw [show s.startTrip f b = (s.hiredWith f b).lapseOffers from if_neg assigned]
      exact hired.trans (State.lapseOffers_queueKept _)
  · exact .refl s

theorem State.closeShift_queueKept : QueueKept s s.closeShift.1 :=
  State.shiftPended_queueKept.trans (State.lapseOffers_queueKept _)

theorem State.cancelJob_queueKept : QueueKept s s.cancelJob.1 := by
  unfold State.cancelJob
  cases s.meter.jobId with
  | none => exact .of_queue rfl
  | some id =>
    have owed : QueueKept s (s.oweCancel id .driverCancel) := s.oweCancel_queueKept _ _
    exact (owed.andThen (State.only_closeAwarded _ _ _) (by decide)).trans (.of_queue rfl)

theorem State.payTrip_queueKept : QueueKept s s.payTrip.1 := by
  unfold State.payTrip
  dsimp only
  split
  · exact .refl s
  · exact (QueueKept.trans (.of_only s.only_closePulses (by decide)) (State.enterRecord_queueKept _ _)).andThen (bs := [.meter])
      (.withMeter (.refl _) (by decide)) (by decide)

theorem State.openShift_queueKept : QueueKept s s.openShift.1 := by
  unfold State.openShift
  repeat' split
  all_goals exact .of_queue rfl

theorem State.takeExtra_queueKept (i : Nat) : QueueKept s (s.takeExtra i).1 := by
  unfold State.takeExtra
  repeat' split
  all_goals exact .of_queue rfl

theorem exec_queueKept (c : Instr) (e : exec c s = .next t) : QueueKept s t := by
  cases c with
  | shiftOpen => exact serveMeter_queueKept (fun _ => State.openShift_queueKept) e
  | shiftClose => exact serveMeter_queueKept (fun _ => State.closeShift_queueKept) e
  | jobCancel => exact serveMeter_queueKept (fun _ => State.cancelJob_queueKept) e
  | hire => exact serveMeter_queueKept State.hire_queueKept e
  | paid => exact serveMeter_queueKept (fun _ => State.payTrip_queueKept) e
  | endTrip | holdOn | holdOff => exact serveMeter_queueKept (fun _ => .of_queue rfl) e
  | extra => exact serveMeter_queueKept State.takeExtra_queueKept e
  | readStatus | readNotices | readOffers | readMeter | readStore | readMessage | readFault | clearEvents | noticeSetup
  | releaseFault => exact serve_queueKept (fun _ => .of_queue rfl) e
  | accept => exact serve_queueKept State.acceptOffer_queueKept e
  | dismiss => exact serve_queueKept (fun a => .of_only (s.only_dismissOffer a) (by decide)) e
  | position => exact serve_queueKept (fun a => .of_only (s.only_position a) (by decide)) e
  | msgRead => exact serve_queueKept State.readByDriver_queueKept e
  | msgAnswer => exact serve_queueKept State.answerByDriver_queueKept e
  | driverMsg => exact serve_queueKept State.sendDriver_queueKept e
  | readPass => exact serve_queueKept (fun _ => .of_only s.only_readPass (by decide)) e
  | passUp => exact serve_queueKept State.passUp_queueKept e
  | localTableOpen svc => exact serve_queueKept (State.localOpen_queueKept svc) e
  | localTableSegment => exact serve_queueKept State.localSegment_queueKept e
  | localTableCommit svc => exact serve_queueKept (State.localCommit_queueKept svc) e
  | localTableAbort => exact serve_queueKept State.localAbort_queueKept e
  | softReset => exact serve_queueKept (owner := fun _ t => t.softReset.answered []) (fun _ => State.softReset_queueKept) e
  | localFrameMalformed bytes =>
    exact done_queueKept (.of_only (State.only_whenMain (s.only_rejectLocal bytes)) (by decide)) e
  | startMarker => exact done_queueKept (.of_only s.only_startMarker (by decide)) e
  | airFrameRejected bytes => exact done_queueKept (.of_only (s.only_rejectFrame bytes) (by decide)) e
  | offer hdr =>
    exact receive_queueKept (handed_queueKept fun v u => .of_only (u.only_offerArrives (offerZone hdr) v) (by decide)) e
  | offerWithdraw => exact receive_queueKept (handed_queueKept State.withdrawArrives_queueKept) e
  | award => exact receive_queueKept (handed_queueKept State.awardArrives_queueKept) e
  | refuse => exact receive_queueKept (handed_queueKept State.refuseArrives_queueKept) e
  | message => exact receive_queueKept (handed_queueKept State.messageArrives_queueKept) e
  | messageRecall => exact receive_queueKept (handed_queueKept State.recallMessage_queueKept) e
  | cycle => exact receive_queueKept (handed_queueKept fun v u => .of_only (u.only_takeCycle v) (by decide)) e
  | statusPoll => exact receive_queueKept State.pollArrives_queueKept e
  | airTableOpen => exact receive_queueKept (handed_queueKept State.airOpen_queueKept) e
  | airTableSegment => exact receive_queueKept (handed_queueKept State.airSegment_queueKept) e
  | airTableCommit => exact receive_queueKept (handed_queueKept State.airCommit_queueKept) e
  | airTableAbort => exact receive_queueKept (handed_queueKept State.airAbort_queueKept) e
  | totalAck => exact receive_queueKept (handed_queueKept State.acknowledge_queueKept) e
  | emergencyAck => exact receive_queueKept State.acknowledgeEmergency_queueKept e
  | emergencyClear => exact receive_queueKept State.clearEmergency_queueKept e
  | pass hdr => exact receive_queueKept (handed_queueKept fun v u => .of_only (u.only_passArrives hdr.mode v) (by decide)) e
  | grant => exact done_queueKept State.makeGrant_queueKept e
  | txDone => exact done_queueKept State.takeDone_queueKept e
  | txFail withDone => exact done_queueKept (State.takeFail_queueKept withDone) e
  | responseTimerExpiry => exact done_queueKept State.expireResponse_queueKept e
  | settleTimerExpiry => exact done_queueKept State.expireSettle_queueKept e
  | placeAppears order => exact done_queueKept (State.whenMain_queueKept (s.offerAgain_queueKept order)) e
  | ackTimerExpiry => exact done_queueKept (State.whenRetained_queueKept State.expireAck_queueKept) e
  | linkLossTimerExpiry => exact done_queueKept (.of_only (State.only_whenMain s.only_loseLink) (by decide)) e
  | offerLifetimeExpiry id => exact done_queueKept (.of_only (State.only_whenMain (s.only_expireShown id)) (by decide)) e
  | bidLifetimeExpiry => exact done_queueKept (State.whenMain_queueKept s.expireBid_queueKept) e
  | awardWaitExpiry => exact done_queueKept (.of_only (State.only_whenMain s.only_expireAward) (by decide)) e
  | inactivityTimerExpiry => exact done_queueKept (State.whenMain_queueKept State.expireLoad_queueKept) e
  | activation => exact done_queueKept (State.whenRetained_queueKept State.takeActivation_queueKept) e
  | escalation => exact done_queueKept (State.whenRetained_queueKept State.takeEscalation_queueKept) e
  | intervalTimerExpiry => exact done_queueKept (State.whenRetained_queueKept State.expireInterval_queueKept) e
  | seatCheck => exact done_queueKept (.of_only (State.only_whenRetained s.only_reportSeat) (by decide)) e
  | ignDebounceEnd => exact done_queueKept (.of_only s.only_endDebounce (by decide)) e
  | roofBlinkToggle => exact done_queueKept (.of_only (State.only_whenRetained s.only_toggleRoof) (by decide)) e
  | distPulse => exact done_queueKept (State.whenRetained_queueKept (.of_queue rfl)) e
  | timerTick lines => exact done_queueKept (State.tick_queueKept lines) e
  | meterSecond => exact done_queueKept (.of_only s.only_second (by decide)) e
  | shedEntry => exact done_queueKept State.enterShed_queueKept e
  | supplyReturn => exact done_queueKept State.returnSupply_queueKept e
  | powerUp => exact done_queueKept (.of_empty rfl) e
  | mainReset level => exact done_queueKept (State.resetPin_queueKept level) e

theorem step_queueKept (e : step s = .next t) : QueueKept s t := by
  unfold step at e
  cases waiting : s.pending with
  | nil =>
    rw [waiting] at e
    exact Host.Outcome.next.inj e ▸ .refl s
  | cons c rest =>
    rw [waiting] at e
    exact QueueKept.after (exec_queueKept (s := s.withPending rest) c e) rfl

/-- Settles O53: the bounds look at the queue alone, and every command keeps them. -/
theorem queueStaysBounded : Obligations.QueueStaysBounded := fun _ _ h e =>
  State.queueBounded_iff.mpr (step_queueKept e (State.queueBounded_iff.mp h))

end Sys2Proof.Machine
end

section
/-! PROOFS. The modem's results and timeouts: which step each leads to, and the faults they offer (R147 to R151). -/

namespace Sys2Proof.Machine

variable {s t u : State} {f : InFlight}

/-! ## Which step a result leads to -/

theorem State.takeDone_frame (m : s.mainRuns = true) (h : s.arbiter.inFlight = some f) : s.takeDone = s.frameDone f := by
  simp [State.takeDone, m, h]

theorem State.takeDone_stray (m : s.mainRuns = true) (h : s.arbiter.inFlight = none) : s.takeDone = s.strayResult 1 := by
  simp [State.takeDone, m, h]

theorem State.takeFail_frame (m : s.mainRuns = true) (h : s.arbiter.inFlight = some f) (withDone : Bool) :
    s.takeFail withDone = (if withDone then s.offerFault .modemProtocol .air f.kind 3 else s).frameFailed f := by
  simp [State.takeFail, m, h]

theorem State.takeFail_stray (m : s.mainRuns = true) (h : s.arbiter.inFlight = none) (withDone : Bool) :
    s.takeFail withDone = s.strayResult (if withDone then 3 else 2) := by
  simp [State.takeFail, m, h]

/-- The frame has timed out: the fault is offered, and the settle timer runs (R150). -/
def State.timedOut (s : State) (f : InFlight) : State :=
  (s.offerFault .modemTimeout .air f.kind (f.cls.getD 0)).withArbiter { s.arbiter with settle := some 2 }

theorem State.expireResponse_due (m : s.mainRuns = true) (h : s.arbiter.inFlight = some f) (due : f.timer = 0) :
    s.expireResponse = (s.timedOut f).frameFailed f := by
  have arbiter : (s.offerFault .modemTimeout .air f.kind (f.cls.getD 0)).arbiter = s.arbiter :=
    (State.only_offerFault _ _ _ _ s).keep .arbiter (by decide)
  simp [State.expireResponse, State.timedOut, m, h, due, arbiter, Config.settleTicks]

theorem State.expireResponse_idle (h : s.arbiter.inFlight = some f) (running : f.timer ≠ 0) : s.expireResponse = s := by
  simp [State.expireResponse, h, running]

/-! ## Strays (R151) -/

theorem State.strayResult_settling (h : s.arbiter.settle ≠ none) (detail : Nat) : s.strayResult detail = s := by
  simp [State.strayResult, Option.isSome_iff_ne_none, h]

/-- A stray result offers its fault, and changes nothing else. -/
theorem stray_offered (m : s.mainRuns = true) (settled : s.arbiter.settle = none) (detail : Nat) :
    OnlyChanges [.fault, .events, .pins] s (s.updateCheck (s.strayResult detail)).drive
      ∧ FaultOffered .modemProtocol .air 0 detail s (s.updateCheck (s.strayResult detail)).drive := by
  have stray : s.strayResult detail = s.offerFault .modemProtocol .air 0 detail := by simp [State.strayResult, settled]
  rw [stray]
  exact ⟨(OnlyChanges.offerFault _ _ _ _ (.refl s) (by decide)).endedMain (by decide) (by decide),
    (State.offerFault_offered .modemProtocol .air 0 detail m).of_unchanged (OnlyChanges.refl (bs := []) s)
      (s.only_ended _) (by decide) (by decide)⟩

/-! ## Faults of a frame in flight (R149, R150) -/

/-- What the frame leaves behind touches no fault. -/
theorem frameFailed_fault (s u : State) (f : InFlight) : (s.updateCheck (u.frameFailed f)).drive.fault = u.fault :=
  ((State.only_ended s _).keep .fault (by decide)).trans ((State.only_frameFailed f u).keep .fault (by decide))

theorem State.offerFault_captured (m : s.mainRuns = true) (kind : FaultKind) (port : FaultPort) (kindByte detail : Nat) :
    (s.offerFault kind port kindByte detail).fault = s.faultAfter kind port kindByte detail := by
  rw [State.offerFault_fault, if_pos m]

/-! ## The settle timer (R150) -/

theorem State.expireSettle_due (m : s.mainRuns = true) (due : s.arbiter.settle = some 0) :
    s.expireSettle = s.withArbiter { s.arbiter with settle := none } := if_pos ⟨m, due⟩

theorem State.expireSettle_idle (h : s.arbiter.settle ≠ some 0) : s.expireSettle = s := if_neg fun due => h due.2

/-- TX_ABORT falls as the settle timer stops. -/
theorem txAbort_stops (m : s.mainRuns = true) :
    (s.updateCheck (s.withArbiter { s.arbiter with settle := none })).drive.pins.txAbort = false :=
  if_pos (State.supplyUp_of_mainRuns m)

/-- Settles O43: each result leads to the end of a frame, to a stray fault, or nowhere. -/
theorem modemFaults : Obligations.ModemFaults := by
  intro s m
  refine ⟨fun f h => ⟨⟨_, rfl, ?_⟩, ⟨_, rfl, ?_⟩, fun due => ⟨_, rfl, ?_⟩, fun running => ⟨_, rfl, ?_⟩⟩,
    fun none => ⟨fun settled => ⟨⟨_, rfl, ?_⟩, ⟨_, rfl, ?_⟩, ⟨_, rfl, ?_⟩⟩, fun settling c result => ?_⟩,
    ⟨_, rfl, fun due => ?_, fun idle => ?_⟩⟩
  · rw [State.takeFail_frame m h, frameFailed_fault]
    exact State.offerFault_captured m _ _ _ _
  · rw [State.takeFail_frame m h, frameFailed_fault]
    rfl
  · rw [State.expireResponse_due m h due, frameFailed_fault]
    exact State.offerFault_captured m _ _ _ _
  · rw [State.expireResponse_idle h running]
    exact s.only_ended_self
  · rw [State.takeDone_stray m none]
    exact stray_offered m settled 1
  · rw [State.takeFail_stray m none]
    exact stray_offered m settled 2
  · rw [State.takeFail_stray m none]
    exact stray_offered m settled 3
  · have ignored : ∀ u : State, u = s → OnlyChanges [.pins] s (s.updateCheck u).drive := fun u same =>
      same ▸ s.only_ended_self
    rcases result with rfl | rfl | rfl
    · exact ⟨_, rfl, ignored _ ((State.takeDone_stray m none).trans (State.strayResult_settling settling _))⟩
    · exact ⟨_, rfl, ignored _ ((State.takeFail_stray m none _).trans (State.strayResult_settling settling _))⟩
    · exact ⟨_, rfl, ignored _ ((State.takeFail_stray m none _).trans (State.strayResult_settling settling _))⟩
  · rw [State.expireSettle_due m due]
    exact ⟨(OnlyChanges.withArbiter (.refl s) (by decide)).endedMain (by decide) (by decide), rfl, txAbort_stops m⟩
  · rw [State.expireSettle_idle idle]
    exact s.only_ended_self

end Sys2Proof.Machine
end

section
/-! PROOFS. A frame that ends unsent: its charge is given back, and its owner keeps its entry or gives it up (R149, R150). -/

namespace Sys2Proof.Machine

variable {s t u v : State} {f : InFlight} {c : Instr} {b : BidRecord} {e : Entry} {g : Granted} {id : Nat}
  {es : List EventKind}

/-! ## The charge is given back (R134) -/

theorem State.giveBack_link (cycle : Option Nat) : (s.giveBack cycle).link = { s.link with
    allowance :=
      if s.link.allowance < ((s.link.cycle.map CycleNow.loaded).getD 0) ∧ cycle ≠ none
          ∧ cycle = s.link.cycle.map CycleNow.number then s.link.allowance + 1
      else s.link.allowance } := by
  unfold State.giveBack
  split
  · next now n current =>
    have due : (s.link.allowance < ((s.link.cycle.map CycleNow.loaded).getD 0) ∧ some n ≠ none
        ∧ some n = s.link.cycle.map CycleNow.number) ↔ now.number = n ∧ s.link.allowance < now.loaded := by
      simp [current, and_comm, eq_comm]
    simp only [due]
    split
    · rfl
    · rfl
  · next other =>
    rw [if_neg]
    rintro ⟨-, charged, same⟩
    obtain ⟨n, rfl⟩ := Option.ne_none_iff_exists'.mp charged
    obtain ⟨now, current, -⟩ := Option.map_eq_some_iff.mp same.symm
    exact other now n current rfl

/-! ## The frame is lost -/

/-- The results that end a frame unsent: TX_FAIL, alone or with TX_DONE, and a timeout that is due. -/
def LosesFrame (c : Instr) (f : InFlight) : Prop :=
  c = .txFail false ∨ c = .txFail true ∨ c = .responseTimerExpiry ∧ f.timer = 0

/-- How far a failed result has got when the owner is told: the fault is offered, the in-flight record is empty, and
the charge is given back. -/
structure FrameLost (c : Instr) (f : InFlight) (s v : State) : Prop where
  only : OnlyChanges [.arbiter, .link, .fault, .events] s v
  arbiter : v.arbiter = { s.arbiter with
    inFlight := none, settle := if c = .responseTimerExpiry then some 2 else s.arbiter.settle }
  link : v.link = (s.giveBack f.cycle).link
  raised : Raised (if c ≠ .txFail false ∧ s.fault.isNone then [.fault] else []) s v

/-- A frame that is taken back from the modem and un-charged. -/
def State.recover (f : InFlight) (s : State) : State := (s.withInFlight none).giveBack f.cycle

theorem State.recover_arbiter (s : State) : (s.recover f).arbiter = { s.arbiter with inFlight := none } :=
  (State.only_giveBack f.cycle _).keep .arbiter (by decide)

theorem State.recover_events (s : State) : (s.recover f).events = s.events :=
  (State.only_giveBack f.cycle _).keep .events (by decide)

theorem State.recover_link (u s : State) (same : u.link = s.link) : (u.recover f).link = (s.giveBack f.cycle).link := by
  have kept : (u.withInFlight none).link = s.link := same
  rw [State.recover, State.giveBack_link, State.giveBack_link, kept]

theorem State.only_recover (s : State) : OnlyChanges [.arbiter, .link] s (s.recover f) :=
  .giveBack _ (.withInFlight _ (.refl s) (by decide)) (by decide)

/-- What precedes the recovery touches the fault, the events and the settle timer. -/
theorem FrameLost.of_recover (only : OnlyChanges [.arbiter, .fault, .events] s u)
    (arbiter : u.arbiter = { s.arbiter with settle := if c = .responseTimerExpiry then some 2 else s.arbiter.settle })
    (raised : Raised (if c ≠ .txFail false ∧ s.fault.isNone then [.fault] else []) s u) :
    FrameLost c f s (u.recover f) where
  only := (only.mono (by decide)).andThen (u.only_recover.mono (by decide))
  arbiter := by rw [State.recover_arbiter, arbiter]
  link := State.recover_link u s (only.keep .link (by decide))
  raised := raised.kept u.recover_events

theorem State.offerFault_raised (m : s.mainRuns = true) (k : FaultKind) (p : FaultPort) (n d : Nat) :
    Raised (if s.fault.isNone then [.fault] else []) s (s.offerFault k p n d) :=
  (State.offerFault_offered k p n d m).2

/-- Each such result leads to a state with the frame lost, in which the owner is told. -/
theorem exec_losesFrame (m : s.mainRuns = true) (h : s.arbiter.inFlight = some f) (lost : LosesFrame c f) :
    ∃ v, FrameLost c f s v ∧ exec c s = .next (s.updateCheck (v.tellFail f.granted)).drive := by
  rcases lost with rfl | rfl | ⟨rfl, due⟩
  · exact ⟨s.recover f, .of_recover (.refl s) rfl rfl, congrArg (done s) (State.takeFail_frame m h false)⟩
  · have only := State.only_offerFault .modemProtocol .air f.kind 3 s
    refine ⟨(s.offerFault .modemProtocol .air f.kind 3).recover f, .of_recover (only.mono (by decide)) ?_ ?_,
      congrArg (done s) (State.takeFail_frame m h true)⟩
    · exact only.keep .arbiter (by decide)
    · simpa using State.offerFault_raised m .modemProtocol .air f.kind 3
  · have only := State.only_offerFault .modemTimeout .air f.kind (f.cls.getD 0) s
    refine ⟨(s.timedOut f).recover f, .of_recover ?_ rfl ?_, congrArg (done s) (State.expireResponse_due m h due)⟩
    · exact .withArbiter (only.mono (by decide)) (by decide)
    · simpa using (State.offerFault_raised m .modemTimeout .air f.kind (f.cls.getD 0)).kept (u := s.timedOut f) rfl

/-! ## The Offer Unit is told (R69, R70, R77) -/

/-- The bid record is removed, and its entry leaves the queue. -/
def State.bidGivenUp (id : Nat) (s : State) : State := (s.withdraw (.bid id)).withBid none

/-- The lifetime that ran out in flight takes effect (R70). -/
def State.bidExpired (id : Nat) (s : State) : State := ((s.bidGivenUp id).closeEntry id .expired).offerBoundary

theorem State.bidFailed_other (h : ∀ b, s.offers.bid = some b → b.offer ≠ id) : s.bidFailed id = s := by
  unfold State.bidFailed
  split
  · rfl
  · next b record => rw [if_pos (h b record)]

section
variable (record : s.offers.bid = some b)
include record

theorem State.bidFailed_kept (mark : b.mark = .none) :
    s.bidFailed b.offer = s.withBid (some { b with stage := .queued }) := by
  simp [State.bidFailed, record, mark]

theorem State.bidFailed_expired (mark : b.mark = .expiryPending) :
    s.bidFailed b.offer = (s.bidExpired b.offer).placeCancels := by
  simp [State.bidFailed, record, mark, State.bidExpired, State.bidGivenUp]

theorem State.bidFailed_cancelled (mark : b.mark = .cancelOnDone) :
    s.bidFailed b.offer = (s.bidGivenUp b.offer).placeCancels := by
  simp [State.bidFailed, record, mark, State.bidGivenUp]

end

theorem State.bidExpired_only (id : Nat) (s : State) : OnlyChanges [.offers, .events] (s.bidGivenUp id) (s.bidExpired id) :=
  .offerBoundary (.closeEntry _ _ (.refl _) (by decide)) (by decide)

theorem State.bidExpired_arbiter : (s.bidExpired id).arbiter = s.arbiter.without (.bid id) :=
  (s.bidExpired_only id).keep .arbiter (by decide)

theorem State.bidExpired_mainRuns : (s.bidExpired id).mainRuns = s.mainRuns :=
  (s.bidExpired_only id).mainRuns_eq (by decide)

theorem State.bidExpired_cancels : (s.bidExpired id).offers.cancels = s.offers.cancels := by
  rw [State.bidExpired, State.offerBoundary_cancels, State.closeEntry_offers]
  rfl

theorem State.bidExpired_bid : (s.bidExpired id).offers.bid = none := by
  rw [State.bidExpired, State.offerBoundary_bid, State.closeEntry_offers]
  rfl

theorem State.placeCancels_offers (s : State) :
    s.placeCancels.offers = { s.offers with cancels := s.placeCancels.offers.cancels } := by
  unfold State.placeCancels
  rw [State.placeCancel_offers, State.placeCancel_offers]

/-- The entry of the id is EXPIRED, and stays so when a stop takes effect. -/
theorem State.bidExpired_entries {x : OfferEntry} (h : x ∈ (s.bidExpired id).offers.entries) (own : x.id = id) :
    x.state = .expired := by
  have closed : ∀ y ∈ s.offers.entries.map (OfferEntry.becomeAt id .expired), y.id = id → y.state = .expired := by
    intro y hy same
    obtain ⟨z, -, rfl⟩ := List.mem_map.mp hy
    by_cases hz : z.id = id
    · simp [OfferEntry.becomeAt, hz, OfferEntry.become]
    · simp [OfferEntry.becomeAt, hz] at same
  rw [State.bidExpired, State.offerBoundary_offers, State.bidGivenUp, State.withBid_closeEntry_offers] at h
  split at h
  · obtain ⟨y, hy, rfl⟩ := List.mem_map.mp h
    have expired := closed y hy (y.lapse_id.symm.trans own)
    rw [OfferEntry.lapse_of_ne (by simp [expired])]
    exact expired
  · exact closed x h own

/-- A stop that waited for the bid takes effect (R81). -/
theorem State.bidExpired_settled {as bs : List OfferEntry} {x : OfferEntry} (bounded : s.tableBounded = true)
    (matched : s.bidMatched = true) (parts : s.offers.entries = as ++ x :: bs) (record : s.offers.bid = some b)
    (mark : b.mark = .expiryPending) (own : x.id = b.offer) :
    (s.bidExpired b.offer).offers = s.offers.settled as { x with state := .expired, waiting := none } bs := by
  have fits := State.bidMatched_iff.mp matched
  have bid : x.state = .bid := by
    obtain ⟨y, hy, same, bid⟩ := fits.stands b record (by simp [mark])
    have held : x ∈ s.offers.entries := by simp [parts]
    exact List.inj_on_of_nodup_map (State.tableBounded_iff.mp bounded).distinct hy held (same.trans own.symm) ▸ bid
  rw [← own]
  exact offerBoundary_settles bounded parts bid (by decide) (by decide) State.withBid_closeEntry_offers

section
variable (m : s.mainRuns = true) (record : s.offers.bid = some b)
include m record

/-- A marked bid is given up: its record is removed, and the OWED cancels are placed (R76). -/
theorem State.bidFailed_placed (marked : b.mark ≠ .none) : (s.bidFailed b.offer).offers.bid = none
    ∧ CancelsPlaced (s.arbiter.without (.bid b.offer)) s.offers.cancels (s.bidFailed b.offer) := by
  cases mark : b.mark with
  | none => exact absurd mark marked
  | expiryPending =>
    have placed := State.placeCancels_placed (s := s.bidExpired b.offer) (State.bidExpired_mainRuns.trans m)
    rw [State.bidExpired_arbiter, State.bidExpired_cancels] at placed
    rw [State.bidFailed_expired record mark, State.placeCancels_offers]
    exact ⟨State.bidExpired_bid, placed⟩
  | cancelOnDone =>
    rw [State.bidFailed_cancelled record mark, State.placeCancels_offers]
    exact ⟨rfl, State.placeCancels_placed (s := s.bidGivenUp b.offer) m⟩

theorem State.bidFailed_raised : Raised (if b.mark = .expiryPending then [.offerClosed] else []) s (s.bidFailed b.offer) := by
  have placed : ∀ u : State, u.placeCancels.events = u.events := fun u => (State.only_placeCancels u).keep .events (by decide)
  cases mark : b.mark with
  | none => rw [State.bidFailed_kept record mark]; rfl
  | expiryPending =>
    rw [State.bidFailed_expired record mark]
    exact (State.closeEntry_offerBoundary_raised (s := s.bidGivenUp b.offer) m b.offer .expired).kept (placed _)
  | cancelOnDone =>
    rw [State.bidFailed_cancelled record mark]
    exact (placed _)

end

/-! ## Each owner is told (R147) -/

/-- With no frame in flight every SHIFT entry is rewritten (R55). -/
theorem State.rewriteShift_idle (idle : s.arbiter.inFlight = none) (n : Nat) : (s.rewriteShift n).arbiter.queue =
    s.arbiter.queue.map fun x => if x.isShift then .shift n else x := by
  have free : ∀ x, s.entryInFlight x = false := fun x => by simp [State.entryInFlight, idle]
  simp [State.rewriteShift, State.withQueue, free]

theorem State.shiftFailed_none (h : s.store.pendingReport = none) : s.shiftFailed = s := by
  simp [State.shiftFailed, h]

theorem State.shiftFailed_some {r : ShiftReport} (h : s.store.pendingReport = some r) :
    s.shiftFailed = s.rewriteShift r.shift := by
  simp [State.shiftFailed, h]

theorem State.bidFailed_arbiter (m : s.mainRuns = true) (idle : s.arbiter.inFlight = none) (id : Nat) :
    (s.bidFailed id).arbiter = { s.arbiter with queue := (s.bidFailed id).arbiter.queue } := by
  by_cases own : ∃ b, s.offers.bid = some b ∧ b.offer = id
  · obtain ⟨b, record, rfl⟩ := own
    by_cases marked : b.mark = .none
    · rw [State.bidFailed_kept record marked]
      rfl
    · obtain ⟨-, new, placed, -⟩ := State.bidFailed_placed m record marked
      rw [placed]
      simp [Arbiter.without, idle]
  · rw [State.bidFailed_other fun b record same => own ⟨b, record, same⟩]

/-- Telling an owner leaves the modem's side of the arbiter, and fills the slot for the Emergency Unit alone. -/
theorem State.tellFail_arbiter (m : s.mainRuns = true) (idle : s.arbiter.inFlight = none) (e : Entry) :
    (s.tellFail (.entry e)).arbiter = { s.arbiter with queue := (s.tellFail (.entry e)).arbiter.queue } := by
  cases e with
  | bid id => exact State.bidFailed_arbiter m idle id
  | shift n =>
    change s.shiftFailed.arbiter = _
    cases pending : s.store.pendingReport with
    | none => rw [State.shiftFailed_none pending]; simp [State.tellFail, State.shiftFailed_none pending]
    | some r => rw [State.shiftFailed_some pending]; simp [State.tellFail, State.shiftFailed_some pending]; rfl
  | _ => rfl

theorem State.tellFail_idle (m : s.mainRuns = true) (idle : s.arbiter.inFlight = none) (g : Granted) :
    (s.tellFail g).arbiter.inFlight = none ∧ (s.tellFail g).arbiter.settle = s.arbiter.settle := by
  cases g with
  | detached => exact ⟨idle, rfl⟩
  | slot =>
    change s.fillSlot.arbiter.inFlight = none ∧ s.fillSlot.arbiter.settle = _
    unfold State.fillSlot
    split <;> exact ⟨idle, rfl⟩
  | entry e =>
    rw [State.tellFail_arbiter m idle e]
    exact ⟨idle, rfl⟩

/-- OFFER_CLOSED alone is raised, and for a bid whose lifetime ran out in flight (R70). -/
theorem State.tellFail_raised (m : s.mainRuns = true) (g : Granted) : ∃ es, Raised es s (s.tellFail g)
    ∧ (∀ k ∈ es, k = .offerClosed)
    ∧ ((∀ b, s.offers.bid = some b → g = .entry (.bid b.offer) → b.mark ≠ .expiryPending) → es = []) := by
  by_cases bids : ∃ b, s.offers.bid = some b ∧ g = .entry (.bid b.offer)
  · obtain ⟨b, record, rfl⟩ := bids
    refine ⟨_, State.bidFailed_raised m record, fun k hk => ?_, fun unmarked => if_neg (unmarked b record rfl)⟩
    split at hk
    · simpa using hk
    · simp at hk
  · refine ⟨[], ?_, by simp, fun _ => rfl⟩
    change (s.tellFail g).events = s.events
    rcases g with e | _ | _
    · cases e with
      | bid id =>
        exact congrArg State.events (State.bidFailed_other fun b record same => bids ⟨b, record, by rw [same]⟩)
      | shift n => exact (State.only_shiftFailed s).keep .events (by decide)
      | _ => rfl
    · exact (State.only_reportFailed s).keep .events (by decide)
    · rfl

/-- The owners outside class 1 keep the Offer Unit as it is. -/
theorem State.tellFail_offers (h : e.cls ≠ 1) : (s.tellFail (.entry e)).offers = s.offers := by
  cases e with
  | bid => exact absurd rfl h
  | bidCancel => exact absurd rfl h
  | shift n => exact (State.only_shiftFailed s).keep .offers (by decide)
  | _ => rfl

/-- The owners outside class 3 keep the Message Store as it is. -/
theorem State.tellFail_messages (h : e.cls ≠ 3) : (s.tellFail (.entry e)).messages = s.messages := by
  cases e with
  | bid id => exact (State.only_bidFailed id s).keep .messages (by decide)
  | receipt => exact absurd rfl h
  | receiptRefusal => exact absurd rfl h
  | shift n => exact (State.only_shiftFailed s).keep .messages (by decide)
  | _ => rfl

/-- The owners of a TOTAL, a driver message and the frames of class 5 but SHIFT take no note (R147). -/
theorem State.tellFail_silent (h : e.cls = 2 ∨ e.cls = 4 ∨ e.cls = 5 ∧ e.isShift = false) : s.tellFail (.entry e) = s := by
  cases e with
  | total | driverMsg | status | tableResult | passUp => rfl
  | _ => simp [Entry.cls, Entry.isShift] at h

/-! ## What the frame leaves behind -/

namespace FrameLost

variable (h : FrameLost c f s v)
include h

theorem mainRuns (m : s.mainRuns = true) : v.mainRuns = true := (h.only.mainRuns_eq (by decide)).trans m

theorem idle : v.arbiter.inFlight = none := by rw [h.arbiter]

theorem queue : v.arbiter.queue = s.arbiter.queue := by rw [h.arbiter]

theorem slot : v.arbiter.slot = s.arbiter.slot := by rw [h.arbiter]

theorem offers : v.offers = s.offers := h.only.keep .offers (by decide)

theorem messages : v.messages = s.messages := h.only.keep .messages (by decide)

theorem store : v.store = s.store := h.only.keep .store (by decide)

/-- FAULT is raised where a fault was captured, and OFFER_CLOSED where a bid expired (R70, R182). -/
theorem told_raised (m : s.mainRuns = true) (g : Granted) : ∃ es, (∀ k ∈ es, k = .offerClosed)
    ∧ Raised ((if c ≠ .txFail false ∧ s.fault.isNone then [.fault] else []) ++ es) s (v.tellFail g)
    ∧ ((∀ b, s.offers.bid = some b → g = .entry (.bid b.offer) → b.mark ≠ .expiryPending) → es = []) := by
  obtain ⟨es, raised, only, none⟩ := State.tellFail_raised (h.mainRuns m) g
  rw [h.offers] at none
  exact ⟨es, only, h.raised.trans raised, none⟩

/-- The fleeting flags but OFFER_CLOSED. -/
theorem told_flagged (m : s.mainRuns = true) (g : Granted) {k : EventKind} (other : k ≠ .offerClosed) :
    (v.tellFail g).flagged k = (s.flagged k || k = .fault && decide (c ≠ .txFail false) && s.fault.isNone) := by
  obtain ⟨es, only, raised, -⟩ := h.told_raised m g
  have apart : k ∉ es := fun hk => other (only k hk)
  rw [raised.flagged]
  by_cases captured : c ≠ .txFail false ∧ s.fault.isNone = true
  · simp [captured, apart]
  · rw [if_neg captured]
    simp only [List.nil_append, apart, decide_false]
    grind

theorem told_closed (m : s.mainRuns = true) (g : Granted)
    (unmarked : ∀ b, s.offers.bid = some b → g = .entry (.bid b.offer) → b.mark ≠ .expiryPending) :
    (v.tellFail g).flagged .offerClosed = s.flagged .offerClosed := by
  obtain ⟨es, -, raised, none⟩ := h.told_raised m g
  rw [raised.flagged, none unmarked]
  split <;> simp

/-- The slot is filled again for an owed report (R110). -/
theorem told_slot : v.reportFailed.arbiter.queue = s.arbiter.queue
    ∧ (s.mainRuns = true →
        v.reportFailed.arbiter.slot = (s.arbiter.slot || s.emergency.owed && s.identity.cab != 0)) := by
  have emergency : v.emergency = s.emergency := h.only.keep .emergency (by decide)
  have identity : v.identity = s.identity := h.only.keep .identity (by decide)
  refine ⟨?_, fun m => ?_⟩
  · refine Eq.trans ?_ h.queue
    unfold State.reportFailed State.fillSlot
    split <;> rfl
  · rw [State.reportFailed, State.fillSlot_slot, h.slot, emergency, identity, h.mainRuns m, Bool.and_true]

theorem told_slotKept (m : s.mainRuns = true) (e : Entry) : (v.tellFail (.entry e)).arbiter.slot = s.arbiter.slot := by
  rw [State.tellFail_arbiter (h.mainRuns m) h.idle]
  exact h.slot

theorem told_cancel (o : Nat) : (v.setCancel o .queued).offers = { s.offers with
    cancels := s.offers.cancels.map fun x => if x.offer = o then { x with stage := .queued } else x } := by
  rw [← h.offers]
  rfl

/-- A next kind becomes the kind (R94). -/
theorem told_receipt (id : Nat) : (v.receiptFailed id).messages = { s.messages with
    list := s.messages.list.map fun m =>
      if m.id = id then { m with mark := m.mark.map fun k => ReceiptMark.mk (k.next.getD k.kind) .queued none } else m } := by
  rw [← h.messages]
  rfl

theorem told_refusal : v.refusalFailed.messages = { s.messages with
    refusal := s.messages.refusal.map fun r => { r with stage := .queued, replaced := false } } := by
  rw [← h.messages]
  rfl

theorem told_shiftNone (none : s.store.pendingReport = none) : v.shiftFailed.arbiter.queue = s.arbiter.queue := by
  rw [State.shiftFailed_none (h.store ▸ none), h.queue]

/-- A pending report has its number in the SHIFT entry (R55, log 20). -/
theorem told_shift {r : ShiftReport} (pending : s.store.pendingReport = some r) : v.shiftFailed.arbiter.queue =
    s.arbiter.queue.map fun x => if x.isShift then .shift r.shift else x := by
  rw [State.shiftFailed_some (h.store ▸ pending), State.rewriteShift_idle h.idle, h.queue]

section
variable (m : s.mainRuns = true) (record : s.offers.bid = some b)
include record

theorem bid : v.offers.bid = some b := h.offers ▸ record

theorem told_bidKept (mark : b.mark = .none) : (v.bidFailed b.offer).arbiter.queue = s.arbiter.queue
    ∧ (v.bidFailed b.offer).offers = { s.offers with bid := some { b with stage := .queued } } := by
  rw [State.bidFailed_kept (h.bid record) mark, ← h.offers]
  exact ⟨h.queue, rfl⟩

include m in
/-- The entry of a marked bid leaves the queue, and the places go to the OWED cancels. -/
theorem told_bidPlaced (marked : b.mark ≠ .none) : (v.bidFailed b.offer).offers.bid = none ∧ CancelsPlaced
    { Arbiter.without (.bid b.offer) s.arbiter with
      inFlight := none, settle := if c = .responseTimerExpiry then some 2 else s.arbiter.settle }
    s.offers.cancels (v.bidFailed b.offer) := by
  obtain ⟨gone, placed⟩ := State.bidFailed_placed (h.mainRuns m) (h.bid record) marked
  rw [h.arbiter, h.offers] at placed
  exact ⟨gone, placed⟩

theorem told_bidCancelled (mark : b.mark = .cancelOnDone) : (v.bidFailed b.offer).offers =
    { s.offers with bid := none, cancels := (v.bidFailed b.offer).offers.cancels } := by
  rw [State.bidFailed_cancelled (h.bid record) mark, State.placeCancels_offers, ← h.offers]
  rfl

theorem told_bidExpired (mark : b.mark = .expiryPending) : (v.bidFailed b.offer).offers =
    { (v.bidExpired b.offer).offers with cancels := (v.bidFailed b.offer).offers.cancels } := by
  rw [State.bidFailed_expired (h.bid record) mark, State.placeCancels_offers]

theorem told_bidEntries (mark : b.mark = .expiryPending) {x : OfferEntry}
    (held : x ∈ (v.bidFailed b.offer).offers.entries) (own : x.id = b.offer) : x.state = .expired := by
  rw [h.told_bidExpired record mark] at held
  exact State.bidExpired_entries held own

include m in
theorem told_bidFlagged (mark : b.mark = .expiryPending) : (v.bidFailed b.offer).flagged .offerClosed = true := by
  have raised := State.bidFailed_raised (h.mainRuns m) (h.bid record)
  rw [raised.flagged, if_pos mark]
  simp

theorem told_bidSettled {as bs : List OfferEntry} {x : OfferEntry} (mark : b.mark = .expiryPending)
    (bounded : s.tableBounded = true) (matched : s.bidMatched = true) (parts : s.offers.entries = as ++ x :: bs)
    (own : x.id = b.offer) : (v.bidFailed b.offer).offers =
      { s.offers.settled as { x with state := .expired, waiting := none } bs with
        cancels := (v.bidFailed b.offer).offers.cancels } := by
  have settled := State.bidExpired_settled (s := v) (as := as) (bs := bs) (x := x)
    ((State.tableBounded_congr h.offers).trans bounded)
    (State.bidMatched_iff.mpr (h.offers ▸ State.bidMatched_iff.mp matched)) (h.offers ▸ parts) (h.bid record) mark own
  rw [h.told_bidExpired record mark, settled, h.offers]

end

end FrameLost

/-- Settles O42: the frame is lost, its owner is told, and what each owner then does is the lemma of its kind. -/
theorem unsentFrameKept : Obligations.UnsentFrameKept := by
  intro s f c m inFlight result
  obtain ⟨v, h, step⟩ := exec_losesFrame m inFlight result
  have mv := h.mainRuns m
  obtain ⟨idle, settle⟩ := State.tellFail_idle mv h.idle f.granted
  obtain ⟨es, -, raised, -⟩ := h.told_raised m f.granted
  have settle' : (v.tellFail f.granted).arbiter.settle = if c = .responseTimerExpiry then some 2 else s.arbiter.settle := by
    rw [settle, h.arbiter]
  refine ⟨_, step, ?_, idle, settle', ?_, raised.setup.1, raised.setup.2, fun k other => h.told_flagged m _ other,
    h.told_closed m _, fun detached => ?_, fun slot => ?_, fun e granted => ?_⟩
  · exact OnlyChanges.endedMain (.tellFail _ (h.only.mono (by decide)) (by decide)) (by decide) (by decide)
  · exact (((State.only_tellFail f.granted v).keep .link (by decide)).trans h.link).trans (State.giveBack_link _)
  · rw [detached]
    exact ⟨h.queue, h.slot, h.offers, h.messages⟩
  · rw [slot]
    have only := State.only_reportFailed v
    refine ⟨h.told_slot.1, (only.keep .offers (by decide)).trans h.offers, (only.keep .messages (by decide)).trans h.messages,
      h.told_slot.2 m⟩
  · rw [granted] at settle' ⊢
    refine ⟨h.told_slotKept m e, fun silent => ?_, ?_, ?_, fun cls => ?_, fun cls => ?_, ?_, ?_, ?_⟩
    · rw [State.tellFail_silent silent]
      exact ⟨h.queue, h.offers, h.messages⟩
    · rintro n rfl
      exact ⟨(State.tellFail_offers (by simp [Entry.cls])).trans h.offers,
        (State.tellFail_messages (by simp [Entry.cls])).trans h.messages, h.told_shiftNone, fun r => h.told_shift⟩
    · rintro _ b rfl record rfl
      refine ⟨h.told_bidKept record, fun marked => ?_, h.told_bidCancelled record, fun mark =>
        ⟨h.told_bidFlagged m record mark, fun x hx => h.told_bidEntries record mark hx, fun as x bs bounded matched =>
          h.told_bidSettled record mark bounded matched⟩⟩
      obtain ⟨gone, placed⟩ := h.told_bidPlaced m record marked
      refine ⟨gone, ?_⟩
      rw [← settle'] at placed
      exact placed.congr rfl rfl
    · exact (State.tellFail_messages (by simp [cls])).trans h.messages
    · exact (State.tellFail_offers (by simp [cls])).trans h.offers
    · rintro o r rfl
      exact ⟨h.queue, h.told_cancel o⟩
    · rintro id rfl
      exact ⟨h.queue, h.told_receipt id⟩
    · rintro rfl
      exact ⟨h.queue, h.told_refusal⟩

end Sys2Proof.Machine
end

section
/-! PROOFS. Owners offer again, one entry at a time: what a turn does, what a run of turns leaves, and when an owner has no
more to offer (R141, R154). -/

namespace Sys2Proof.Machine

variable {s t u : State} {e x : Entry} {new : List Entry}

/-! ## One turn -/

/-- An owner takes its turn: of what it holds back the entry `e` is placed, for which there is a place (R45, R55, R76, R93). -/
inductive OwnerTurn (s : State) : Entry → State → Prop
  | cancel {c : Cancel} (oldest : s.offers.cancels.find? Cancel.isOwed = some c)
      (place : hasPlace s.arbiter.queue (.bidCancel c.offer c.reason) = true) :
      OwnerTurn s (.bidCancel c.offer c.reason) ((s.enqueue (.bidCancel c.offer c.reason)).setCancel c.offer .queued)
  | total {r : TripRecord} {rest : List TripRecord} (idle : s.store.sender = .idle) (oldest : s.store.records = r :: rest) :
      OwnerTurn s (.total r.trip) ((s.enqueue (.total r.trip)).withSender (.queued r.trip))
  | shift {p : ShiftReport} (pending : s.store.pendingReport = some p) (none : s.arbiter.queue.any Entry.isShift = false) :
      OwnerTurn s (.shift p.shift) (s.enqueue (.shift p.shift))
  | receipt {i : OwedItem} (oldest : s.messages.owed.find? (fun i => s.owedStage i = some .owed) = some i)
      (place : sharedFree s.arbiter.queue = true) : OwnerTurn s i.entry (s.receiptQueued i)

theorem OwedItem.entry_isReceipt (i : OwedItem) : i.entry.isReceipt = true := by cases i <;> rfl

theorem OwedItem.entry_isCancel (i : OwedItem) : i.entry.isCancel = false := by cases i <;> rfl

theorem OwedItem.entry_isCancelFor (i : OwedItem) (offer : Nat) : i.entry.isCancelFor offer = false := by cases i <;> rfl

theorem OwedItem.entry_cls (i : OwedItem) : i.entry.cls = 3 := by cases i <;> rfl

/-- The sender serves the record whose TOTAL is placed (R45). -/
def Entry.serving (before : Sender) : Entry → Sender
  | .total n => .queued n
  | _ => before

theorem OwedItem.entry_serving (i : OwedItem) (before : Sender) : i.entry.serving before = before := by cases i <;> rfl

namespace OwnerTurn

theorem arbiter (h : OwnerTurn s e u) : u.arbiter = { s.arbiter with queue := s.arbiter.queue ++ [e] } := by
  cases h with
  | receipt => exact State.receiptQueued_arbiter _
  | _ => rfl

theorem only (h : OwnerTurn s e u) : OnlyChanges [.arbiter, .offers, .store, .messages] s u := by
  cases h with
  | cancel => exact .setCancel _ _ (.enqueue _ (.refl s) (by decide)) (by decide)
  | total => exact .withSender _ (.enqueue _ (.refl s) (by decide)) (by decide)
  | shift => exact .enqueue _ (.refl s) (by decide)
  | receipt => exact .setOwedStage _ _ (.enqueue _ (.refl s) (by decide)) (by decide)

theorem offers (h : OwnerTurn s e u) : u.offers = { s.offers with
    cancels := s.offers.cancels.map fun c => if e.isCancelFor c.offer then { c with stage := .queued } else c } := by
  have same : ∀ (f : Nat → Bool), (∀ o, f o = false) → s.offers = { s.offers with
      cancels := s.offers.cancels.map fun c => if f c.offer then { c with stage := .queued } else c } :=
    fun f none => by simp [none]
  cases h with
  | cancel =>
    refine congrArg (fun cs => { s.offers with cancels := cs }) (List.map_congr_left fun d _ => ?_)
    simp [Entry.isCancelFor, eq_comm]
  | total => exact same _ fun _ => rfl
  | shift => exact same _ fun _ => rfl
  | @receipt i =>
    exact ((State.only_setOwedStage i .queued _).keep .offers (by decide)).trans (same _ i.entry_isCancelFor)

theorem store (h : OwnerTurn s e u) : u.store = { s.store with sender := e.serving s.store.sender } := by
  cases h with
  | @receipt i =>
    rw [i.entry_serving]
    exact (State.only_setOwedStage i .queued _).keep .store (by decide)
  | _ => rfl

theorem messages (h : OwnerTurn s e u) : u.messages = { s.messages with
    list := s.messages.list.map fun m =>
      if e = .receipt m.id then { m with mark := m.mark.map fun k => { k with stage := .queued } } else m
    refusal := s.messages.refusal.map fun r => if e = .receiptRefusal then { r with stage := .queued } else r } := by
  cases h with
  | @receipt i =>
    cases i with
    | message id =>
      have list : (s.receiptQueued (.message id)).messages = { s.messages with list := s.messages.list.map fun m =>
        if m.id = id then { m with mark := m.mark.map fun k => { k with stage := .queued } } else m } := rfl
      simp [list, OwedItem.entry, eq_comm]
    | refusal =>
      have refusal : (s.receiptQueued .refusal).messages =
        { s.messages with refusal := s.messages.refusal.map fun r => { r with stage := .queued } } := rfl
      simp [refusal, OwedItem.entry]
  | _ => simp only [reduceCtorEq, if_false, List.map_id', Option.map_id']; rfl

theorem stage (h : OwnerTurn s e u) (j : OwedItem) :
    u.owedStage j = if j.entry = e then some .queued else s.owedStage j := by
  cases h with
  | @receipt i oldest =>
    simp only [State.receiptQueued_owedStage (by simpa using List.find?_some oldest), OwedItem.entry_inj]
  | cancel => rw [if_neg (by cases j <;> nofun)]; exact State.owedStage_congr rfl j
  | total => rw [if_neg (by cases j <;> nofun)]; exact State.owedStage_congr rfl j
  | shift => rw [if_neg (by cases j <;> nofun)]; exact State.owedStage_congr rfl j

theorem mainRuns (h : OwnerTurn s e u) : u.mainRuns = s.mainRuns := h.only.mainRuns_eq (by decide)

theorem owed (h : OwnerTurn s e u) : u.messages.owed = s.messages.owed := by rw [h.messages]

theorem cancels (h : OwnerTurn s e u) : u.offers.cancels =
    s.offers.cancels.map fun c => if e.isCancelFor c.offer then { c with stage := .queued } else c := by rw [h.offers]

theorem records (h : OwnerTurn s e u) : u.store.records = s.store.records := by rw [h.store]

theorem pendingReport (h : OwnerTurn s e u) : u.store.pendingReport = s.store.pendingReport := by rw [h.store]

theorem sender (h : OwnerTurn s e u) : u.store.sender = e.serving s.store.sender := by rw [h.store]

theorem queue (h : OwnerTurn s e u) : u.arbiter.queue = s.arbiter.queue ++ [e] := by rw [h.arbiter]

end OwnerTurn

/-! ## What waits (R141) -/

/-- An owner holds the entry back: its cancel or receipt is owed, its sender is idle, or its report has no entry. -/
def State.Waits (s : State) (e : Entry) : Prop :=
  (∃ c ∈ s.offers.cancels, c.stage = .owed ∧ e = .bidCancel c.offer c.reason)
    ∨ (∃ r rest, s.store.records = r :: rest ∧ s.store.sender = .idle ∧ e = .total r.trip)
    ∨ (∃ r, s.store.pendingReport = some r ∧ s.arbiter.queue.any Entry.isShift = false ∧ e = .shift r.shift)
    ∨ ∃ i ∈ s.messages.owed, s.owedStage i = some .owed ∧ e = i.entry

theorem OwnerTurn.waits (h : OwnerTurn s e u) : s.Waits e := by
  cases h with
  | @cancel c oldest =>
    exact .inl ⟨c, List.mem_of_find?_eq_some oldest, by simpa [Cancel.isOwed] using List.find?_some oldest, rfl⟩
  | @total r rest idle oldest => exact .inr (.inl ⟨r, rest, oldest, idle, rfl⟩)
  | @shift p pending none => exact .inr (.inr (.inl ⟨p, pending, none, rfl⟩))
  | @receipt i oldest =>
    exact .inr (.inr (.inr ⟨i, List.mem_of_find?_eq_some oldest, by simpa using List.find?_some oldest, rfl⟩))

/-- What waits after a turn waited before it, and is not what was placed. -/
theorem OwnerTurn.waits_before (h : OwnerTurn s e u) (later : u.Waits x) : s.Waits x ∧ x ≠ e := by
  rcases later with ⟨c, held, owed, rfl⟩ | ⟨r, rest, oldest, idle, rfl⟩ | ⟨r, pending, none, rfl⟩ | ⟨i, held, owed, rfl⟩
  · rw [h.cancels] at held
    obtain ⟨d, member, rfl⟩ := List.mem_map.mp held
    split at owed
    · cases owed
    · next other =>
      rw [if_neg other]
      refine ⟨.inl ⟨d, member, owed, rfl⟩, ?_⟩
      rintro rfl
      exact other (decide_eq_true rfl)
  · rw [h.records] at oldest
    rw [h.sender] at idle
    cases e with
    | total => cases idle
    | _ => exact ⟨.inr (.inl ⟨r, rest, oldest, idle, rfl⟩), nofun⟩
  · rw [h.pendingReport] at pending
    rw [h.queue, List.any_append, Bool.or_eq_false_iff] at none
    refine ⟨.inr (.inr (.inl ⟨r, pending, none.1, rfl⟩)), ?_⟩
    rintro rfl
    cases none.2
  · rw [h.owed] at held
    rw [h.stage] at owed
    split at owed
    · cases owed
    · next other => exact ⟨.inr (.inr (.inr ⟨i, held, owed, rfl⟩)), other⟩

/-! ## A run of turns -/

/-- Turns one after another place the entries `new`. -/
inductive Refill : State → List Entry → State → Prop
  | done {s : State} : Refill s [] s
  | turn {s t u : State} {e : Entry} {new : List Entry} (first : OwnerTurn s e u) (rest : Refill u new t) :
      Refill s (e :: new) t

namespace Refill

theorem single (h : OwnerTurn s e u) : Refill s [e] u := .turn h .done

theorem append {more : List Entry} (h : Refill s new u) (k : Refill u more t) : Refill s (new ++ more) t := by
  induction h with
  | done => exact k
  | turn first _ ih => exact .turn first (ih k)

theorem arbiter (h : Refill s new t) : t.arbiter = { s.arbiter with queue := s.arbiter.queue ++ new } := by
  induction h with
  | done => simp
  | turn first _ ih => simp [ih, first.arbiter]

theorem mainRuns (h : Refill s new t) : t.mainRuns = s.mainRuns := by
  induction h with
  | done => rfl
  | turn first _ ih => exact ih.trans first.mainRuns

/-- Every entry placed waited, and each is placed once. -/
theorem waits (h : Refill s new t) : (∀ x ∈ new, s.Waits x) ∧ new.Nodup := by
  induction h with
  | done => simp
  | turn first _ ih =>
    obtain ⟨waited, nodup⟩ := ih
    have before := fun x hx => first.waits_before (waited x hx)
    refine ⟨fun x hx => ?_, List.nodup_cons.mpr ⟨fun own => (before _ own).2 rfl, nodup⟩⟩
    rcases List.mem_cons.mp hx with rfl | hx
    · exact first.waits
    · exact (before x hx).1

theorem offers (h : Refill s new t) : t.offers = { s.offers with
    cancels := s.offers.cancels.map fun c =>
      if new.any (Entry.isCancelFor c.offer) then { c with stage := .queued } else c } := by
  induction h with
  | done => simp
  | @turn s _ _ e _ first _ ih =>
    rw [ih, first.offers, List.map_map]
    refine congrArg (fun cs => { s.offers with cancels := cs }) (List.map_congr_left fun c _ => ?_)
    by_cases own : e.isCancelFor c.offer = true <;> simp [own]

theorem messages (h : Refill s new t) : t.messages = { s.messages with
    list := s.messages.list.map fun m =>
      if Entry.receipt m.id ∈ new then { m with mark := m.mark.map fun k => { k with stage := .queued } } else m
    refusal := s.messages.refusal.map fun r =>
      if Entry.receiptRefusal ∈ new then { r with stage := .queued } else r } := by
  induction h with
  | done => simp
  | @turn s _ _ e _ first _ ih =>
    rw [ih, first.messages, List.map_map, Option.map_map]
    refine congrArg₂ (fun l r => { s.messages with list := l, refusal := r }) (List.map_congr_left fun m _ => ?_)
      (congrArg (Option.map · s.messages.refusal) (funext fun r => ?_))
    · by_cases own : e = .receipt m.id <;> simp [own, eq_comm, Option.map_map, Function.comp_def]
    · by_cases own : e = .receiptRefusal <;> simp [own, eq_comm]

theorem store (h : Refill s new t) : t.store = { s.store with sender := new.foldl Entry.serving s.store.sender } := by
  induction h with
  | done => rfl
  | turn first _ ih => rw [ih, first.store, List.foldl_cons]

theorem sender_kept (h : Refill s new t) (none : ∀ n, .total n ∉ new) : t.store.sender = s.store.sender := by
  induction h with
  | done => rfl
  | @turn _ _ _ e _ first _ ih =>
    rw [ih fun n hn => none n (List.mem_cons_of_mem _ hn), first.sender]
    cases e with
    | total n => exact absurd List.mem_cons_self (none n)
    | _ => rfl

/-- The sender serves the one record whose TOTAL is placed: from then on it is not idle. -/
theorem sender_serves (h : Refill s new t) {n : Nat} (placed : .total n ∈ new) : t.store.sender = .queued n := by
  induction h with
  | done => cases placed
  | @turn _ _ u e new first rest ih =>
    rcases List.mem_cons.mp placed with rfl | placed
    · have serving : u.store.sender = .queued n := first.sender
      refine (rest.sender_kept fun k hk => ?_).trans serving
      rcases rest.waits.1 _ hk with ⟨_, _, _, ⟨⟩⟩ | ⟨_, _, _, idle, _⟩ | ⟨_, _, _, ⟨⟩⟩ | ⟨i, _, _, own⟩
      · cases serving.symm.trans idle
      · cases i <;> cases own
    · exact ih placed

/-- The cancels placed are the oldest OWED ones (R76). -/
theorem cancels_oldest (h : Refill s new t) (nodup : (s.offers.cancels.map Cancel.offer).Nodup) : new.filter Entry.isCancel <+:
    (s.offers.cancels.filter fun c => c.stage = .owed).map fun c => .bidCancel c.offer c.reason := by
  induction h with
  | done => exact List.nil_prefix
  | @turn s _ _ _ _ first _ ih =>
    cases first with
    | @cancel c oldest =>
      have same : ∀ d : Cancel, (d.queueFor c.offer).offer = d.offer := fun d => by unfold Cancel.queueFor; split <;> rfl
      have later := ih <| by
        change ((s.offers.cancels.map (Cancel.queueFor c.offer)).map Cancel.offer).Nodup
        rwa [List.map_map, show Cancel.offer ∘ Cancel.queueFor c.offer = Cancel.offer from funext same]
      rw [owed_after_queueFor oldest nodup]
      exact List.cons_prefix_cons.mpr ⟨rfl, later⟩
    | total => exact ih nodup
    | shift => exact ih nodup
    | @receipt i =>
      have kept : (s.receiptQueued i).offers = s.offers := (State.only_setOwedStage i .queued _).keep .offers (by decide)
      rw [kept] at ih
      rw [List.filter_cons_of_neg (by simp [i.entry_isCancel])]
      exact ih nodup

/-- The receipts placed are the oldest OWED ones (R93). -/
theorem receipts_oldest (h : Refill s new t) (nodup : s.messages.owed.Nodup) : new.filter Entry.isReceipt <+:
    (s.messages.owed.filter fun i => s.owedStage i = some .owed).map OwedItem.entry := by
  induction h with
  | done => exact List.nil_prefix
  | @turn s _ u e _ first _ ih =>
    have later := ih (first.owed ▸ nodup)
    rw [first.owed] at later
    cases first with
    | @receipt i oldest place =>
      have stages := OwnerTurn.stage (.receipt oldest place)
      rw [filter_first oldest nodup (q := fun j => (s.receiptQueued i).owedStage j = some .owed) (by simp [stages])
        fun j other => by simp [stages, OwedItem.entry_inj, other], List.filter_cons_of_pos i.entry_isReceipt]
      exact List.cons_prefix_cons.mpr ⟨rfl, later⟩
    | cancel => exact later
    | total => exact later
    | shift => exact later

end Refill
end Sys2Proof.Machine
end

section
/-! PROOFS. No owner that could be placed waits once every owner has had its turns, in whichever order (R141, log 4). -/

namespace Sys2Proof.Machine

variable {s t u : State} {e : Entry} {new : List Entry} {q : List Entry} {o : Owner}

/-! ## The owners -/

/-- The owners that hold entries back (R141). -/
inductive Owner
  | offers | store | messages

/-- The owner offers what it holds back. -/
def Owner.offer : Owner → State → State
  | .offers => State.placeCancels
  | .store => State.storeOffers
  | .messages => State.placeReceipts

/-- An idle sender with records has a TOTAL in class 2 before it (R45). -/
def State.TotalSettled (s : State) : Prop :=
  s.store.sender ≠ .idle ∨ s.store.records = [] ∨ 1 ≤ classCount s.arbiter.queue 2

/-- A pending report has its entry, or no shared place is left (R55). -/
def State.ShiftSettled (s : State) : Prop :=
  s.store.pendingReport = none ∨ (∃ e ∈ s.arbiter.queue, e.isShift = true) ∨ 6 ≤ sharedCount s.arbiter.queue

/-- The owner waits only where no place is left. -/
def Owner.Settled : Owner → State → Prop
  | .offers, s => s.CancelsSettled
  | .store, s => s.TotalSettled ∧ s.ShiftSettled
  | .messages, s => s.ReceiptsSettled

/-- The order in which the owners offer (log 4). -/
def ownersIn : OfferOrder → List Owner
  | .offersStoreMessages => [.offers, .store, .messages]
  | .offersMessagesStore => [.offers, .messages, .store]
  | .storeOffersMessages => [.store, .offers, .messages]
  | .storeMessagesOffers => [.store, .messages, .offers]
  | .messagesOffersStore => [.messages, .offers, .store]
  | .messagesStoreOffers => [.messages, .store, .offers]

theorem mem_ownersIn (order : OfferOrder) (o : Owner) : o ∈ ownersIn order := by
  cases order <;> cases o <;> simp [ownersIn]

theorem State.offerAgain_eq (order : OfferOrder) (s : State) :
    s.offerAgain order = (ownersIn order).foldl (fun u o => o.offer u) s := by
  cases order <;> rfl

/-! ## Each owner's turns -/

theorem State.placeCancel_owner (s : State) : s.placeCancel = s ∨ ∃ e, OwnerTurn s e s.placeCancel := by
  unfold State.placeCancel
  split
  · exact .inl rfl
  · next c oldest =>
    split
    · next place => exact .inr ⟨_, .cancel oldest (Bool.and_eq_true_iff.mp place).2⟩
    · exact .inl rfl

theorem State.placeReceipt_owner (s : State) : s.placeReceipt = s ∨ ∃ e, OwnerTurn s e s.placeReceipt := by
  unfold State.placeReceipt
  split
  · exact .inl rfl
  · next i oldest =>
    split
    · next place =>
      rw [Bool.and_eq_true, Bool.and_eq_true] at place
      exact .inr ⟨_, .receipt oldest place.1.2⟩
    · exact .inl rfl

theorem State.placeTotal_owner (s : State) : s.placeTotal = s ∨ ∃ e, OwnerTurn s e s.placeTotal := by
  rcases s.placeTotal_cases with same | ⟨r, rest, idle, oldest, -, -, placed⟩
  · exact .inl same
  · exact .inr ⟨.total r.trip, placed ▸ .total idle oldest⟩

theorem State.placeShift_owner (s : State) : s.placeShift = s ∨ ∃ e, OwnerTurn s e s.placeShift := by
  rcases s.placeShift_cases with same | ⟨r, pending, -, none, -, placed⟩
  · exact .inl same
  · exact .inr ⟨.shift r.shift, placed ▸ .shift pending none⟩

/-- Where a step is a turn or nothing, a run is longer by it. -/
theorem Refill.step (h : Refill s new t) {u : State} (step : u = t ∨ ∃ e, OwnerTurn t e u) : ∃ new, Refill s new u := by
  rcases step with rfl | ⟨e, turn⟩
  · exact ⟨new, h⟩
  · exact ⟨_, h.append (.single turn)⟩

theorem Owner.offer_refill (o : Owner) (s : State) : ∃ new, Refill s new (o.offer s) := by
  cases o with
  | offers =>
    obtain ⟨_, first⟩ := Refill.done.step s.placeCancel_owner
    exact first.step (State.placeCancel_owner _)
  | store =>
    obtain ⟨_, first⟩ := Refill.done.step s.placeTotal_owner
    exact first.step (State.placeShift_owner _)
  | messages =>
    obtain ⟨_, first⟩ := Refill.done.step s.placeReceipt_owner
    obtain ⟨_, second⟩ := first.step (State.placeReceipt_owner _)
    exact second.step (State.placeReceipt_owner _)

/-! ## The owner is settled -/

theorem State.placeTotal_settled (m : s.mainRuns = true) : s.placeTotal.TotalSettled := by
  by_cases busy : s.store.sender = .idle
  · cases records : s.store.records with
    | nil => exact .inr (.inl (State.placeTotal_records.trans records))
    | cons r rest =>
      by_cases free : classCount s.arbiter.queue 2 = 0
      · exact .inl (by simp [(State.placeTotal_idle m busy records free).1])
      · rcases s.placeTotal_cases with same | ⟨_, _, -, -, -, place, -⟩
        · rw [same]
          exact .inr (.inr (Nat.one_le_iff_ne_zero.mpr free))
        · exact absurd (beq_iff_eq.mp place) free
  · rw [State.placeTotal_served busy]
    exact .inl busy

theorem State.placeShift_settled (m : s.mainRuns = true) : s.placeShift.ShiftSettled := by
  have kept : s.placeShift.store = s.store := (State.only_placeShift s).keep .store (by decide)
  cases pending : s.store.pendingReport with
  | none => exact .inl (by rw [kept, pending])
  | some r =>
    refine .inr ?_
    rw [State.placeShift_arbiter m pending]
    split
    · exact .inl ⟨.shift r.shift, by simp, rfl⟩
    · next full =>
      rw [not_and_or, Bool.not_eq_false, List.any_eq_true, Nat.not_lt] at full
      exact full

/-! ## It stays settled -/

theorem sharedCount_append_le (apart : e.cls ≠ 1) : sharedCount q ≤ sharedCount (q ++ [e]) := by
  simp only [sharedCount, classCount_append, apart, if_false, Nat.add_zero]
  split <;> split <;> split <;> omega

/-- A cancel takes a place only where class 1 holds at most one entry (R140). -/
theorem sharedCount_cancel_le {offer : Nat} {r : CancelReason} (place : hasPlace q (.bidCancel offer r) = true) :
    sharedCount q ≤ sharedCount (q ++ [.bidCancel offer r]) := by
  have first : classCount q 1 ≤ 1 := by
    simp only [hasPlace, Bool.or_eq_true, Bool.and_eq_true, beq_iff_eq] at place
    omega
  simp only [sharedCount, classCount_append, Entry.cls, if_true, Nat.reduceEqDiff, if_false, Nat.add_zero]
  split <;> split <;> omega

theorem not_class1Full_of_place {offer : Nat} {r : CancelReason} (place : hasPlace q (.bidCancel offer r) = true) :
    ¬ Class1Full q := by
  simp only [hasPlace, sharedFree, Config.sharedPlaces, Bool.or_eq_true, Bool.and_eq_true, beq_iff_eq,
    decide_eq_true_eq] at place
  unfold Class1Full
  omega

namespace OwnerTurn

theorem shared_le (h : OwnerTurn s e u) : sharedCount s.arbiter.queue ≤ sharedCount u.arbiter.queue := by
  rw [h.queue]
  cases h with
  | cancel _ place => exact sharedCount_cancel_le place
  | total => exact sharedCount_append_le (by simp [Entry.cls])
  | shift => exact sharedCount_append_le (by simp [Entry.cls])
  | @receipt i => exact sharedCount_append_le (by simp [i.entry_cls])

theorem receiptsFull (h : OwnerTurn s e u) (full : ReceiptsFull s.arbiter.queue) : ReceiptsFull u.arbiter.queue := by
  refine full.imp h.shared_le.trans' fun three => ?_
  rw [h.queue, List.filter_append, List.length_append]
  omega

/-- A cancel is not placed where none waits or class 1 is full, and the others leave class 1 as it is. -/
theorem cancelsSettled (h : OwnerTurn s e u) (settled : s.CancelsSettled) : u.CancelsSettled := by
  have others : e.cls ≠ 1 → u.offers = s.offers → u.CancelsSettled := by
    intro apart same
    have first : classCount u.arbiter.queue 1 = classCount s.arbiter.queue 1 := by
      rw [h.queue, classCount_append, if_neg apart, Nat.add_zero]
    have shared := h.shared_le
    unfold State.CancelsSettled Class1Full at settled ⊢
    rw [same, first]
    exact settled.imp id (Or.imp id fun full => ⟨full.1, full.2.trans shared⟩)
  cases h with
  | @cancel c oldest place =>
    rcases settled with none | full
    · exact absurd (by simpa [Cancel.isOwed] using List.find?_some oldest) (none c (List.mem_of_find?_eq_some oldest))
    · exact absurd full (not_class1Full_of_place place)
  | total => exact others (by simp [Entry.cls]) rfl
  | shift => exact others (by simp [Entry.cls]) rfl
  | @receipt i =>
    exact others (by simp [i.entry_cls]) ((State.only_setOwedStage i .queued _).keep .offers (by decide))

theorem totalSettled (h : OwnerTurn s e u) (settled : s.TotalSettled) : u.TotalSettled := by
  unfold State.TotalSettled at settled ⊢
  rw [h.sender, h.records, h.queue, classCount_append]
  rcases settled with busy | none | placed
  · refine .inl ?_
    cases e with
    | total => simp [Entry.serving]
    | _ => exact busy
  · exact .inr (.inl none)
  · exact .inr (.inr (by omega))

theorem shiftSettled (h : OwnerTurn s e u) (settled : s.ShiftSettled) : u.ShiftSettled := by
  unfold State.ShiftSettled at settled ⊢
  rw [h.pendingReport]
  refine settled.imp id (Or.imp (fun ⟨x, held, own⟩ => ⟨x, ?_, own⟩) h.shared_le.trans')
  rw [h.queue]
  exact List.mem_append_left _ held

/-- A receipt that waits where none waited before cannot be. -/
theorem receiptsSettled (h : OwnerTurn s e u) (settled : s.ReceiptsSettled) : u.ReceiptsSettled := by
  refine settled.imp (fun none => ?_) h.receiptsFull
  rintro ⟨i, held, owed⟩
  rw [h.owed] at held
  rw [h.stage] at owed
  split at owed
  · cases owed
  · exact none ⟨i, held, owed⟩

end OwnerTurn

theorem Owner.Settled.turn (settled : o.Settled s) (h : OwnerTurn s e u) : o.Settled u := by
  cases o with
  | offers => exact h.cancelsSettled settled
  | store => exact ⟨h.totalSettled settled.1, h.shiftSettled settled.2⟩
  | messages => exact h.receiptsSettled settled

theorem Owner.Settled.refill (settled : o.Settled s) (h : Refill s new t) : o.Settled t := by
  induction h with
  | done => exact settled
  | turn first _ ih => exact ih (settled.turn first)

/-- An owner that has had its turns is settled. -/
theorem Owner.offer_settled (m : s.mainRuns = true) (o : Owner) : o.Settled (o.offer s) := by
  cases o with
  | offers =>
    obtain ⟨_, -, -, -, -, settled⟩ := State.placeCancels_placed m
    exact settled
  | store =>
    have m' : s.placeTotal.mainRuns = true := ((State.only_placeTotal s).mainRuns_eq (by decide)).trans m
    refine ⟨?_, State.placeShift_settled m'⟩
    rcases s.placeTotal.placeShift_owner with same | ⟨e, turn⟩
    · change s.placeTotal.placeShift.TotalSettled
      rw [same]
      exact State.placeTotal_settled m
    · exact turn.totalSettled (State.placeTotal_settled m)
  | messages =>
    obtain ⟨_, -, settled⟩ := State.placeReceipts_added m
    exact settled

/-! ## All owners offer -/

/-- The owners of a list offer in turn: a run, after which each of them is settled. -/
theorem owners_refill (owners : List Owner) (m : s.mainRuns = true) : ∃ new,
    Refill s new (owners.foldl (fun u o => o.offer u) s) ∧ ∀ o ∈ owners, o.Settled (owners.foldl (fun u o => o.offer u) s) := by
  induction owners generalizing s with
  | nil => exact ⟨[], .done, nofun⟩
  | cons p rest ih =>
    obtain ⟨_, first⟩ := p.offer_refill s
    obtain ⟨_, run, settled⟩ := ih (first.mainRuns.trans m)
    refine ⟨_, first.append run, fun o member => ?_⟩
    rcases List.mem_cons.mp member with rfl | member
    · exact (o.offer_settled m).refill run
    · exact settled o member

/-- Settles O44: the owners' turns are one run, in every order; the run says what is placed, and no owner is left unsettled. -/
theorem placesRefilled : Obligations.PlacesRefilled := by
  intro s order m
  obtain ⟨new, run, settled⟩ := owners_refill (ownersIn order) m
  rw [← State.offerAgain_eq] at run settled
  obtain ⟨waited, nodup⟩ := run.waits
  have step : exec (.placeAppears order) s = .next (s.updateCheck (s.offerAgain order)).drive :=
    congrArg (done s) (State.whenMain_running _ m)
  have only := State.only_offerAgain order s
  have all := mem_ownersIn order
  refine ⟨_, new, step, ?_, run.arbiter, nodup, fun e he => ?_, run.offers, ?_, fun n => run.sender_serves,
    run.sender_kept, run.messages, fun bounded => ?_, run.receipts_oldest, settled _ (all .offers),
    (settled _ (all .store)).1, (settled _ (all .store)).2, settled _ (all .messages)⟩
  · exact OnlyChanges.ended (bs := [.arbiter, .offers, .store, .messages, .check, .pins]) (only.mono (by decide))
      (by decide) (by decide)
  · rcases waited e he with cancel | total | ⟨r, pending, -, rfl⟩ | receipt
    · exact .inl cancel
    · exact .inr (.inl total)
    · exact .inr (.inr (.inl ⟨r, pending, rfl⟩))
    · exact .inr (.inr (.inr receipt))
  · change (s.offerAgain order).store = { s.store with sender := (s.offerAgain order).store.sender }
    rw [run.store]
  · simp only [State.cancelsBounded, Bool.and_eq_true, decide_eq_true_eq] at bounded
    exact run.cancels_oldest bounded.2

end Sys2Proof.Machine
end

section
/-! PROOFS. TX_DONE ends the frame in flight: what its owner does, and what the owner then places (R147, R148). -/

namespace Sys2Proof.Machine

variable {s t u v w : State} {f : InFlight} {b : BidRecord} {e x : Entry} {g : Granted} {id n : Nat} {new : List Entry}
  {a : Arbiter} {owing : List Cancel} {r : RefusalOwed} {m : Message} {k : ReceiptMark} {as bs : List Message}

/-! ## The frame has gone -/

/-- The in-flight record is empty, and the entry sent has left the queue. -/
def State.sentOff (e : Entry) (s : State) : State := (s.withInFlight none).dequeue e

theorem State.only_sentOff (e : Entry) (s : State) : OnlyChanges [.arbiter] s (s.sentOff e) :=
  .dequeue _ (.withInFlight _ (.refl s) (by decide)) (by decide)

/-- TX_DONE for a frame of the slot or one that was detached leaves the queue alone. -/
theorem exec_txDone_apart (runs : s.mainRuns = true) (h : s.arbiter.inFlight = some f) (apart : ∀ e, f.granted ≠ .entry e) :
    exec .txDone s = .next (s.updateCheck ((s.withInFlight none).tellDone f.granted)).drive := by
  have left : (s.withInFlight none).leaveQueue f.granted = s.withInFlight none := by
    unfold State.leaveQueue
    split
    · next e granted => exact absurd granted (apart e)
    · rfl
  exact congrArg (done s) ((State.takeDone_frame runs h).trans (congrArg (State.tellDone f.granted) left))

theorem exec_txDone_entry (runs : s.mainRuns = true) (h : s.arbiter.inFlight = some f) (granted : f.granted = .entry e) :
    exec .txDone s = .next (s.updateCheck ((s.sentOff e).tellDone (.entry e))).drive := by
  refine congrArg (done s) ((State.takeDone_frame runs h).trans ?_)
  unfold State.frameDone
  rw [granted]
  rfl

/-! ## What placed cancels show (R76) -/

namespace CancelsPlaced

variable (h : CancelsPlaced a owing t)
include h

theorem grows : ∃ new, t.arbiter = { a with queue := a.queue ++ new } := by
  obtain ⟨new, arbiter, -⟩ := h
  exact ⟨new, arbiter⟩

/-- Every entry placed is of a cancel that now stands QUEUED. -/
theorem queued (grown : t.arbiter.queue = a.queue ++ new) :
    ∀ x ∈ new, ∃ c ∈ t.offers.cancels, c.stage = .queued ∧ x = .bidCancel c.offer c.reason := by
  obtain ⟨placed, arbiter, waited, -, cancels, -⟩ := h
  rw [arbiter] at grown
  obtain rfl := List.append_cancel_left grown
  intro x hx
  obtain ⟨c, held, -, rfl⟩ := waited x hx
  have own : placed.any (Entry.isCancelFor c.offer) = true := List.any_eq_true.mpr ⟨_, hx, decide_eq_true rfl⟩
  refine ⟨{ c with stage := .queued }, ?_, rfl, rfl⟩
  rw [cancels]
  exact List.mem_map.mpr ⟨c, held, if_pos own⟩

/-- Placing changes stages alone. -/
theorem listed : t.offers.cancels.map (fun c => (c.offer, c.reason)) = owing.map fun c => (c.offer, c.reason) := by
  obtain ⟨placed, -, -, -, cancels, -⟩ := h
  rw [cancels, List.map_map]
  refine List.map_congr_left fun c _ => ?_
  simp only [Function.comp_apply]
  split <;> rfl

theorem settled : (∀ c ∈ t.offers.cancels, c.stage ≠ .owed) ∨ Class1Full t.arbiter.queue := by
  obtain ⟨-, -, -, -, -, settled⟩ := h
  exact settled

end CancelsPlaced

/-! ## The Offer Unit is told (R69, R70, R76, R77) -/

/-- The award wait of the bid starts (R69). -/
def State.bidSent (b : BidRecord) (s : State) : State :=
  (s.withBid (some { b with stage := .sent, mark := .none })).withEntries
    (s.offers.entries.map fun x => if x.id = b.offer ∧ x.state = .bid then { x with waiting := some x.awardWait } else x)

theorem State.bidDone_other (h : ∀ b, s.offers.bid = some b → b.offer ≠ id) : s.bidDone id = s := by
  unfold State.bidDone
  split
  · rfl
  · next b record => rw [if_pos (h b record)]

theorem State.bidDone_sent (record : s.offers.bid = some b) (mark : b.mark ≠ .cancelOnDone) :
    s.bidDone b.offer = (s.bidSent b).placeCancels := by
  simp only [State.bidDone, record, mark, ne_eq, not_true_eq_false, if_false]
  rfl

theorem State.bidDone_given_up (record : s.offers.bid = some b) (mark : b.mark = .cancelOnDone) :
    s.bidDone b.offer = (s.withBid none).oweCancel b.offer .busy := by
  simp [State.bidDone, record, mark]

theorem State.bidDone_sent_placed (runs : s.mainRuns = true) (record : s.offers.bid = some b)
    (mark : b.mark ≠ .cancelOnDone) : CancelsPlaced s.arbiter s.offers.cancels (s.bidDone b.offer) := by
  rw [State.bidDone_sent record mark]
  exact State.placeCancels_placed (s := s.bidSent b) runs

theorem State.bidDone_given_up_placed (runs : s.mainRuns = true) (record : s.offers.bid = some b)
    (mark : b.mark = .cancelOnDone) : CancelsPlaced s.arbiter
      (oweInto s.offers.cancels { offer := b.offer, reason := .busy, stage := .owed }) (s.bidDone b.offer) := by
  rw [State.bidDone_given_up record mark]
  exact State.oweCancel_placed (s := s.withBid none) runs _ _

theorem State.cancelDone_placed (runs : s.mainRuns = true) (id : Nat) :
    CancelsPlaced s.arbiter (s.offers.cancels.filter fun c => c.offer ≠ id) (s.cancelDone id) :=
  State.placeCancels_placed (s := s.withCancels (s.offers.cancels.filter fun c => c.offer ≠ id)) runs

theorem State.bidDone_sent_offers (record : s.offers.bid = some b) (mark : b.mark ≠ .cancelOnDone) :
    (s.bidDone b.offer).offers = { (s.bidSent b).offers with cancels := (s.bidDone b.offer).offers.cancels } := by
  rw [State.bidDone_sent record mark, State.placeCancels_offers]

theorem State.bidDone_given_up_offers (record : s.offers.bid = some b) (mark : b.mark = .cancelOnDone) :
    (s.bidDone b.offer).offers = { s.offers with bid := none, cancels := (s.bidDone b.offer).offers.cancels } := by
  rw [State.bidDone_given_up record mark, State.oweCancel_offers]
  rfl

theorem State.cancelDone_offers (id : Nat) :
    (s.cancelDone id).offers = { s.offers with cancels := (s.cancelDone id).offers.cancels } := by
  rw [State.cancelDone, State.placeCancels_offers]
  rfl

section
variable (runs : s.mainRuns = true)
include runs

/-- What TX_DONE of a bid leaves (R69). -/
theorem State.bidDone_sent_leaves (record : s.offers.bid = some b) (mark : b.mark ≠ .cancelOnDone) :
    (s.bidDone b.offer).offers.bid = some { b with stage := .sent, mark := .none }
      ∧ (s.bidDone b.offer).offers.entries = s.offers.entries.map (fun x =>
          if x.id = b.offer ∧ x.state = .bid then { x with waiting := some x.awardWait } else x)
      ∧ (s.bidDone b.offer).offers.cancels.map (fun c => (c.offer, c.reason))
          = s.offers.cancels.map (fun c => (c.offer, c.reason))
      ∧ (s.bidDone b.offer).CancelsSettled := by
  have placed := State.bidDone_sent_placed runs record mark
  rw [State.bidDone_sent_offers record mark]
  exact ⟨rfl, rfl, placed.listed, placed.settled⟩

/-- What TX_DONE of a bid under *cancel on done* leaves (R77). -/
theorem State.bidDone_given_up_leaves (record : s.offers.bid = some b) (mark : b.mark = .cancelOnDone) :
    (s.bidDone b.offer).offers.bid = none ∧ (s.bidDone b.offer).offers.entries = s.offers.entries
      ∧ (s.bidDone b.offer).offers.cancels.map (fun c => (c.offer, c.reason))
          = (oweInto s.offers.cancels { offer := b.offer, reason := .busy, stage := .owed }).map
              (fun c => (c.offer, c.reason))
      ∧ (s.bidDone b.offer).CancelsSettled := by
  have placed := State.bidDone_given_up_placed runs record mark
  rw [State.bidDone_given_up_offers record mark]
  exact ⟨rfl, rfl, placed.listed, placed.settled⟩

/-- What TX_DONE of a BID_CANCEL leaves (R76). -/
theorem State.cancelDone_leaves (id : Nat) : (s.cancelDone id).offers.entries = s.offers.entries
    ∧ (s.cancelDone id).offers.bid = s.offers.bid
    ∧ (s.cancelDone id).offers.cancels.map (fun c => (c.offer, c.reason))
        = (s.offers.cancels.filter fun c => c.offer ≠ id).map (fun c => (c.offer, c.reason))
    ∧ (s.cancelDone id).CancelsSettled := by
  have placed := State.cancelDone_placed runs id
  rw [State.cancelDone_offers]
  exact ⟨rfl, rfl, placed.listed, placed.settled⟩

end

/-- The owner of a class 1 frame takes no note of it, or places its cancels in the end. -/
theorem State.tellDone_cancels (runs : s.mainRuns = true) (cls : e.cls = 1) : s.tellDone (.entry e) = s
    ∨ ∃ owing, CancelsPlaced s.arbiter owing (s.tellDone (.entry e)) := by
  cases e with
  | bid id =>
    by_cases own : ∃ b, s.offers.bid = some b ∧ b.offer = id
    · obtain ⟨b, record, rfl⟩ := own
      by_cases mark : b.mark = .cancelOnDone
      · exact .inr ⟨_, State.bidDone_given_up_placed runs record mark⟩
      · exact .inr ⟨_, State.bidDone_sent_placed runs record mark⟩
    · exact .inl (State.bidDone_other fun b record same => own ⟨b, record, same⟩)
  | bidCancel id => exact .inr ⟨_, State.cancelDone_placed runs id⟩
  | _ => simp [Entry.cls] at cls

theorem State.tellDone_offers (cls : e.cls = 1) : (s.tellDone (.entry e)).offers = { s.offers with
    entries := (s.tellDone (.entry e)).offers.entries, bid := (s.tellDone (.entry e)).offers.bid
    cancels := (s.tellDone (.entry e)).offers.cancels } := by
  cases e with
  | bid id =>
    change (s.bidDone id).offers = { s.offers with
      entries := (s.bidDone id).offers.entries, bid := (s.bidDone id).offers.bid, cancels := (s.bidDone id).offers.cancels }
    by_cases own : ∃ b, s.offers.bid = some b ∧ b.offer = id
    · obtain ⟨b, record, rfl⟩ := own
      by_cases mark : b.mark = .cancelOnDone
      · rw [State.bidDone_given_up_offers record mark]
      · rw [State.bidDone_sent_offers record mark]
        rfl
    · rw [State.bidDone_other fun b record same => own ⟨b, record, same⟩]
  | bidCancel id =>
    change (s.cancelDone id).offers = { s.offers with
      entries := (s.cancelDone id).offers.entries, bid := (s.cancelDone id).offers.bid
      cancels := (s.cancelDone id).offers.cancels }
    rw [State.cancelDone_offers]
  | _ => simp [Entry.cls] at cls

theorem State.only_tellDone_class1 (cls : e.cls = 1) : OnlyChanges [.offers, .arbiter] s (s.tellDone (.entry e)) := by
  cases e with
  | bid id => exact s.only_bidDone id
  | bidCancel id => exact s.only_cancelDone id
  | _ => simp [Entry.cls] at cls

/-! ## The Message Store is told (R94, R95) -/

/-- A receipt of a message has been sent: it is kept as the last, and a next kind becomes owed (R94). -/
def Message.receiptSent (k : ReceiptMark) (m : Message) : Message :=
  { m with lastSent := some k.kind, mark := k.next.map fun x => { kind := x, stage := .owed, next := none } }

/-- The message's receipt is recorded as sent; it leaves the owed order unless a next kind is owed. -/
def State.receiptSent (id : Nat) (k : ReceiptMark) (s : State) : State :=
  (s.mapMessage id (Message.receiptSent k)).withOwed
    (if k.next = none then s.messages.owed.filter fun i => i ≠ .message id else s.messages.owed)

/-- The refusal's receipt has been sent: the record ends, or stands owed again for its replacement (R95). -/
def State.refusalSent (r : RefusalOwed) (s : State) : State :=
  if r.replaced then s.withRefusal (some { r with stage := .owed, replaced := false })
  else (s.withRefusal none).withOwed (s.messages.owed.filter fun i => i ≠ .refusal)

theorem State.receiptDone_none (h : (s.storedMessage id).bind Message.mark = none) : s.receiptDone id = s := by
  rw [State.receiptDone, h]

theorem State.receiptDone_some (h : (s.storedMessage id).bind Message.mark = some k) :
    s.receiptDone id = (s.receiptSent id k).placeReceipts := by
  rw [State.receiptDone, h]
  cases next : k.next with
  | none =>
    have last : Message.receiptSent k = fun m => { m with lastSent := some k.kind, mark := none } := by
      simp [funext_iff, Message.receiptSent, next]
    simp only [State.receiptSent, last, next]
    rfl
  | some kind =>
    have more : Message.receiptSent k =
        fun m => { m with lastSent := some k.kind, mark := some { kind, stage := .owed, next := none } } := by
      simp [funext_iff, Message.receiptSent, next]
    simp only [State.receiptSent, more, next, reduceCtorEq, if_false]
    rfl

theorem State.refusalDone_none (h : s.messages.refusal = none) : s.refusalDone = s := by
  rw [State.refusalDone, h]

theorem State.refusalDone_some (h : s.messages.refusal = some r) : s.refusalDone = (s.refusalSent r).placeReceipts := by
  rw [State.refusalDone, h]
  rfl

theorem State.only_receiptSent (id : Nat) (k : ReceiptMark) (s : State) : OnlyChanges [.messages] s (s.receiptSent id k) :=
  .withOwed _ (.mapMessage _ _ (.refl s) (by decide)) (by decide)

theorem State.only_refusalSent (r : RefusalOwed) (s : State) : OnlyChanges [.messages] s (s.refusalSent r) := by
  unfold State.refusalSent
  split
  · exact .withRefusal _ (.refl s) (by decide)
  · exact .withOwed _ (.withRefusal _ (.refl s) (by decide)) (by decide)

/-- The owner of a receipt takes no note of it, or changes its own records and then places receipts. -/
theorem State.tellDone_receipts (receipt : e.isReceipt = true) : s.tellDone (.entry e) = s
    ∨ ∃ w, OnlyChanges [.messages] s w
      ∧ w.messages = { s.messages with list := w.messages.list, owed := w.messages.owed, refusal := w.messages.refusal }
      ∧ s.tellDone (.entry e) = w.placeReceipts := by
  cases e with
  | receipt id =>
    cases h : (s.storedMessage id).bind Message.mark with
    | none => exact .inl (State.receiptDone_none h)
    | some k => exact .inr ⟨_, s.only_receiptSent id k, rfl, State.receiptDone_some h⟩
  | receiptRefusal =>
    cases h : s.messages.refusal with
    | none => exact .inl (State.refusalDone_none h)
    | some r =>
      refine .inr ⟨_, s.only_refusalSent r, ?_, State.refusalDone_some h⟩
      unfold State.refusalSent
      split <;> rfl
  | _ => simp [Entry.isReceipt] at receipt

theorem State.only_tellDone_receipt (receipt : e.isReceipt = true) :
    OnlyChanges [.messages, .arbiter] s (s.tellDone (.entry e)) := by
  cases e with
  | receipt id => exact s.only_receiptDone id
  | receiptRefusal => exact s.only_refusalDone
  | _ => simp [Entry.isReceipt] at receipt

/-- Every entry placed is of a receipt that now stands QUEUED. -/
theorem ReceiptsAdded.queued {placed : List Entry} (h : ReceiptsAdded s placed t)
    (grown : t.arbiter.queue = s.arbiter.queue ++ new) :
    ∀ x ∈ new, ∃ i ∈ t.messages.owed, t.owedStage i = some .queued ∧ x = i.entry := by
  rw [h.arbiter] at grown
  obtain rfl := List.append_cancel_left grown
  intro x hx
  obtain ⟨i, held, -, rfl⟩ := h.owed x hx
  exact ⟨i, h.order.symm ▸ held, by rw [h.stage, if_pos hx], rfl⟩

theorem none_placed {q : List Entry} (kept : t.arbiter.queue = q) (grown : t.arbiter.queue = q ++ new) : x ∉ new := by
  rw [kept, List.self_eq_append_right] at grown
  simp [grown]

theorem State.tellDone_queued (runs : s.mainRuns = true) (receipt : e.isReceipt = true)
    (grown : (s.tellDone (.entry e)).arbiter.queue = s.arbiter.queue ++ new) :
    ∀ x ∈ new, ∃ i ∈ (s.tellDone (.entry e)).messages.owed,
      (s.tellDone (.entry e)).owedStage i = some .queued ∧ x = i.entry := by
  rcases State.tellDone_receipts (s := s) receipt with kept | ⟨w, only, -, placed⟩
  · exact fun x hx => absurd hx (none_placed (congrArg (fun u : State => u.arbiter.queue) kept) grown)
  · obtain ⟨_, added, -⟩ := State.placeReceipts_added ((only.mainRuns_eq (by decide)).trans runs)
    have arbiter : w.arbiter = s.arbiter := only.keep .arbiter (by decide)
    rw [← arbiter] at grown
    rw [placed] at grown ⊢
    exact added.queued grown

theorem State.tellDone_messages (receipt : e.isReceipt = true) : (s.tellDone (.entry e)).messages = { s.messages with
    list := (s.tellDone (.entry e)).messages.list, owed := (s.tellDone (.entry e)).messages.owed
    refusal := (s.tellDone (.entry e)).messages.refusal } := by
  rcases State.tellDone_receipts (s := s) receipt with kept | ⟨w, -, messages, placed⟩
  · rw [kept]
  · rw [placed, (State.placeReceipts_restaged w).messages, messages]

/-- The message whose receipt was sent, its stage apart; every other is as it was. -/
theorem State.receiptSent_unplaced (parts : s.messages.list = as ++ m :: bs) (apart : ∀ x ∈ as ++ bs, x.id ≠ m.id) :
    (s.receiptSent m.id k).unplaced = as.map Message.unplaced ++ m.receiptSent k :: bs.map Message.unplaced := by
  have list : (s.receiptSent m.id k).messages.list = as ++ m.receiptSent k :: bs := by
    change s.messages.list.map (Message.changeAt m.id (Message.receiptSent k)) = _
    rw [parts, map_changeAt apart]
  have owed : (m.receiptSent k).unplaced = m.receiptSent k := by
    cases next : k.next <;> simp [Message.unplaced, Message.receiptSent, next]
  rw [State.unplaced, list, List.map_append, List.map_cons, owed]

/-- What TX_DONE of a message's receipt leaves (R94). -/
theorem State.receiptDone_leaves (runs : s.mainRuns = true) (parts : s.messages.list = as ++ m :: bs)
    (apart : ∀ x ∈ as ++ bs, x.id ≠ m.id) (mark : m.mark = some k) :
    (s.receiptDone m.id).unplaced = as.map Message.unplaced ++ m.receiptSent k :: bs.map Message.unplaced
      ∧ (s.receiptDone m.id).messages.owed =
          (if k.next = none then s.messages.owed.filter fun i => i ≠ .message m.id else s.messages.owed)
      ∧ (s.receiptDone m.id).messages.refusal.map (fun q => (q.id, q.replaced))
          = s.messages.refusal.map (fun q => (q.id, q.replaced))
      ∧ (s.receiptDone m.id).ReceiptsSettled := by
  have found : (s.storedMessage m.id).bind Message.mark = some k := by
    rw [State.storedMessage_of_parts parts apart]
    exact mark
  obtain ⟨_, added, settled⟩ := State.placeReceipts_added (s := s.receiptSent m.id k) runs
  have restaged := State.placeReceipts_restaged (s.receiptSent m.id k)
  rw [State.receiptDone_some found]
  exact ⟨restaged.unplaced.trans (State.receiptSent_unplaced parts apart), added.order, restaged.refusal, settled⟩

/-- What TX_DONE of the refusal's receipt leaves (R95). -/
theorem State.refusalDone_leaves (runs : s.mainRuns = true) (record : s.messages.refusal = some r) :
    s.refusalDone.unplaced = s.unplaced
      ∧ (r.replaced = false → s.refusalDone.messages.refusal = none
          ∧ s.refusalDone.messages.owed = s.messages.owed.filter fun i => i ≠ .refusal)
      ∧ (r.replaced = true → s.refusalDone.messages.owed = s.messages.owed
          ∧ ∃ q, s.refusalDone.messages.refusal = some q ∧ q.id = r.id ∧ q.replaced = false)
      ∧ s.refusalDone.ReceiptsSettled := by
  have only := s.only_refusalSent r
  obtain ⟨_, added, settled⟩ := State.placeReceipts_added (s := s.refusalSent r) ((only.mainRuns_eq (by decide)).trans runs)
  have restaged := State.placeReceipts_restaged (s.refusalSent r)
  have refusal := restaged.refusal
  have order := added.order
  have unplaced : (s.refusalSent r).unplaced = s.unplaced := by
    unfold State.refusalSent
    split <;> rfl
  rw [State.refusalDone_some record]
  refine ⟨restaged.unplaced.trans unplaced, fun kept => ?_, fun replaced => ?_, settled⟩
  · simp only [State.refusalSent, kept, Bool.false_eq_true, if_false] at refusal order ⊢
    exact ⟨Option.map_eq_none_iff.mp refusal, order⟩
  · simp only [State.refusalSent, replaced, if_true] at refusal order ⊢
    obtain ⟨q, held, same⟩ := Option.map_eq_some_iff.mp refusal
    exact ⟨order, q, held, congrArg Prod.fst same, congrArg Prod.snd same⟩

/-! ## The Fare Store is told (R46, R55) -/

theorem State.totalSent_serving (serving : s.store.sender = .queued n) :
    s.totalSent n = s.withSender (.sent n s.settings.ackWait) := by
  simp [State.totalSent, serving]

theorem State.shiftSent_none (h : s.store.pendingReport = none) : s.shiftSent n = s := by
  simp [State.shiftSent, h]

section
variable {p : ShiftReport} (pending : s.store.pendingReport = some p)
include pending

theorem State.shiftSent_own (own : p.shift = n) : s.shiftSent n = s.withStore { s.store with pendingReport := none } := by
  simp [State.shiftSent, pending, own]

theorem State.shiftSent_newer (newer : p.shift ≠ n) : s.shiftSent n = s.placeShift := by
  simp [State.shiftSent, pending, newer]

/-- A newer report is placed where no SHIFT entry stands and a shared place is left. -/
theorem State.placeShift_queue (runs : s.mainRuns = true) :
    ((∀ x ∈ s.arbiter.queue, x.isShift = false) ∧ sharedCount s.arbiter.queue < 6 →
        s.placeShift.arbiter.queue = s.arbiter.queue ++ [.shift p.shift])
      ∧ ((∃ x ∈ s.arbiter.queue, x.isShift = true) ∨ 6 ≤ sharedCount s.arbiter.queue →
        s.placeShift.arbiter.queue = s.arbiter.queue) := by
  have absent : s.arbiter.queue.any Entry.isShift = false ↔ ∀ x ∈ s.arbiter.queue, x.isShift = false := by simp
  rw [State.placeShift_arbiter runs pending]
  refine ⟨fun free => by rw [if_pos ⟨absent.mpr free.1, free.2⟩], fun full => ?_⟩
  rw [if_neg]
  rintro ⟨none, room⟩
  rcases full with ⟨x, held, shift⟩ | full
  · exact Bool.false_ne_true ((absent.mp none x held).symm.trans shift)
  · omega

end

/-! ## The queue grows at its newest end -/

theorem State.shiftSent_grows (n : Nat) :
    ∃ new, (s.shiftSent n).arbiter = { s.arbiter with queue := s.arbiter.queue ++ new } := by
  have same : ∃ new, s.arbiter = { s.arbiter with queue := s.arbiter.queue ++ new } := ⟨[], by simp⟩
  cases pending : s.store.pendingReport with
  | none => rwa [State.shiftSent_none pending]
  | some p =>
    by_cases own : p.shift = n
    · rwa [State.shiftSent_own pending own]
    · rw [State.shiftSent_newer pending own]
      rcases s.placeShift_cases with kept | ⟨q, -, -, -, -, placed⟩
      · rwa [kept]
      · rw [placed]
        exact ⟨_, rfl⟩

theorem State.tellDone_grows (runs : s.mainRuns = true) (e : Entry) :
    ∃ new, (s.tellDone (.entry e)).arbiter = { s.arbiter with queue := s.arbiter.queue ++ new } := by
  have same : ∃ new, s.arbiter = { s.arbiter with queue := s.arbiter.queue ++ new } := ⟨[], by simp⟩
  have cancels : e.cls = 1 → ∃ new, (s.tellDone (.entry e)).arbiter = { s.arbiter with queue := s.arbiter.queue ++ new } := by
    intro cls
    rcases State.tellDone_cancels runs cls with kept | ⟨_, placed⟩
    · rwa [kept]
    · exact placed.grows
  have receipts : e.isReceipt = true →
      ∃ new, (s.tellDone (.entry e)).arbiter = { s.arbiter with queue := s.arbiter.queue ++ new } := by
    intro receipt
    rcases State.tellDone_receipts (s := s) receipt with kept | ⟨w, only, -, placed⟩
    · rwa [kept]
    · obtain ⟨new, added, -⟩ := State.placeReceipts_added ((only.mainRuns_eq (by decide)).trans runs)
      rw [placed, added.arbiter, only.keep .arbiter (by decide)]
      exact ⟨new, rfl⟩
  cases e with
  | bid | bidCancel => exact cancels rfl
  | receipt | receiptRefusal => exact receipts rfl
  | shift n => exact State.shiftSent_grows n
  | total n =>
    have kept : (s.tellDone (.entry (.total n))).arbiter = s.arbiter := (State.only_totalSent n s).keep .arbiter (by decide)
    rwa [kept]
  | driverMsg | status | tableResult | passUp => exact same

/-! ## The frame ends -/

theorem State.tellDone_silent (silent : e = .status ∨ e.isTableResult = true) : s.tellDone (.entry e) = s := by
  cases e with
  | status | tableResult => rfl
  | _ => simp [Entry.isTableResult] at silent

section
variable {changed : List Block} (h : OnlyChanges changed (s.sentOff e) u)
include h

/-- What an owner in the main domain changes stands beside the arbiter. -/
theorem only_sent (main : ∀ b ∈ changed, b.retained = false) :
    OnlyChanges (.arbiter :: .pins :: changed) s (s.updateCheck u).drive :=
  OnlyChanges.endedMain (((s.only_sentOff e).mono (by simp)).andThen (h.mono (by simp +contextual))) (by simp)
    (by simpa [Block.retained] using main)

/-- What an owner that keeps retained state changes. -/
theorem only_sentRetained : OnlyChanges (.arbiter :: .check :: .pins :: changed) s (s.updateCheck u).drive :=
  OnlyChanges.ended (((s.only_sentOff e).mono (by simp)).andThen (h.mono (by simp +contextual))) (by simp) (by simp)

end

/-- Settles O41: the entry leaves the queue, and the lemmas of its kind say what its owner does. -/
theorem txDoneEndsFrame : Obligations.TxDoneEndsFrame := by
  intro s f runs inFlight
  by_cases apart : ∀ e, f.granted ≠ .entry e
  · refine ⟨_, exec_txDone_apart runs inFlight apart, ?_⟩
    have taken : OnlyChanges [.arbiter] s (s.withInFlight none) := .withInFlight _ (.refl s) (by decide)
    rcases granted : f.granted with e | _ | _
    · exact absurd granted (apart e)
    · have told : OnlyChanges [.arbiter, .emergency, .check, .pins] s
          (s.updateCheck ((s.withInFlight none).tellDone .slot)).drive :=
        OnlyChanges.ended (.withEmergency (taken.mono (by decide)) (by decide)) (by decide) (by decide)
      exact ⟨told.mono (by decide), rfl, rfl, rfl, fun _ => ⟨told, rfl, rfl⟩, nofun, nofun⟩
    · have told : OnlyChanges [.arbiter, .pins] s (s.updateCheck (s.withInFlight none)).drive :=
        OnlyChanges.endedMain (taken.mono (by decide)) (by decide) (by decide)
      exact ⟨told.mono (by decide), rfl, rfl, rfl, nofun, fun _ => ⟨told, rfl⟩, nofun⟩
  · obtain ⟨e, granted⟩ := not_forall_not.mp apart
    have sentRuns : (s.sentOff e).mainRuns = true := runs
    have only := State.only_tellDone (.entry e) (s.sentOff e)
    obtain ⟨new, grown⟩ := State.tellDone_grows sentRuns e
    refine ⟨_, exec_txDone_entry runs inFlight granted, ?_, congrArg Arbiter.inFlight grown,
      (congrArg Arbiter.slot grown).trans rfl, (congrArg Arbiter.settle grown).trans rfl, by simp [granted],
      by simp [granted], fun e' same => ?_⟩
    · exact (only_sentRetained only).mono (by decide)
    obtain rfl := Granted.entry.inj (granted.symm.trans same)
    refine ⟨fun silent => ?_, ?_, ?_, ?_, ⟨new, (congrArg Arbiter.queue grown).symm⟩, ?_, fun cls => ?_, ?_, ?_, ?_,
      fun receipt => ?_, ?_, ?_⟩
    · rw [State.tellDone_silent silent]
      exact ⟨(only_sent (changed := []) (.refl _) (by decide)).mono (by decide), rfl⟩
    · rintro n rfl serving
      have told : (s.sentOff (.total n)).totalSent n = _ := State.totalSent_serving serving
      refine ⟨(only_sentRetained (State.only_totalSent n _)).mono (by decide), ?_, ?_⟩
      · exact congrArg State.arbiter told
      · exact congrArg State.store told
    · rintro n b rfl
      exact ⟨(only_sent (State.only_driverDone n _) (by decide)).mono (by decide), rfl, rfl⟩
    · rintro n b rfl
      exact ⟨(only_sent (.withTerminal (.refl _) (List.mem_singleton.mpr rfl)) (by decide)).mono (by decide),
        rfl, rfl⟩
    · rintro n rfl
      have kept := State.only_shiftSent n (s.sentOff (.shift n))
      refine ⟨kept.keep .offers (by decide), kept.keep .messages (by decide), fun none => ?_, fun r pending =>
        ⟨fun own => ?_, fun newer => ?_⟩⟩
      · have told := State.shiftSent_none (s := s.sentOff (.shift n)) (n := n) none
        exact ⟨(congrArg State.store told).trans rfl, (congrArg (fun u : State => u.arbiter.queue) told).trans rfl⟩
      · have told := State.shiftSent_own (s := s.sentOff (.shift n)) (n := n) pending own
        exact ⟨(only_sentRetained (State.only_shiftSent n _)).mono (by decide),
          congrArg State.store told, congrArg (fun u : State => u.arbiter.queue) told⟩
      · have told := State.shiftSent_newer (s := s.sentOff (.shift n)) (n := n) pending newer
        have queue := State.placeShift_queue (s := s.sentOff (.shift n)) pending runs
        rw [← told] at queue
        exact ⟨(only_sent (told ▸ State.only_placeShift _) (by decide)).mono (by decide), queue⟩
    · refine ⟨(only_sent (State.only_tellDone_class1 cls) (by decide)).mono (by decide),
        State.tellDone_offers (s := s.sentOff e) cls, fun more grown x hx => ?_⟩
      rcases State.tellDone_cancels sentRuns cls with kept | ⟨_, placed⟩
      · exact absurd hx (none_placed (congrArg (fun u : State => u.arbiter.queue) kept) grown)
      · exact placed.queued grown x hx
    · rintro o b rfl record rfl mark
      exact State.bidDone_sent_leaves (s := s.sentOff (.bid b.offer)) runs record mark
    · rintro o b rfl record rfl mark
      exact State.bidDone_given_up_leaves (s := s.sentOff (.bid b.offer)) runs record mark
    · rintro o r rfl
      exact State.cancelDone_leaves (s := s.sentOff (.bidCancel o r)) runs o
    · exact ⟨(only_sent (State.only_tellDone_receipt receipt) (by decide)).mono (by decide),
        State.tellDone_messages (s := s.sentOff e) receipt,
        fun _ grown => State.tellDone_queued sentRuns receipt grown⟩
    · rintro as m bs k rfl distinct parts mark
      exact State.receiptDone_leaves (s := s.sentOff (.receipt m.id)) runs parts (apart_of_distinct (parts ▸ distinct)) mark
    · rintro r rfl record
      exact State.refusalDone_leaves (s := s.sentOff .receiptRefusal) runs record

end Sys2Proof.Machine
end

section
/-! PROOFS. Status polls, the grant and the frame it builds, the payloads of the uplink kinds, and the counts of the queue
(R139, R140, R143 to R146). -/

namespace Sys2Proof.Machine

variable {s t u : State} {e x : Entry} {hdr : AirHeader} {payload : List Byte} {q as bs : List Entry}

/-! ## The counts (R140) -/

theorem classCount_countP (q : List Entry) (c : Nat) : classCount q c = q.countP (fun e => e.cls = c) :=
  List.countP_eq_length_filter.symm

/-- Classes 3, 4 and 5 are the classes from 3 on. -/
theorem sharedCount_countP (q : List Entry) :
    sharedCount q = q.countP (fun e => 3 ≤ e.cls) + if q.countP (fun e => e.cls = 1) = 2 then 1 else 0 := by
  have classes : q.countP (fun e => e.cls = 3) + q.countP (fun e => e.cls = 4) + q.countP (fun e => e.cls = 5)
      = q.countP (fun e => 3 ≤ e.cls) := by
    induction q with
    | nil => rfl
    | cons e q ih =>
      have range := e.cls_range
      simp only [List.countP_cons, decide_eq_true_eq]
      split <;> split <;> split <;> split <;> omega
  simp only [sharedCount, classCount_countP, classes]

/-! ## Status polls (R143) -/

theorem exec_statusPoll (h : s.admits .statusPoll hdr payload = true) :
    exec (.statusPoll hdr payload) s = .next (s.routedFrom (s.withRecord none).pollArrives) :=
  done_admitted State.pollArrives h

theorem hasPlace_status : hasPlace q .status = true ↔ .status ∉ q ∧ sharedCount q < 6 := by
  simp [hasPlace, sharedFree, Config.sharedPlaces]

theorem State.pollArrives_placed (cab : s.identity.cab ≠ 0) (absent : .status ∉ s.arbiter.queue)
    (room : sharedCount s.arbiter.queue < 6) : s.pollArrives = s.enqueue .status :=
  if_pos ⟨cab, hasPlace_status.mpr ⟨absent, room⟩⟩

theorem State.pollArrives_dropped
    (h : s.identity.cab = 0 ∨ .status ∈ s.arbiter.queue ∨ 6 ≤ sharedCount s.arbiter.queue) : s.pollArrives = s := by
  refine if_neg fun ⟨cab, place⟩ => ?_
  obtain ⟨absent, room⟩ := hasPlace_status.mp place
  rcases h with none | held | full
  · exact cab none
  · exact absent held
  · omega

/-! ## The head of the highest class (R145) -/

theorem queueHead_eq (before : ∀ x ∈ as, e.cls < x.cls) (after : ∀ x ∈ bs, e.cls ≤ x.cls) :
    queueHead (as ++ e :: bs) = some e := by
  have higher : ∀ c, c < e.cls → (as ++ e :: bs).find? (fun x => x.cls = c) = none := by
    intro c lower
    refine List.find?_eq_none.mpr fun x held => ?_
    have least : e.cls ≤ x.cls := by
      rcases List.mem_append.mp held with held | held
      · exact (before x held).le
      · rcases List.mem_cons.mp held with rfl | held
        · exact le_rfl
        · exact after x held
    simp only [decide_eq_true_eq]
    omega
  have own : (as ++ e :: bs).find? (fun x => x.cls = e.cls) = some e :=
    List.find?_eq_some_iff_append.mpr ⟨by simp, as, bs, rfl, fun x held => by simpa using (before x held).ne'⟩
  obtain ⟨front, back, classes, lower⟩ :
      ∃ front back, [1, 2, 3, 4, 5] = front ++ e.cls :: back ∧ ∀ c ∈ front, c < e.cls := by
    obtain ⟨low, high⟩ := e.cls_range
    interval_cases e.cls
    · exact ⟨[], _, rfl, by decide⟩
    · exact ⟨[1], _, rfl, by decide⟩
    · exact ⟨[1, 2], _, rfl, by decide⟩
    · exact ⟨[1, 2, 3], _, rfl, by decide⟩
    · exact ⟨[1, 2, 3, 4], _, rfl, by decide⟩
  have skipped : front.findSome? (fun c => (as ++ e :: bs).find? fun x => x.cls = c) = none :=
    List.findSome?_eq_none_iff.mpr fun c hc => higher c (lower c hc)
  rw [queueHead, classes, List.findSome?_append, skipped, List.findSome?_cons, own]
  rfl

/-! ## What is granted (R145) -/

theorem State.choice_stopped
    (h : s.mainRuns = false ∨ s.identity.cab = 0 ∨ s.arbiter.inFlight ≠ none ∨ s.arbiter.settle ≠ none) :
    s.choice = none := by
  refine if_pos ?_
  simp only [State.modemIdle, Bool.or_eq_true, Bool.not_eq_true', Bool.and_eq_false_iff, Option.isNone_eq_false_iff,
    Option.isSome_iff_ne_none, decide_eq_true_eq]
  grind

section
variable (runs : s.mainRuns = true) (cab : s.identity.cab ≠ 0) (idle : s.arbiter.inFlight = none)
  (settled : s.arbiter.settle = none)
include runs cab idle settled

theorem State.choice_open : s.choice =
    if s.arbiter.slot then some .slot
    else if s.link.state = .synced ∧ 0 < s.link.allowance ∧ s.routineStopped = false then
      (queueHead s.arbiter.queue).map .entry
    else none :=
  if_neg (by simp [State.modemIdle, runs, cab, idle, settled])

theorem State.choice_slot (slot : s.arbiter.slot = true) : s.choice = some .slot := by
  rw [State.choice_open runs cab idle settled, if_pos slot]

theorem State.choice_withheld (slot : s.arbiter.slot = false)
    (h : s.link.state ≠ .synced ∨ s.link.allowance = 0 ∨ s.arbiter.queue = []
      ∨ (s.condition = .parked ∧ s.settings.stopAir = true)) : s.choice = none := by
  rw [State.choice_open runs cab idle settled, if_neg (by simp [slot])]
  split
  · next granting =>
    obtain ⟨synced, allowance, running⟩ := granting
    rcases h with unsynced | none | empty | stopped
    · exact absurd synced unsynced
    · omega
    · rw [empty]
      rfl
    · simp [State.routineStopped, stopped] at running
  · rfl

theorem State.choice_head (slot : s.arbiter.slot = false) (synced : s.link.state = .synced) (allowance : 1 ≤ s.link.allowance)
    (running : s.condition ≠ .parked ∨ s.settings.stopAir = false) (head : queueHead s.arbiter.queue = some e) :
    s.choice = some (.entry e) := by
  have notStopped : s.routineStopped = false := by
    simpa only [State.routineStopped, Bool.and_eq_false_iff, decide_eq_false_iff_not] using running
  rw [State.choice_open runs cab idle settled, if_neg (by simp [slot]), if_pos ⟨synced, allowance, notStopped⟩, head]
  rfl

end

theorem State.makeGrant_none (h : s.choice = none) : s.makeGrant = s := by rw [State.makeGrant, h]

theorem State.makeGrant_slot (h : s.choice = some .slot) : s.makeGrant = s.grantSlot := by rw [State.makeGrant, h]

theorem State.makeGrant_entry (h : s.choice = some (.entry e)) : s.makeGrant = s.grantEntry e := by rw [State.makeGrant, h]

/-! ## The frame granted (R146) -/

/-- The frame that a grant hands over. -/
def State.frameFor (e : Entry) (s : State) : InFlight :=
  { granted := .entry e, kind := e.code, cls := some e.cls, cycle := s.link.cycle.map CycleNow.number
    timer := Config.responseTicks, frame := [] }

/-- The grant is charged, and its frame is in flight and not yet built. -/
def State.granting (e : Entry) (s : State) : State := s.charge.withInFlight (some (s.frameFor e))

/-- The bytes of the frame, built with the frame in flight. -/
def State.frameBytes (e : Entry) (s : State) : List Byte := uplinkFrame s.identity e.code ((s.granting e).entryPayload e)

/-- The frame is built and handed over. -/
def State.granted (e : Entry) (s : State) : State := (s.granting e).handOver (s.frameBytes e)

theorem State.grantEntry_eq (e : Entry) : s.grantEntry e = (s.granted e).tellGrant e := rfl

theorem State.only_granted (e : Entry) : OnlyChanges [.link, .arbiter] s (s.granted e) :=
  .handOver _ (.withInFlight _ (.charge (.refl s) (by decide)) (by decide)) (by decide)

theorem State.granted_offers (e : Entry) : (s.granted e).offers = s.offers := (State.only_granted e).keep .offers (by decide)

theorem State.granted_messages (e : Entry) : (s.granted e).messages = s.messages :=
  (State.only_granted e).keep .messages (by decide)

theorem State.grantEntry_arbiter (e : Entry) : (s.grantEntry e).arbiter =
    { s.arbiter with inFlight := some { s.frameFor e with frame := s.frameBytes e } } :=
  (State.only_tellGrant e _).keep .arbiter (by decide)

theorem State.grantEntry_link (e : Entry) : (s.grantEntry e).link = { s.link with allowance := s.link.allowance - 1 } :=
  (State.only_tellGrant e _).keep .link (by decide)

theorem State.frameBytes_of_ne (other : e ≠ .status) :
    s.frameBytes e = uplinkFrame s.identity e.code (s.entryPayload e) := by
  cases e with
  | status => exact absurd rfl other
  | driverMsg n b => cases b <;> rfl
  | _ => rfl

/-- STATUS shows the allowance after its own charge, and itself in flight (R143). -/
theorem State.frameBytes_status (slot : s.arbiter.slot = false) : s.frameBytes .status = uplinkFrame s.identity 0x45
    (u8 s.link.state.code ++ u8 ((s.link.cycle.map CycleNow.number).getD 0)
      ++ u8 (s.link.allowance - 1) ++ u16 s.link.crcErrors
      ++ u8 (classCount s.arbiter.queue 1) ++ u8 (classCount s.arbiter.queue 2)
      ++ u8 (classCount s.arbiter.queue 3) ++ u8 (classCount s.arbiter.queue 4)
      ++ u8 (classCount s.arbiter.queue 5)
      ++ flagByte [false, s.link.cycle.any CycleNow.quiet, s.fault.isSome]
      ++ u8 s.meter.state.code ++ u8 s.condition.code
      ++ u16 ((s.tariff.map Tariff.version).getD 0) ++ [0x45#8, 5#8]) := by
  rw [← slot]
  rfl

/-! ## The owner is told of the grant (R147) -/

theorem State.tellGrant_bid (o : Nat) : (s.tellGrant (.bid o)).messages = s.messages ∧ (s.tellGrant (.bid o)).offers =
    { s.offers with bid := s.offers.bid.map fun b => { b with stage := .inFlight } } := ⟨rfl, rfl⟩

theorem State.tellGrant_bidCancel (o : Nat) (r : CancelReason) : (s.tellGrant (.bidCancel o r)).messages = s.messages
    ∧ (s.tellGrant (.bidCancel o r)).offers = { s.offers with
        cancels := s.offers.cancels.map fun c => if c.offer = o then { c with stage := .inFlight } else c } := ⟨rfl, rfl⟩

theorem State.tellGrant_receipt (id : Nat) : (s.tellGrant (.receipt id)).offers = s.offers
    ∧ (s.tellGrant (.receipt id)).messages = { s.messages with
        list := s.messages.list.map fun m =>
          if m.id = id then { m with mark := m.mark.map fun k => { k with stage := .inFlight } } else m } := ⟨rfl, rfl⟩

/-- A replacement that waited is the one now in flight (R95). -/
theorem State.tellGrant_refusal : (s.tellGrant .receiptRefusal).offers = s.offers
    ∧ (s.tellGrant .receiptRefusal).messages = { s.messages with
        refusal := s.messages.refusal.map fun r => { r with stage := .inFlight, replaced := false } } := by
  simp [State.tellGrant, State.receiptGranted, State.setOwedStage, State.withRefusal, State.withMessages, Option.map_map,
    Function.comp_def]

/-- The owners outside classes 1 and 3 are told nothing. -/
theorem State.tellGrant_silent (cls : 2 ≤ e.cls) (other : e.isReceipt = false) : s.tellGrant e = s := by
  cases e with
  | bid | bidCancel => simp [Entry.cls] at cls
  | receipt | receiptRefusal => simp [Entry.isReceipt] at other
  | _ => rfl

/-! ## The payloads (R109, R195, R196) -/

/-- The zone field: the current zone where it is known, else 0 (R61). -/
theorem State.optId_knownZone_held {z : Nat} (zone : s.offers.zone = some z) (held : s.HoldsZone z) :
    optId s.knownZone = u16 z := by
  have known : s.knownZone = some z := by
    rw [State.knownZone, zone]
    exact Option.filter_some_pos (State.zoneHeld_iff.mpr held)
  rw [known]
  rfl

theorem State.optId_knownZone_absent (h : ∀ z, s.offers.zone = some z → ¬ s.HoldsZone z) :
    optId s.knownZone = [0#8, 0#8] := by
  have unknown : s.knownZone = none := by
    refine Option.filter_eq_none_iff.mpr fun z zone held => ?_
    exact h z zone (State.zoneHeld_iff.mp held)
  rw [unknown]
  rfl

/-- The first element of a list that satisfies a predicate. -/
theorem find?_first {α : Type} {p : α → Bool} {front back : List α} {a : α} (own : p a = true)
    (before : ∀ x ∈ front, p x = false) : (front ++ a :: back).find? p = some a :=
  List.find?_eq_some_iff_append.mpr ⟨own, front, back, rfl, fun x hx => by rw [before x hx]; rfl⟩

theorem State.totalPayload {front back : List TripRecord} {r : TripRecord} (parts : s.store.records = front ++ r :: back)
    (apart : ∀ x ∈ front, x.trip ≠ r.trip) : s.entryPayload (.total r.trip) = r.bytes := by
  have found : s.store.records.find? (fun x => x.trip = r.trip) = some r := by
    rw [parts]
    exact find?_first (decide_eq_true rfl) fun x hx => decide_eq_false (apart x hx)
  rw [State.entryPayload, found]
  rfl

theorem State.receiptPayload_marked {front back : List Message} {m : Message} {k : ReceiptMark}
    (parts : s.messages.list = front ++ m :: back) (apart : ∀ x ∈ front, x.id ≠ m.id) (mark : m.mark = some k) :
    s.entryPayload (.receipt m.id) = u16 m.id ++ u8 k.kind.code ++ u8 k.kind.answerCode := by
  have found : s.storedMessage m.id = some m := by
    rw [State.storedMessage, parts]
    exact find?_first (decide_eq_true rfl) fun x hx => decide_eq_false (apart x hx)
  rw [State.entryPayload, State.receiptPayload, found, Option.bind_some, mark]
  rfl

theorem State.refusalPayload {r : RefusalOwed} (record : s.messages.refusal = some r) :
    s.entryPayload .receiptRefusal = u16 r.id ++ [4#8, 0#8] := by
  rw [State.entryPayload, record]
  rfl

theorem State.shiftPayload {r : ShiftReport} (pending : s.store.pendingReport = some r) (n : Nat) :
    s.entryPayload (.shift n) = r.bytes := by
  rw [State.entryPayload, pending]
  rfl

/-- The trip that a report is about (R109). -/
def State.reportTrip (s : State) : Option Trip := if s.meter.onTrip then s.meter.trip else none

/-- The emergency report by its fields; those that depend on the meter's state and on the zone stand as given. -/
theorem State.reportPayload_fields {a : Activation} {job fare zone : List Byte} {onTrip : Bool}
    (active : s.emergency.activation = some a) (isJob : optId s.reportJob = job)
    (isFare : amount ((s.reportTrip.map Trip.fare).getD 0)
      ++ u32 ((s.reportTrip.map fun x => metres x.pulses s.identity.k).getD 0) = fare)
    (isZone : optId s.knownZone = zone) (isTrip : s.reportTrip.isSome = onTrip) : s.reportPayload =
      u8 s.emergency.reports ++ u16 s.emergency.elapsed ++ u8 a.clock.day ++ u24 a.clock.second
        ++ u8 s.emergency.state.code ++ u8 s.meter.state.code ++ job ++ fare ++ zone
        ++ flagByte [s.monitor.seatLevel, s.monitor.ignLevel, a.known, onTrip]
        ++ u8 s.condition.code ++ u8 s.link.state.code := by
  subst isJob isFare isZone isTrip
  simp only [State.reportPayload, State.reportTrip, active, Clock.bytes, Option.map_some, Option.getD_some, Option.any_some,
    List.append_assoc]

/-- Settles O40: polls and grants by their branches, the bytes by their layouts, the counts as counts. -/
theorem pollsAndGrants : Obligations.PollsAndGrants := by
  refine ⟨fun s hdr payload admitted => ?polls, fun s => ?grants, ?frames, fun s => ?payloads, fun _ _ _ _ _ _ _ => rfl,
    fun q c => ⟨classCount_countP q c, sharedCount_countP q⟩⟩
  case polls =>
    refine ⟨_, exec_statusPoll admitted, fun dropped => ?_, fun cab absent room => ?_⟩
    · rw [State.pollArrives_dropped (s := s.withRecord none) dropped]
      exact s.routedFrom_idle
    · rw [State.pollArrives_placed (s := s.withRecord none) cab absent room]
      exact ⟨State.routedFrom_main (.enqueue _ (.refl _) (by decide)) (by decide) (by decide),
        (State.only_routedFrom s _).keep .arbiter (by decide)⟩
  case grants =>
    refine ⟨_, rfl, fun stopped => ?_, fun runs cab idle settled => ⟨fun slot => ?_, fun slot withheld => ?_,
      fun as e bs slot synced allowance running parts before after => ?_⟩⟩
    · rw [State.makeGrant_none (State.choice_stopped stopped)]
      exact s.only_ended_self
    · rw [State.makeGrant_slot (State.choice_slot runs cab idle settled slot)]
      exact ⟨(s.only_grantSlot.mono (by decide)).endedMain (by decide) (by decide), rfl⟩
    · rw [State.makeGrant_none (State.choice_withheld runs cab idle settled slot withheld)]
      exact s.only_ended_self
    · have head : queueHead s.arbiter.queue = some e := by rw [parts, queueHead_eq before after]
      rw [State.makeGrant_entry (State.choice_head runs cab idle settled slot synced allowance running head)]
      have arbiter := State.grantEntry_arbiter (s := s) e
      have link := State.grantEntry_link (s := s) e
      have offers := State.granted_offers (s := s) e
      have messages := State.granted_messages (s := s) e
      have only := (s.only_grantEntry e).mono (bs := [.link, .arbiter, .offers, .messages, .pins]) (by decide)
      refine ⟨only.endedMain (by decide) (by decide), link, ?_⟩
      rw [State.grantEntry_eq] at arbiter ⊢
      generalize s.granted e = u at arbiter offers messages ⊢
      change (u.tellGrant e).arbiter.queue = _ ∧ (u.tellGrant e).arbiter.slot = _ ∧ (u.tellGrant e).arbiter.settle = _
        ∧ (∃ f, (u.tellGrant e).arbiter.inFlight = some f ∧ _) ∧ _
      rw [arbiter]
      refine ⟨rfl, slot, settled, ⟨_, rfl, rfl, rfl, rfl, rfl, rfl, State.frameBytes_of_ne, ?_⟩, ?_, ?_, ?_, ?_,
        fun cls other => ?_⟩
      · rintro rfl
        exact State.frameBytes_status slot
      · rintro o rfl
        rw [← messages, ← offers]
        exact State.tellGrant_bid (s := u) o
      · rintro o r rfl
        rw [← messages, ← offers]
        exact State.tellGrant_bidCancel (s := u) o r
      · rintro id rfl
        rw [← messages, ← offers]
        exact State.tellGrant_receipt (s := u) id
      · rintro rfl
        rw [← messages, ← offers]
        exact State.tellGrant_refusal (s := u)
      · rw [State.tellGrant_silent cls other]
        exact ⟨offers, messages⟩
  case frames =>
    rintro i kind payload _ rfl
    rfl
  case payloads =>
    refine ⟨fun o z zone held => ?_, fun o unknown => ?_, fun o => ⟨rfl, rfl, rfl⟩, fun as r bs parts apart => ?_,
      fun as m bs k parts apart mark => ⟨fun kind => ?_, fun kind => ?_, fun c kind => ?_⟩, fun r => State.refusalPayload,
      fun n c => rfl, fun n b => rfl, fun r => rfl, fun n r pending => State.shiftPayload pending n, fun n b => rfl,
      fun a zone active known unknown => ?_⟩
    · exact congrArg (u16 o ++ ·) (State.optId_knownZone_held zone held)
    · exact congrArg (u16 o ++ ·) (State.optId_knownZone_absent unknown)
    · rw [State.totalPayload parts apart]
      rfl
    · rw [State.receiptPayload_marked parts apart mark, kind]
      rfl
    · rw [State.receiptPayload_marked parts apart mark, kind]
      rfl
    · rw [State.receiptPayload_marked parts apart mark, kind]
      rfl
    · refine State.reportPayload_fields active ?job ?fare ?zone ?trip
      case job =>
        unfold State.reportJob
        cases s.meter.state <;> cases s.meter.jobId <;> cases s.meter.trip <;> simp [optId, u16]
      case fare =>
        unfold State.reportTrip Meter.onTrip
        cases s.meter.state <;> cases s.meter.trip <;> simp [amount, bcdByte, u32, u16]
      case zone =>
        by_cases held : ∃ z, s.offers.zone = some z ∧ s.HoldsZone z
        · obtain ⟨z, zone, held⟩ := held
          rw [known z zone held, State.optId_knownZone_held zone held]
        · have absent : ∀ z, s.offers.zone = some z → ¬ s.HoldsZone z := fun z zone k => held ⟨z, zone, k⟩
          rw [unknown absent, State.optId_knownZone_absent absent]
      case trip =>
        unfold State.reportTrip Meter.onTrip
        cases s.meter.state <;> cases s.meter.trip <;> simp

end Sys2Proof.Machine
end

section
/-! PROOFS. What becomes of the result of a load (R142, R161), and how a command of the port that opened a load ends. -/

namespace Sys2Proof.Machine

variable {s t u v : State} {r : LoadResult} {port : LoadPort} {bs : List Block} {i : Instr} {p : List Byte} {e : Entry}
  {c : Load}

/-! ## A TABLE_RESULT is offered (R142) -/

/-- The entries that may give their place to a TABLE_RESULT. -/
def State.givesWay (s : State) (e : Entry) : Bool := e.cls = 5 && !e.isTableResult && !s.entryInFlight e

theorem State.displaceable_eq : s.displaceable = s.arbiter.queue.reverse.find? s.givesWay := rfl

theorem State.givesWay_iff : s.givesWay e = true ↔ e.cls = 5 ∧ e.isTableResult = false ∧ s.entryInFlight e = false := by
  simp [State.givesWay, and_assoc]

theorem State.find_givesWay_none {q : List Entry}
    (h : ∀ x ∈ q, x.cls = 5 → x.isTableResult = true ∨ s.entryInFlight x = true) : q.reverse.find? s.givesWay = none := by
  refine List.find?_eq_none.mpr fun x hx gives => ?_
  obtain ⟨cls, other, waits⟩ := State.givesWay_iff.mp gives
  rcases h x (List.mem_reverse.mp hx) cls with k | k
  · exact Bool.noConfusion (other.symm.trans k)
  · exact Bool.noConfusion (waits.symm.trans k)

/-- The search from the newest end stops at the last entry that gives way. -/
theorem State.displaceable_newest {as bs : List Entry} (parts : s.arbiter.queue = as ++ e :: bs)
    (gives : s.givesWay e = true)
    (newest : ∀ x ∈ bs, x.cls = 5 → x.isTableResult = true ∨ s.entryInFlight x = true) : s.displaceable = some e := by
  rw [State.displaceable_eq, parts, List.reverse_append, List.reverse_cons, List.append_assoc, List.find?_append,
    State.find_givesWay_none newest, Option.none_or]
  exact List.find?_cons_of_pos gives

theorem State.displaced_other (h : ∀ n d, e ≠ .passUp n d) : s.displaced e = s := by
  unfold State.displaced
  split
  · exact absurd rfl (h _ _)
  · rfl

/-- R142: what `State.offerResult` does is what a TABLE_RESULT is offered means. -/
theorem State.offerResult_offered (r : LoadResult) (s : State) : ResultOffered r s (s.offerResult r) := by
  refine ⟨fun room => ?_, fun full => ⟨fun none => ?_, fun as e bs parts first cls other waits newest => ?_⟩⟩
  · rw [State.offerResult, if_pos (sharedFree_iff.mpr room)]
    exact ⟨rfl, rfl⟩
  · rw [State.offerResult, if_neg (sharedFree_eq_false full), State.displaceable_eq, State.find_givesWay_none none]
    exact ⟨rfl, rfl⟩
  · have gives : s.givesWay e = true := State.givesWay_iff.mpr ⟨cls, other, waits⟩
    rw [State.offerResult, if_neg (sharedFree_eq_false full), State.displaceable_newest parts gives newest]
    have erased : s.arbiter.queue.erase e = as ++ bs := by
      rw [parts, List.erase_append_right _ first, List.erase_cons_head]
    have arbiter : ((s.dequeue e).displaced e).arbiter = { s.arbiter with queue := as ++ bs } := by
      rw [← erased]
      exact (State.only_displaced e (s.dequeue e)).keep .arbiter (by decide)
    refine ⟨congrArg (fun a : Arbiter => { a with queue := a.queue ++ [Entry.tableResult r] }) arbiter, ?_, fun h => ?_⟩
    · rintro ⟨n, d, rfl⟩
      rfl
    · change ((s.dequeue e).displaced e).terminal = _
      rw [State.displaced_other h]
      rfl

/-- Offering a result reads and writes the arbiter and the Terminal Port alone. -/
theorem ResultOffered.congr (h : ResultOffered r v u) (arbiter : v.arbiter = s.arbiter) (terminal : v.terminal = s.terminal)
    (arbiter' : t.arbiter = u.arbiter) (terminal' : t.terminal = u.terminal) : ResultOffered r s t := by
  have inFlight : v.entryInFlight = s.entryInFlight := by
    funext x
    rw [State.entryInFlight, arbiter]
    rfl
  unfold ResultOffered at *
  rw [arbiter', terminal', ← arbiter, ← terminal, ← inFlight]
  exact h

/-! ## A result is delivered (R161) -/

theorem State.endLoad_delivered (m : u.mainRuns = true) : Delivered port r u (u.endLoad port r) := by
  cases port with
  | terminal =>
    refine ⟨(State.only_raise _ _).keep .loader (by decide), ?_⟩
    exact (State.raise_events (s := (u.withContext none).withLoader _) .tableResult).trans (if_pos m)
  | air =>
    have only := State.only_offerResult r (u.withContext none)
    exact ⟨only.keep .loader (by decide), only.keep .events (by decide),
      (State.offerResult_offered r (u.withContext none)).congr rfl rfl rfl rfl⟩

theorem Delivered.congr (h : Delivered port r v u) (loader : v.loader = s.loader) (events : v.events = s.events)
    (offers : port = .air → v.arbiter = s.arbiter ∧ v.terminal = s.terminal)
    (loader' : t.loader = u.loader) (events' : t.events = u.events)
    (offers' : port = .air → t.arbiter = u.arbiter ∧ t.terminal = u.terminal) : Delivered port r s t := by
  cases port with
  | terminal =>
    obtain ⟨kept, raised⟩ := h
    exact ⟨loader'.trans kept, (raised.kept events').from_same events⟩
  | air =>
    obtain ⟨ended, quiet, offered⟩ := h
    obtain ⟨arbiter, terminal⟩ := offers rfl
    obtain ⟨arbiter', terminal'⟩ := offers' rfl
    exact ⟨loader ▸ loader'.trans ended, events'.trans (quiet.trans events),
      offered.congr arbiter terminal arbiter' terminal'⟩

/-! ## A command of the port that opened the load -/

/-- The state that a command of a port acts on: the end marker of a frame has closed the receive record. -/
def State.inHand (s : State) (port : LoadPort) : State := if port = .air then s.withRecord none else s

theorem State.only_inHand (s : State) (port : LoadPort) : OnlyChanges [.link] s (s.inHand port) := by
  unfold State.inHand
  split
  · exact .withRecord none (.refl s) (by decide)
  · exact .refl s

/-- How a command of a port ends that has led to `u`, and whose reply, if it is a request, carries `p`. -/
def Carried (i : Instr) (port : LoadPort) (s u : State) (p : List Byte) (t : State) : Prop :=
  match port with
  | .terminal => ∃ k tag body, requestParts i = some (k, tag, body) ∧ t = s.answeredFrom u (BitVec.ofNat 8 k) tag p
  | .air => requestParts i = none ∧ t = s.routedFrom u

theorem FromPort.mainRuns {k : DownKind} {payload : List Byte} {request : Byte → Instr} {frame : AirHeader → Instr}
    (h : FromPort port s k payload request frame i) : s.mainRuns = true := by
  cases port with
  | terminal => exact h.1
  | air =>
    obtain ⟨hdr, -, admitted⟩ := h
    exact State.admits_mainRuns admitted

/-- What the end of a command of a port adds to what it led to. -/
theorem Carried.only (h : Carried i port s u p t) : OnlyChanges [.link, .terminal, .check, .pins] u t := by
  cases port with
  | terminal =>
    obtain ⟨k, tag, body, -, rfl⟩ := h
    exact (s.only_answeredFrom u _ tag p).mono (by decide)
  | air =>
    obtain ⟨-, rfl⟩ := h
    exact (s.only_routedFrom u).mono (by decide)

theorem Carried.keep (h : Carried i port s u p t) (b : Block) (m : b ∉ [.link, .terminal, .check, .pins] := by decide) :
    b.same u t := h.only.keep b m

theorem Carried.repliedOk (h : Carried i port s u p t) (terminal : port = .terminal → u.terminal = s.terminal) :
    RepliedOk i s t p := by
  intro k tag body parts
  cases port with
  | terminal =>
    obtain ⟨k', tag', body', parts', rfl⟩ := h
    obtain ⟨rfl, rfl, rfl⟩ : k = k' ∧ tag = tag' ∧ body = body' := by simpa using parts.symm.trans parts'
    rw [← terminal rfl]
    rfl
  | air =>
    obtain ⟨request, -⟩ := h
    exact nomatch request.symm.trans parts

/-- The retained check is one of the blocks that may differ, or the retained domain stays as it was (R191). -/
def CheckKept (bs : List Block) : Prop := .check ∈ bs ∨ ∀ b ∈ bs, b.retained = false

theorem Carried.byPort (h : Carried i port s u p t) (only : OnlyChanges bs (s.inHand port) u) (closed : CheckKept bs)
    (link : .link ∉ bs) (terminal : port = .terminal → .terminal ∉ bs) : ByPort port bs s t := by
  cases port with
  | terminal =>
    obtain ⟨k, tag, body, -, rfl⟩ := h
    exact (closed.elim (State.answeredFrom_answered only (terminal rfl))
      (State.answeredFrom_main only (terminal rfl))).1
  | air =>
    obtain ⟨-, rfl⟩ := h
    exact closed.elim (State.routedFrom_routed only link) (State.routedFrom_main only link)

/-- A step of the open load that does not end it. -/
theorem Carried.goesOn {x : Option Load} (h : Carried i port s ((s.inHand port).withContext x) p t) :
    ByPort port [.loader] s t ∧ RepliedOk i s t p ∧ t.loader = { s.loader with context := x } := by
  have loader : (s.inHand port).loader = s.loader := (s.only_inHand port).keep .loader (by decide)
  refine ⟨h.byPort (State.only_withContext x _) (.inr (by decide)) (by decide) (fun _ => by decide),
    h.repliedOk fun terminal => ?_, ?_⟩
  · subst terminal
    rfl
  · rw [← loader]
    exact h.keep .loader

theorem Carried.delivered (h : Carried i port s (v.endLoad port r) p t) (m : v.mainRuns = true) : Delivered port r v t := by
  refine (State.endLoad_delivered m).congr rfl rfl (fun _ => ⟨rfl, rfl⟩) (h.keep .loader) (h.keep .events) ?_
  rintro rfl
  obtain ⟨-, rfl⟩ := h
  exact ⟨s.routedFrom_keep _ .arbiter, s.routedFrom_keep _ .terminal⟩

/-- What the end of a load writes for its port (R161). -/
def LoadPort.endBlocks : LoadPort → List Block
  | .terminal => [.loader, .events]
  | .air => [.loader, .arbiter, .terminal]

theorem State.only_endLoad_of (port : LoadPort) (r : LoadResult) (u : State) :
    OnlyChanges port.endBlocks u (u.endLoad port r) := by
  cases port with
  | terminal => exact .raise _ (.withLoader (.withContext _ (.refl u) (by decide)) (by decide)) (by decide)
  | air => exact .offerResult r (.withContext _ (.refl u) (by decide)) (by decide)

/-- A load ends once a table has been applied, or with nothing applied; `bs` are the blocks that the application wrote. -/
theorem Carried.loadEnded (h : Carried i port s (v.endLoad port r) r.bytes t) (m : s.mainRuns = true)
    (only : OnlyChanges bs (s.inHand port) v) (closed : CheckKept bs)
    (apart : ∀ b ∈ [Block.link, .loader, .events, .terminal, .monitor], b ∉ bs) (queue : port = .air → .arbiter ∉ bs) :
    LoadEnded i port bs r s t := by
  have reached : OnlyChanges (.link :: bs) s v := (s.only_inHand port).trans only
  have keeps : ∀ b ∈ [Block.loader, .events, .terminal, .monitor], b ∉ Block.link :: bs := fun b hb hm => by
    have out := apart b (List.mem_cons_of_mem _ hb)
    have link : b ≠ .link := by rintro rfl; simp at hb
    simp [out, link] at hm
  have runs : v.mainRuns = true := (reached.mainRuns_eq (keeps _ (by decide))).trans m
  have terminal : v.terminal = s.terminal := reached.keep .terminal (keeps _ (by decide))
  refine ⟨(h.delivered runs).congr (reached.keep .loader (keeps _ (by decide))) (reached.keep .events (keeps _ (by decide)))
    (fun air => ⟨reached.keep .arbiter (by simp [queue air]), terminal⟩) rfl rfl (fun _ => ⟨rfl, rfl⟩),
    h.repliedOk ?_, ?_⟩
  · rintro rfl
    exact ((State.only_endLoad_of .terminal r v).keep .terminal (by decide)).trans terminal
  have ended : OnlyChanges (bs ++ port.endBlocks) (s.inHand port) (v.endLoad port r) :=
    only.trans (State.only_endLoad_of port r v)
  have endMain : ∀ b ∈ port.endBlocks, b.retained = false := by cases port <;> decide
  have link : Block.link ∉ bs ++ port.endBlocks := by
    rw [List.mem_append, not_or]
    exact ⟨apart _ (by decide), by cases port <;> decide⟩
  have closes : CheckKept (bs ++ port.endBlocks) := closed.imp (List.mem_append_left _) fun main b hb =>
    (List.mem_append.mp hb).elim (main b) (endMain b)
  have byPort := h.byPort ended closes link
  cases port with
  | terminal =>
    refine OnlyChanges.mono (byPort fun _ => ?_) fun b hb => ?_
    · rw [List.mem_append, not_or]
      exact ⟨apart _ (by decide), by decide⟩
    · simp only [LoadPort.endBlocks, List.mem_cons, List.mem_append, List.not_mem_nil, or_false] at hb ⊢
      tauto
  | air => exact byPort nofun

end Sys2Proof.Machine
end

section
/-! PROOFS. TABLE_OPEN, TABLE_SEGMENT, TABLE_ABORT and the inactivity timer (R156 to R159), and the frames of no open
load. -/

namespace Sys2Proof.Machine

variable {s t u : State} {r : LoadResult} {port : LoadPort} {i : Instr} {p : List Byte} {c : Load} {tag : Byte} {svc : Bool}

/-! ## TABLE_OPEN (R156, R157) -/

section
variable {f : OpenFields}

theorem permitted_terminal_iff {table : TableId} :
    permitted .terminal svc table = true ↔ table = .zone ∨ table = .identity ∧ svc = true := by
  cases table <;> simp [permitted]

theorem permitted_air_iff {table : TableId} : permitted .air false table = true ↔ table ≠ .identity := by
  cases table <;> simp [permitted]

theorem Load.repeats_iff : c.repeats f = true ↔ c.Same f := by
  simp [Load.repeats, Load.Same, and_assoc]

theorem State.reopen_same (h : c.Same f) : s.reopen c f = (s.withContext (some { c with timer := 30 }), none) :=
  if_pos (Load.repeats_iff.mpr h)

theorem State.reopen_other (h : ¬ c.Same f) : s.reopen c f
    = ((s.endLoad c.port (c.ends .abortedByNew f.generation)).openLoad c.port f, some (c.ends .abortedByNew f.generation)) :=
  if_neg fun k => h (Load.repeats_iff.mp k)

theorem State.localOpen_denied (h : permitted .terminal svc f.table = false) :
    s.localOpen svc f = s.refused .refusedAuthority := by
  simp [State.localOpen, h]

section
variable (may : permitted .terminal svc f.table = true)
include may

theorem State.localOpen_idle (h : s.loader.context = none) :
    s.localOpen svc f = (s.withContext (some (f.opened .terminal))).answered [] := by
  rw [State.localOpen, may, h]
  rfl

theorem State.localOpen_busy (h : s.loader.context = some c) (air : c.port = .air) :
    s.localOpen svc f = s.refused .refusedBusy := by
  rw [State.localOpen, may, h]
  simp [air]

theorem State.localOpen_same (h : s.loader.context = some c) (own : c.port = .terminal) (same : c.Same f) :
    s.localOpen svc f = (s.withContext (some { c with timer := 30 })).answered [] := by
  rw [State.localOpen, may, h]
  simp [own, State.reopen_same same]

theorem State.localOpen_other (h : s.loader.context = some c) (own : c.port = .terminal) (other : ¬ c.Same f)
    (result : r = c.ends .abortedByNew f.generation) :
    s.localOpen svc f = ((s.endLoad .terminal r).withContext (some (f.opened .terminal))).answered r.bytes := by
  rw [State.localOpen, may, h]
  simp [own, State.reopen_other other, result]
  rfl

end

theorem State.airOpen_denied (h : f.table = .identity) :
    s.airOpen f = s.offerResult (LoadResult.mk f.table f.generation .authority none 0) := by
  rw [State.airOpen, h]
  rfl

section
variable (may : f.table ≠ .identity)
include may

theorem State.airOpen_idle (h : s.loader.context = none) : s.airOpen f = s.withContext (some (f.opened .air)) := by
  rw [State.airOpen, permitted_air_iff.mpr may, h]
  rfl

theorem State.airOpen_busy (h : s.loader.context = some c) (own : c.port = .terminal) :
    s.airOpen f = s.offerResult (LoadResult.mk f.table f.generation .busy none 0) := by
  rw [State.airOpen, permitted_air_iff.mpr may, h]
  simp [own]

theorem State.airOpen_same (h : s.loader.context = some c) (air : c.port = .air) (same : c.Same f) :
    s.airOpen f = s.withContext (some { c with timer := 30 }) := by
  rw [State.airOpen, permitted_air_iff.mpr may, h]
  simp [air, State.reopen_same same]

theorem State.airOpen_other (h : s.loader.context = some c) (air : c.port = .air) (other : ¬ c.Same f) :
    s.airOpen f = (s.endLoad .air (c.ends .abortedByNew f.generation)).withContext (some (f.opened .air)) := by
  rw [State.airOpen, permitted_air_iff.mpr may, h]
  simp [air, State.reopen_other other]
  rfl

end

end

theorem localFields_error {α : Type} {x : Except Nat α} (h : ∃ pos, x = .error pos) : localFields x = none := by
  obtain ⟨pos, rfl⟩ := h
  rfl

theorem localFields_ok {α : Type} {x : Except Nat α} {f : α} (h : x = .ok f) : localFields x = some f := by
  rw [h]
  rfl

/-- A frame whose result is offered and whose load, if it opens one, is the context of `x`. -/
theorem State.routedFrom_offered {x : State} (h : ResultOffered r (s.withRecord none) x) (arbiter : u.arbiter = x.arbiter)
    (terminal : u.terminal = x.terminal) : ResultOffered r s (s.routedFrom u) :=
  h.congr rfl rfl ((s.routedFrom_keep u .arbiter).trans arbiter) ((s.routedFrom_keep u .terminal).trans terminal)

/-- A frame that is refused with a result. -/
theorem State.routedFrom_refusal (r : LoadResult) :
    Routed [.arbiter, .terminal] s (s.routedFrom ((s.withRecord none).offerResult r))
      ∧ ResultOffered r s (s.routedFrom ((s.withRecord none).offerResult r)) :=
  ⟨State.routedFrom_main (State.only_offerResult r _) (by decide) (by decide),
    State.routedFrom_offered (State.offerResult_offered r _) rfl rfl⟩

/-- A frame that changes the load context alone. -/
theorem State.routedFrom_context (x : Option Load) :
    Routed [.loader] s (s.routedFrom ((s.withRecord none).withContext x))
      ∧ (s.routedFrom ((s.withRecord none).withContext x)).loader = { s.loader with context := x } :=
  ⟨State.routedFrom_main (State.only_withContext x _) (by decide) (by decide), s.routedFrom_keep _ .loader⟩

theorem localTableOpen_opens (m : s.mainRuns = true) : ∃ t, exec (.localTableOpen svc tag p) s = .next t
    ∧ ((∃ pos, parseOpen p = .error pos) → OnlyReplied s t { kind := 0x9B#8, tag, code := .refusedRange, payload := [] })
    ∧ ∀ f, parseOpen p = .ok f →
        (∀ code, s.localOpen svc f = s.refused code → OnlyReplied s t { kind := 0x9B#8, tag, code, payload := [] })
        ∧ ∀ v q, s.localOpen svc f = State.answered q v → t = s.answeredFrom v 0x9B#8 tag q := by
  obtain ⟨t, ok, unfit, fit⟩ := serve_ends (kind := 0x9B#8) (tag := tag) (owner := State.localOpen svc)
    (args := localFields (parseOpen p)) m
  exact ⟨t, ok, fun h => unfit (localFields_error h), fun f h => fit f (localFields_ok h)⟩

/-- Settles O45: an open that lacks authority, finds the context idle, taken by the other port, open for the same load or
for another. -/
theorem loadsOpen : Obligations.LoadsOpen := by
  refine ⟨fun s svc tag payload m => ?terminal, fun s hdr payload f h parsed => ?air⟩
  case terminal =>
    obtain ⟨t, ok, unfit, fit⟩ := localTableOpen_opens (svc := svc) (tag := tag) (p := payload) m
    refine ⟨t, ok, unfit, fun f parsed => ?_⟩
    obtain ⟨refused, answered⟩ := fit f parsed
    refine ⟨fun table => refused _ (State.localOpen_denied ?_), fun table => ?_⟩
    · rw [← Bool.not_eq_true, permitted_terminal_iff]
      rcases table with h | h | h | ⟨h, low⟩ <;> simp [*]
    have may : permitted .terminal svc f.table = true := permitted_terminal_iff.mpr table
    refine ⟨fun idle => ?_, fun c held => ⟨fun air => refused _ (State.localOpen_busy may held air),
      fun own same => ?_, fun own other r result => ?_⟩⟩
    · rw [answered _ _ (State.localOpen_idle may idle)]
      exact ⟨State.answeredFrom_main (State.only_withContext _ s) (by decide) (by decide), rfl⟩
    · rw [answered _ _ (State.localOpen_same may held own same)]
      exact ⟨State.answeredFrom_main (State.only_withContext _ s) (by decide) (by decide), rfl⟩
    · rw [answered _ _ (State.localOpen_other may held own other result)]
      have only := State.only_endLoad_of .terminal r s
      obtain ⟨loader, raised⟩ := State.endLoad_delivered (port := .terminal) (r := r) m
      generalize s.endLoad .terminal r = v at *
      refine ⟨State.answeredFrom_main (.withContext _ only (by decide)) (by decide) (by decide), ?_, raised⟩
      exact congrArg (fun l : Loader => { l with context := some (f.opened .terminal) }) loader
  case air =>
    have runs : s.mainRuns = true := State.admits_mainRuns h
    refine ⟨_, done_handed State.airOpen h parsed, fun table => ?_, fun may => ⟨fun idle => ?_, fun c held =>
      ⟨fun own => ?_, fun air same => ?_, fun air other => ?_⟩⟩⟩
    · rw [State.airOpen_denied table]
      exact State.routedFrom_refusal _
    · rw [State.airOpen_idle (s := s.withRecord none) may idle]
      exact State.routedFrom_context _
    · rw [State.airOpen_busy (s := s.withRecord none) may held own]
      exact State.routedFrom_refusal _
    · rw [State.airOpen_same (s := s.withRecord none) may held air same]
      exact State.routedFrom_context _
    · rw [State.airOpen_other (s := s.withRecord none) may held air other]
      have only := State.only_endLoad_of .air (c.ends .abortedByNew f.generation) (s.withRecord none)
      obtain ⟨loader, -, offered⟩ := State.endLoad_delivered (port := .air) (u := s.withRecord none)
        (r := c.ends .abortedByNew f.generation) runs
      generalize (s.withRecord none).endLoad .air _ = v at *
      refine ⟨State.routedFrom_main (.withContext _ only (by decide)) (by decide) (by decide),
        (s.routedFrom_keep _ .loader).trans ?_, State.routedFrom_offered offered rfl rfl⟩
      exact congrArg (fun l : Loader => { l with context := some (f.opened .air) }) loader

/-! ## A command that belongs to the open load -/

theorem State.belongs_own {table : TableId} {generation : Nat} (h : s.loader.context = some c) (ht : c.table = table)
    (hg : c.generation = generation) (own : c.port = port) : s.belongs port table generation = some c := by
  rw [State.belongs, h]
  exact Option.filter_eq_some_iff.mpr ⟨rfl, by simp [ht, hg, own]⟩

theorem State.belongs_none {table : TableId} {generation : Nat}
    (h : ∀ c, s.loader.context = some c → c.port ≠ port ∨ c.table ≠ table ∨ c.generation ≠ generation) :
    s.belongs port table generation = none := by
  refine Option.filter_eq_none_iff.mpr fun c held => ?_
  rcases h c held with k | k | k <;> simp [k]

/-- A local request of the open load, its owner's step being `step`, is answered OK with what the step gives. -/
theorem serve_carried {α : Type} {k : Nat} {x : Except Nat α} {f : α} {owner : α → State → State × Answer}
    {step : State → State × List Byte} (parts : requestParts i = some (k, tag, p))
    (runs : exec i s = serve (BitVec.ofNat 8 k) tag (localFields x) owner s) (m : s.mainRuns = true) (parsed : x = .ok f)
    (takes : owner f s = carried (step s)) :
    ∃ t, exec i s = .next t ∧ Carried i .terminal s (step (s.inHand .terminal)).1 (step (s.inHand .terminal)).2 t := by
  refine ⟨_, ?_, k, tag, p, parts, rfl⟩
  rw [runs, localFields_ok parsed]
  exact serve_ok m takes

/-- A frame of the open load takes its step with the receive record closed. -/
theorem receive_carried {α : Type} {k : DownKind} {hdr : AirHeader} {x : Except Nat α} {f : α} {owner : α → State → State}
    {step : State → State × List Byte} (frame : requestParts i = none)
    (runs : exec i s = done s (s.receive k hdr p (handed x owner))) (h : s.admits k hdr p = true) (parsed : x = .ok f)
    (takes : owner f (s.withRecord none) = (step (s.withRecord none)).1) :
    ∃ t, exec i s = .next t ∧ Carried i .air s (step (s.inHand .air)).1 (step (s.inHand .air)).2 t := by
  refine ⟨_, ?_, frame, rfl⟩
  rw [runs, done_handed owner h parsed, takes]
  rfl

/-- A commit of the open load, which its own port has brought. -/
def CommitCarried (i : Instr) (c : Load) (check : Nat) (svc : Bool) (s t : State) : Prop :=
  Carried i c.port s ((s.inHand c.port).commitLoad c check svc).1 ((s.inHand c.port).commitLoad c check svc).2 t

section
variable (held : s.loader.context = some c)
include held

theorem tableSegment_carried {f : SegmentFields} (ht : c.table = f.table) (hg : c.generation = f.generation)
    (parsed : parseSegment p = .ok f)
    (brought : FromPort c.port s .tableSegment p (.localTableSegment · p) (.airTableSegment · p) i) :
    ∃ t, exec i s = .next t
      ∧ Carried i c.port s ((s.inHand c.port).takeSegment c f).1 ((s.inHand c.port).takeSegment c f).2 t := by
  cases own : c.port with
  | terminal =>
    obtain ⟨m, tag, rfl⟩ := own ▸ brought
    refine serve_carried (step := fun u => u.takeSegment c f) rfl rfl m parsed ?_
    rw [State.localSegment, State.belongs_own held ht hg own]
  | air =>
    obtain ⟨hdr, rfl, h⟩ := own ▸ brought
    refine receive_carried (step := fun u => u.takeSegment c f) rfl rfl h parsed ?_
    rw [State.airSegment, State.belongs_own (s := s.withRecord none) held ht hg own]

theorem tableAbort_carried {f : AbortFields} (ht : c.table = f.table) (hg : c.generation = f.generation)
    (parsed : parseAbort p = .ok f)
    (brought : FromPort c.port s .tableAbort p (.localTableAbort · p) (.airTableAbort · p) i) :
    ∃ t, exec i s = .next t ∧ Carried i c.port s ((s.inHand c.port).abortLoad c).1 ((s.inHand c.port).abortLoad c).2 t := by
  cases own : c.port with
  | terminal =>
    obtain ⟨m, tag, rfl⟩ := own ▸ brought
    refine serve_carried (step := fun u => u.abortLoad c) rfl rfl m parsed ?_
    rw [State.localAbort, State.belongs_own held ht hg own]
  | air =>
    obtain ⟨hdr, rfl, h⟩ := own ▸ brought
    refine receive_carried (step := fun u => u.abortLoad c) rfl rfl h parsed ?_
    rw [State.airAbort, State.belongs_own (s := s.withRecord none) held ht hg own]

theorem tableCommit_carried {f : CommitFields} (ht : c.table = f.table) (hg : c.generation = f.generation)
    (parsed : parseCommit p = .ok f) (low : c.port = .air → svc = false)
    (brought : FromPort c.port s .tableCommit p (.localTableCommit svc · p) (.airTableCommit · p) i) :
    ∃ t, exec i s = .next t ∧ CommitCarried i c f.check svc s t := by
  unfold CommitCarried
  cases own : c.port with
  | terminal =>
    obtain ⟨m, tag, rfl⟩ := own ▸ brought
    refine serve_carried (step := fun u => u.commitLoad c f.check svc) rfl rfl m parsed ?_
    rw [State.localCommit, State.belongs_own held ht hg own]
  | air =>
    obtain ⟨hdr, rfl, h⟩ := own ▸ brought
    obtain rfl := low own
    refine receive_carried (step := fun u => u.commitLoad c f.check false) rfl rfl h parsed ?_
    rw [State.airCommit, State.belongs_own (s := s.withRecord none) held ht hg own]

end

/-- A load that ends with nothing applied. -/
theorem Carried.endedUnapplied (h : Carried i port s ((s.inHand port).endLoad port r) r.bytes t) (m : s.mainRuns = true) :
    LoadEnded i port [] r s t :=
  h.loadEnded m (.refl _) (.inr (by decide)) (by decide) (fun _ => by decide)

/-! ## TABLE_SEGMENT (R158) -/

section
variable {f : SegmentFields}

theorem State.takeSegment_gap (h : c.buffer.length < f.offset) : s.takeSegment c f
    = (s.endLoad c.port (c.ends .gap c.buffer.length), (c.ends .gap c.buffer.length).bytes) := if_pos h

theorem State.takeSegment_repeat (h : f.offset < c.buffer.length) : s.takeSegment c f
    = (s.withContext (some { c with timer := 30 }), u16 c.buffer.length) :=
  (if_neg (Nat.not_lt_of_lt h)).trans (if_pos h)

theorem State.takeSegment_overlength (h : f.offset = c.buffer.length) (long : c.length < f.offset + f.data.length) :
    s.takeSegment c f
      = (s.endLoad c.port (c.ends .overlength c.buffer.length), (c.ends .overlength c.buffer.length).bytes) :=
  (if_neg (by omega)).trans ((if_neg (by omega)).trans (if_pos long))

theorem State.takeSegment_joins (h : f.offset = c.buffer.length) (fits : f.offset + f.data.length ≤ c.length) :
    s.takeSegment c f = (s.withContext (some { c with timer := 30, buffer := c.buffer ++ f.data }),
      u16 (c.buffer.length + f.data.length)) :=
  (if_neg (by omega)).trans ((if_neg (by omega)).trans (if_neg (by omega)))

end

/-! ## The inactivity timer (R159) -/

theorem State.expireLoad_due (h : s.loader.context = some c) (due : c.timer = 0) :
    s.expireLoad = s.endLoad c.port (c.ends .timeout c.buffer.length) := by
  rw [State.expireLoad, h]
  exact if_pos due

theorem State.expireLoad_notDue (h : s.loader.context = some c) (runs : c.timer ≠ 0) : s.expireLoad = s := by
  rw [State.expireLoad, h]
  exact if_neg runs

/-- The result of a load that its timer ends, and the blocks that it writes. -/
theorem endLoad_ended (m : s.mainRuns = true) : Delivered port r s (s.updateCheck (s.endLoad port r)).drive
    ∧ match port with
      | .terminal => OnlyChanges [.loader, .events, .pins] s (s.updateCheck (s.endLoad port r)).drive
      | .air => OnlyChanges [.loader, .arbiter, .terminal, .pins] s (s.updateCheck (s.endLoad port r)).drive := by
  refine ⟨(State.endLoad_delivered m).congr rfl rfl (fun _ => ⟨rfl, rfl⟩) rfl rfl (fun _ => ⟨rfl, rfl⟩), ?_⟩
  have only := State.only_endLoad_of port r s
  cases port with
  | terminal => exact (only.mono (by decide)).endedMain (by decide) (by decide)
  | air => exact (only.mono (by decide)).endedMain (by decide) (by decide)

section
variable (held : s.loader.context = some c)
include held

theorem tableSegment_fed {f : SegmentFields} (ht : c.table = f.table) (hg : c.generation = f.generation)
    (parsed : parseSegment p = .ok f)
    (brought : FromPort c.port s .tableSegment p (.localTableSegment · p) (.airTableSegment · p) i) :
    ∃ t, exec i s = .next t
      ∧ (c.buffer.length < f.offset → LoadEnded i c.port [] (c.ends .gap c.buffer.length) s t)
      ∧ (f.offset < c.buffer.length →
          ByPort c.port [.loader] s t ∧ RepliedOk i s t (u16 c.buffer.length)
          ∧ t.loader = { s.loader with context := some { c with timer := 30 } })
      ∧ (f.offset = c.buffer.length → c.length < f.offset + f.data.length →
          LoadEnded i c.port [] (c.ends .overlength c.buffer.length) s t)
      ∧ (f.offset = c.buffer.length → f.offset + f.data.length ≤ c.length →
          ByPort c.port [.loader] s t ∧ RepliedOk i s t (u16 (c.buffer.length + f.data.length))
          ∧ t.loader = { s.loader with context := some { c with timer := 30, buffer := c.buffer ++ f.data } }) := by
  obtain ⟨t, ok, carries⟩ := tableSegment_carried held ht hg parsed brought
  refine ⟨t, ok, fun gap => ?_, fun before => ?_, fun joins long => ?_, fun joins fits => ?_⟩
  · rw [State.takeSegment_gap gap] at carries
    exact carries.endedUnapplied brought.mainRuns
  · rw [State.takeSegment_repeat before] at carries
    exact carries.goesOn
  · rw [State.takeSegment_overlength joins long] at carries
    exact carries.endedUnapplied brought.mainRuns
  · rw [State.takeSegment_joins joins fits] at carries
    exact carries.goesOn

theorem tableAbort_ends {f : AbortFields} (ht : c.table = f.table) (hg : c.generation = f.generation)
    (parsed : parseAbort p = .ok f)
    (brought : FromPort c.port s .tableAbort p (.localTableAbort · p) (.airTableAbort · p) i) :
    ∃ t, exec i s = .next t ∧ LoadEnded i c.port [] (c.ends .aborted 0) s t := by
  obtain ⟨t, ok, carries⟩ := tableAbort_carried held ht hg parsed brought
  exact ⟨t, ok, Carried.endedUnapplied carries brought.mainRuns⟩

theorem inactivityTimerExpiry_due (m : s.mainRuns = true) (due : c.timer = 0) :
    exec .inactivityTimerExpiry s = done s (s.endLoad c.port (c.ends .timeout c.buffer.length)) := by
  rw [← State.expireLoad_due held due]
  exact congrArg (done s) (State.whenMain_running State.expireLoad m)

theorem inactivityTimerExpiry_notDue (runs : c.timer ≠ 0) :
    ∃ t, exec .inactivityTimerExpiry s = .next t ∧ OnlyChanges [.pins] s t :=
  done_whenMain_same (State.expireLoad_notDue held runs)

end

/-- Settles O46: the four offsets of a segment, an abort, and the timer due or not. -/
theorem openLoadFed : Obligations.OpenLoadFed := by
  refine ⟨fun s c f i payload held ht hg => tableSegment_fed held ht hg,
    fun s c held => ⟨fun f i payload ht hg => tableAbort_ends held ht hg, fun m => ?timer⟩⟩
  case timer =>
    by_cases due : c.timer = 0
    · exact ⟨_, inactivityTimerExpiry_due held m due, fun runs => absurd due runs, fun _ => endLoad_ended m⟩
    · obtain ⟨t, ok, only⟩ := inactivityTimerExpiry_notDue held due
      exact ⟨t, ok, fun _ => only, fun k => absurd k due⟩

/-! ## Commands of no open load (R158 to R160) -/

section
variable {table : TableId} {generation : Nat}

theorem State.strayLoad_busy (h : s.loader.context = some c) (air : c.port = .air) :
    s.strayLoad = s.refused .refusedBusy := by
  rw [State.strayLoad, h]
  exact if_pos (decide_eq_true air)

theorem State.strayLoad_state (h : ∀ c, s.loader.context = some c → c.port = .terminal) :
    s.strayLoad = s.refused .refusedState := by
  refine if_neg fun k => ?_
  obtain ⟨c, held, air⟩ := (Option.any_eq_true ..).mp k
  exact nomatch (h c held).symm.trans (of_decide_eq_true air)

/-- A request of the terminal whose load is not open, its owner being one that then answers `State.strayLoad`. -/
theorem serve_stray {α : Type} {kind : Byte} {x : Except Nat α} {f : α} {owner : α → State → State × Answer}
    (m : s.mainRuns = true) (parsed : x = .ok f)
    (strays : s.belongs .terminal table generation = none → owner f s = s.strayLoad) :
    ((∃ c, s.loader.context = some c ∧ c.port = .air) →
        ∃ t, serve kind tag (localFields x) owner s = .next t
          ∧ OnlyReplied s t { kind, tag, code := .refusedBusy, payload := [] })
      ∧ ((∀ c, s.loader.context = some c → c.port = .terminal ∧ (c.table ≠ table ∨ c.generation ≠ generation)) →
        ∃ t, serve kind tag (localFields x) owner s = .next t
          ∧ OnlyReplied s t { kind, tag, code := .refusedState, payload := [] }) := by
  rw [localFields_ok parsed]
  constructor
  · rintro ⟨c, held, air⟩
    have none : s.belongs .terminal table generation = none := State.belongs_none fun d held' => by
      obtain rfl : c = d := by simpa using held.symm.trans held'
      exact .inl (by simp [air])
    exact serve_refused m ((strays none).trans (State.strayLoad_busy held air))
  · intro h
    have none : s.belongs .terminal table generation = none := State.belongs_none fun c held => .inr (h c held).2
    exact serve_refused m ((strays none).trans (State.strayLoad_state fun c held => (h c held).1))

/-- A frame whose load is not open is ignored. -/
theorem receive_stray {α : Type} {k : DownKind} {hdr : AirHeader} {x : Except Nat α} {f : α} {owner : α → State → State}
    (h : s.admits k hdr p = true) (parsed : x = .ok f) (ignored : owner f (s.withRecord none) = s.withRecord none) :
    ∃ t, done s (s.receive k hdr p (handed x owner)) = .next t ∧ Routed [] s t := by
  rw [done_handed owner h parsed, ignored]
  exact ⟨_, rfl, s.routedFrom_idle⟩

end

theorem FromPort.ofAir {k : DownKind} {payload : List Byte} {request : Byte → Instr} {frame : AirHeader → Instr}
    {hdr : AirHeader} (air : port = .air) (h : s.admits k hdr payload = true) : FromPort port s k payload request frame (frame hdr) := by
  subst air
  exact ⟨hdr, rfl, h⟩

theorem Delivered.offered (h : Delivered port r s t) (air : port = .air) : ResultOffered r s t := by
  subst air
  obtain ⟨-, -, offered⟩ := h
  exact offered

theorem LoadEnded.offered {bs : List Block} (h : LoadEnded i port bs r s t) : port = .air → ResultOffered r s t :=
  h.1.offered

theorem State.commitLoad_short {check : Nat} (h : c.buffer.length < c.length) : s.commitLoad c check svc
    = (s.endLoad c.port (c.ends .short c.buffer.length), (c.ends .short c.buffer.length).bytes) := if_pos h

theorem CommitCarried.short {check : Nat} (h : CommitCarried i c check svc s t) (m : s.mainRuns = true)
    (less : c.buffer.length < c.length) : LoadEnded i c.port [] (c.ends .short c.buffer.length) s t := by
  rw [CommitCarried, State.commitLoad_short less] at h
  exact h.endedUnapplied m

/-- Settles O48: a request or frame of no open load, and the causes of a result that finds no shared place. -/
theorem strayFramesAndDisplacement : Obligations.StrayFramesAndDisplacement := by
  refine ⟨fun s table generation => ⟨fun tag payload i k m kind => ?stray, fun hdr payload i other kind => ?ignored⟩,
    fun s i r as e bs cause full => ?displaced⟩
  case stray =>
    rcases kind with ⟨f, parsed, rfl, rfl, rfl, rfl⟩ | ⟨f, svc, parsed, rfl, rfl, rfl, rfl⟩ | ⟨f, parsed, rfl, rfl, rfl, rfl⟩
    · exact serve_stray m parsed fun none => by rw [State.localSegment, none]
    · exact serve_stray m parsed fun none => by rw [State.localCommit, none]
    · exact serve_stray m parsed fun none => by rw [State.localAbort, none]
  case ignored =>
    have strays : (s.withRecord none).belongs .air table generation = none := State.belongs_none fun c held =>
      (other c held).imp_left fun own air => LoadPort.noConfusion (own.symm.trans air)
    rcases kind with ⟨f, parsed, rfl, rfl, rfl, h⟩ | ⟨f, parsed, rfl, rfl, rfl, h⟩ | ⟨f, parsed, rfl, rfl, rfl, h⟩
    · exact receive_stray h parsed (by rw [State.airSegment, strays])
    · exact receive_stray h parsed (by rw [State.airCommit, strays])
    · exact receive_stray h parsed (by rw [State.airAbort, strays])
  case displaced =>
    obtain ⟨t, ok, offered⟩ : ∃ t, exec i s = .next t ∧ ResultOffered r s t := by
      rcases cause with ⟨c, hdr, payload, f, rfl, h, parsed, held, air, ht, hg, rfl⟩
        | ⟨c, hdr, payload, f, rfl, h, parsed, held, air, ht, hg, gap, rfl⟩
        | ⟨c, hdr, payload, f, rfl, h, parsed, held, air, ht, hg, joins, long, rfl⟩
        | ⟨c, hdr, payload, f, rfl, h, parsed, held, air, ht, hg, short, rfl⟩
        | ⟨c, rfl, m, held, air, due, rfl⟩
        | ⟨hdr, payload, f, rfl, h, parsed, ⟨table, rfl⟩ | ⟨may, c, held, ⟨own, rfl⟩ | ⟨air, other, rfl⟩⟩⟩
      · obtain ⟨t, ok, ended⟩ := tableAbort_ends held ht hg parsed (.ofAir air h)
        exact ⟨t, ok, ended.offered air⟩
      · obtain ⟨t, ok, ended, -⟩ := tableSegment_fed held ht hg parsed (.ofAir air h)
        exact ⟨t, ok, (ended gap).offered air⟩
      · obtain ⟨t, ok, -, -, ended, -⟩ := tableSegment_fed held ht hg parsed (.ofAir air h)
        exact ⟨t, ok, (ended joins long).offered air⟩
      · obtain ⟨t, ok, carries⟩ := tableCommit_carried held ht hg parsed (fun _ => rfl) (.ofAir air h)
        exact ⟨t, ok, (carries.short (State.admits_mainRuns h) short).offered air⟩
      · exact ⟨_, inactivityTimerExpiry_due held m due, (endLoad_ended m).1.offered air⟩
      · obtain ⟨t, ok, refused, -⟩ := loadsOpen.2 s hdr payload f h parsed
        exact ⟨t, ok, (refused table).2⟩
      · obtain ⟨t, ok, -, takes⟩ := loadsOpen.2 s hdr payload f h parsed
        obtain ⟨-, finds⟩ := takes may
        obtain ⟨busy, -, -⟩ := finds c held
        exact ⟨t, ok, (busy own).2⟩
      · obtain ⟨t, ok, -, takes⟩ := loadsOpen.2 s hdr payload f h parsed
        obtain ⟨-, finds⟩ := takes may
        obtain ⟨-, -, replaces⟩ := finds c held
        obtain ⟨-, -, offered⟩ := replaces air other
        exact ⟨t, ok, offered⟩
    obtain ⟨lost, displaces⟩ := offered.2 full
    exact ⟨t, ok, lost, displaces as e bs⟩

end Sys2Proof.Machine
end

section
/-! PROOFS. The fields of a table image (R192, R198), and the images of settings and identity (R166, R168). -/

namespace Sys2Proof.Machine

variable {b img bs cs : List Byte} {i j m n d : Nat}

/-! ## Fields of an image -/

theorem byteAt_lt (bs : List Byte) (i : Nat) : byteAt bs i < 256 := (bs.getD i 0).isLt

theorem slice_length (h : i + n ≤ bs.length) : (slice bs i n).length = n := by
  simp only [slice, List.length_take, List.length_drop]
  omega

theorem slice_drop (bs : List Byte) (k i n : Nat) : slice (bs.drop k) i n = slice bs (k + i) n := by
  simp [slice, List.drop_drop]

theorem slice_zero (bs : List Byte) (n : Nat) : slice bs 0 n = bs.take n := rfl

theorem byteAt_drop (bs : List Byte) (k i : Nat) : byteAt (bs.drop k) i = byteAt bs (k + i) := by
  simp [byteAt, List.getD_eq_getElem?_getD]

theorem byteAt_take (h : i < n) : byteAt (bs.take n) i = byteAt bs i := by
  simp [byteAt, List.getD_eq_getElem?_getD, h]

theorem byteAt_slice (h : j < n) : byteAt (slice bs i n) j = byteAt bs (i + j) := by
  rw [slice, byteAt_take h, byteAt_drop]

/-- Fields that follow one another. -/
theorem slice_append (bs : List Byte) (i m n : Nat) : slice bs i m ++ slice bs (i + m) n = slice bs i (m + n) := by
  simp only [slice, ← List.drop_drop]
  exact List.take_add.symm

theorem slice_zero_append (bs : List Byte) (m n : Nat) : slice bs 0 m ++ slice bs m n = slice bs 0 (m + n) := by
  simpa using slice_append bs 0 m n

theorem slice_all (h : bs.length = n) : slice bs 0 n = bs := List.take_of_length_le h.le

theorem u8_byteAt (h : i < bs.length) : u8 (byteAt bs i) = slice bs i 1 := by
  have one : bs.drop i = bs[i] :: bs.drop (i + 1) := List.drop_eq_getElem_cons h
  rw [slice, one, List.take_succ_cons, List.take_zero]
  simp [u8, byteAt, List.getD_eq_getElem?_getD, h]

theorem u16_slice (h : i + 2 ≤ bs.length) : u16 (beNat (slice bs i 2)) = slice bs i 2 := u16_beNat (slice_length h)

theorem u24_slice (h : i + 3 ≤ bs.length) : u24 (beNat (slice bs i 3)) = slice bs i 3 := u24_beNat (slice_length h)

theorem beNat_word_lt (h : bs.length ≤ 2) : beNat bs ≤ 65535 := by
  match bs, h with
  | [], _ => simp [beNat]
  | [a], _ => simp only [beNat, List.foldl]; omega
  | [a, c], _ => simp only [beNat, List.foldl]; omega

theorem beNat_u16 (h : n ≤ 65535) : beNat (u16 n) = n := by
  simp only [u16, beNat, List.foldl, BitVec.toNat_ofNat]
  omega

theorem u16_length (n : Nat) : (u16 n).length = 2 := rfl

/-- A byte of 0 or 1 is the flag it gives. -/
theorem flag_byteAt (h : i < bs.length) (le : byteAt bs i ≤ 1) : flag (byteAt bs i = 1) = slice bs i 1 := by
  rw [← u8_byteAt h]
  have bit : byteAt bs i = 0 ∨ byteAt bs i = 1 := by omega
  rcases bit with bit | bit <;> rw [bit] <;> rfl

/-! ## Settings (R166) -/

section
variable {r : Nat × Nat} {ranges : List (Nat × Nat)} {pos : Nat} {a : Byte}

theorem SettingIn_head : SettingIn (r :: ranges) (a :: bs) 1 ↔ r.1 ≤ a.toNat ∧ a.toNat ≤ r.2 := by
  simp [SettingIn, byteAt]

theorem SettingIn_tail : SettingIn (r :: ranges) (a :: bs) (n + 1 + 1) ↔ SettingIn ranges bs (n + 1) := by
  simp [SettingIn, byteAt]

/-- The first setting out of its range is the one that is named. -/
theorem settingFault_eq_some (h : ranges.length = bs.length) : settingFault pos ranges bs = some d ↔
    ∃ n < bs.length, d = pos + n ∧ ¬ SettingIn ranges bs (n + 1) ∧ ∀ j < n, SettingIn ranges bs (j + 1) := by
  induction ranges generalizing pos bs with
  | nil =>
    obtain rfl := List.length_eq_zero_iff.mp h.symm
    simp [settingFault]
  | cons r ranges ih =>
    obtain ⟨a, bs, rfl⟩ := List.exists_cons_of_length_eq_add_one h.symm
    rw [settingFault]
    split
    · next good =>
      rw [ih (Nat.succ.inj h)]
      constructor
      · rintro ⟨n, lt, rfl, bad, before⟩
        refine ⟨n + 1, Nat.succ_lt_succ lt, by omega, SettingIn_tail.not.mpr bad, fun j hj => ?_⟩
        cases j with
        | zero => exact SettingIn_head.mpr good
        | succ j => exact SettingIn_tail.mpr (before j (by omega))
      · rintro ⟨n, lt, rfl, bad, before⟩
        cases n with
        | zero => exact absurd (SettingIn_head.mpr good) bad
        | succ n =>
          exact ⟨n, Nat.lt_of_succ_lt_succ lt, by omega, SettingIn_tail.not.mp bad,
            fun j hj => SettingIn_tail.mp (before (j + 1) (by omega))⟩
    · next bad =>
      constructor
      · intro named
        obtain rfl := Option.some.inj named
        exact ⟨0, Nat.succ_pos _, rfl, SettingIn_head.not.mpr bad, nofun⟩
      · rintro ⟨n, lt, rfl, -, before⟩
        cases n with
        | zero => rfl
        | succ n => exact absurd (SettingIn_head.mp (before 0 (Nat.succ_pos n))) bad

theorem settingFault_eq_none (h : ranges.length = bs.length) :
    settingFault pos ranges bs = none ↔ ∀ n < bs.length, SettingIn ranges bs (n + 1) := by
  rw [Option.eq_none_iff_forall_ne_some]
  constructor
  · intro none n
    induction n using Nat.strongRecOn with
    | _ n ih =>
      intro lt
      by_contra bad
      exact none _ ((settingFault_eq_some h).mpr ⟨n, lt, rfl, bad, fun j hj => ih j hj (by omega)⟩)
  · intro good d named
    obtain ⟨n, lt, -, bad, -⟩ := (settingFault_eq_some h).mp named
    exact bad (good n lt)

end

theorem settingsImage_whole (h : img.length = 12) :
    settingsImage img = (settingFault 1 settingRanges img).elim (.ok (settingsOf img)) .error := by
  rw [settingsImage, if_neg (not_not.mpr h)]
  cases settingFault 1 settingRanges img <;> rfl

theorem settingsImage_error : settingsImage img = .error d ↔
    img.length ≠ 12 ∧ d = 0
      ∨ img.length = 12 ∧ 1 ≤ d ∧ d ≤ 12 ∧ ¬ SettingIn settingRanges img d
        ∧ ∀ j, 1 ≤ j → j < d → SettingIn settingRanges img j := by
  by_cases len : img.length = 12
  · have named : settingsImage img = .error d ↔ settingFault 1 settingRanges img = some d := by
      rw [settingsImage_whole len]
      cases settingFault 1 settingRanges img <;> simp
    rw [named, settingFault_eq_some (by rw [len]; rfl), len]
    constructor
    · rintro ⟨n, lt, rfl, bad, before⟩
      rw [Nat.add_comm 1 n]
      refine .inr ⟨rfl, by omega, by omega, bad, fun j pos hj => ?_⟩
      obtain ⟨j, rfl⟩ := Nat.exists_eq_add_of_le' pos
      exact before j (by omega)
    · rintro (⟨short, -⟩ | ⟨-, pos, le, bad, before⟩)
      · exact absurd rfl short
      · obtain ⟨n, rfl⟩ := Nat.exists_eq_add_of_le' pos
        exact ⟨n, by omega, by omega, bad, fun j hj => before (j + 1) (by omega) (by omega)⟩
  · rw [settingsImage, if_pos len]
    simp [len, eq_comm]

theorem settingsImage_ok {x : Settings} (h : settingsImage img = .ok x) :
    img.length = 12 ∧ x = settingsOf img ∧ ∀ n < 12, SettingIn settingRanges img (n + 1) := by
  by_cases len : img.length = 12
  · rw [settingsImage_whole len] at h
    cases fault : settingFault 1 settingRanges img with
    | some pos =>
      rw [fault] at h
      cases h
    | none =>
      rw [fault] at h
      cases h
      have good := (settingFault_eq_none (by rw [len]; rfl)).mp fault
      rw [len] at good
      exact ⟨len, rfl, good⟩
  · rw [settingsImage, if_pos len] at h
    cases h

/-- The twelve ranges, one by one. -/
theorem settings_in_range (h : ∀ n < 12, SettingIn settingRanges img (n + 1)) :
    byteAt img 0 ≤ 2 ∧ (5 ≤ byteAt img 1 ∧ byteAt img 1 ≤ 60) ∧ (5 ≤ byteAt img 2 ∧ byteAt img 2 ≤ 60)
      ∧ (10 ≤ byteAt img 3 ∧ byteAt img 3 ≤ 120) ∧ (5 ≤ byteAt img 4 ∧ byteAt img 4 ≤ 30)
      ∧ (2 ≤ byteAt img 5 ∧ byteAt img 5 ≤ 30) ∧ (10 ≤ byteAt img 6 ∧ byteAt img 6 ≤ 120) ∧ byteAt img 7 ≤ 1
      ∧ byteAt img 8 ≤ 1 ∧ (5 ≤ byteAt img 9 ∧ byteAt img 9 ≤ 60) ∧ byteAt img 10 ≤ 1 ∧ byteAt img 11 ≤ 1 := by
  have range : ∀ n < 12, ∀ r, settingRanges[n]? = some r → r.1 ≤ byteAt img n ∧ byteAt img n ≤ r.2 := fun n lt r at' => by
    obtain ⟨r', at'', within⟩ := h n lt
    obtain rfl : r = r' := Option.some.inj (at'.symm.trans at'')
    exact within
  exact ⟨(range 0 (by decide) _ rfl).2, range 1 (by decide) _ rfl, range 2 (by decide) _ rfl, range 3 (by decide) _ rfl,
    range 4 (by decide) _ rfl, range 5 (by decide) _ rfl, range 6 (by decide) _ rfl, (range 7 (by decide) _ rfl).2,
    (range 8 (by decide) _ rfl).2, range 9 (by decide) _ rfl, (range 10 (by decide) _ rfl).2, (range 11 (by decide) _ rfl).2⟩

/-- The bytes of the twelve settings, each in its place. -/
theorem settingsOf_bytes (len : img.length = 12) (h7 : byteAt img 7 ≤ 1) (h8 : byteAt img 8 ≤ 1) (h10 : byteAt img 10 ≤ 1)
    (h11 : byteAt img 11 ≤ 1) : ∀ x, x = settingsOf img → img = u8 x.reach ++ u8 x.awardWait ++ u8 x.linkLoss ++ u8 x.ackWait
      ++ u8 x.hold ++ u8 x.activeInterval ++ u8 x.ackedInterval ++ flag x.visible ++ flag x.roofPattern ++ u8 x.seatTime
      ++ flag x.stopAir ++ flag x.stopOffers := by
  rintro x rfl
  simp only [settingsOf]
  rw [u8_byteAt (by omega), u8_byteAt (by omega), u8_byteAt (by omega), u8_byteAt (by omega), u8_byteAt (by omega),
    u8_byteAt (by omega), u8_byteAt (by omega), flag_byteAt (by omega) h7, flag_byteAt (by omega) h8, u8_byteAt (by omega),
    flag_byteAt (by omega) h10, flag_byteAt (by omega) h11]
  rw [slice_append img 0 1 1, slice_append img 0 2 1, slice_append img 0 3 1, slice_append img 0 4 1, slice_append img 0 5 1,
    slice_append img 0 6 1, slice_append img 0 7 1, slice_append img 0 8 1, slice_append img 0 9 1, slice_append img 0 10 1,
    slice_append img 0 11 1]
  exact (slice_all len).symm

/-! ## Identity (R168) -/

theorem identityImage_ok {x : Identity} (h : identityImage img = .ok x) :
    1 ≤ x.cab ∧ x.cab ≤ 65534 ∧ 1 ≤ x.fleet ∧ x.fleet ≤ 255 ∧ 100 ≤ x.k ∧ x.k ≤ 60000 := by
  have fleet := byteAt_lt img 2
  unfold identityImage at h
  dsimp only at h
  repeat' split at h
  all_goals cases h
  dsimp only
  omega

end Sys2Proof.Machine
end

section
/-! PROOFS. Images of records of one length: which of them are taken, and the first that is not (R27, R163). -/

namespace Sys2Proof.Machine

/-! ## Records in a row -/

section
variable {α : Type} {size : Nat} {parse : List Byte → Option α} {clash : α → α → Bool} {detail : Nat → List Byte → Nat}
  {bs : List Byte} {acc es : List α} {e : α} {n k d pos : Nat}

/-- Records of `size` bytes in image order, none of which clashes with an earlier one; the detail of the first that fails. -/
def records (size : Nat) (parse : List Byte → Option α) (clash : α → α → Bool) (detail : Nat → List Byte → Nat) :
    Nat → Nat → List Byte → List α → Except Nat (List α)
  | 0, _, _, acc => .ok acc
  | n + 1, pos, bs, acc =>
    match parse (bs.take size) with
    | none => .error (detail pos bs)
    | some e =>
      if acc.any fun x => clash x e then .error (detail pos bs)
      else records size parse clash detail n (pos + 1) (bs.drop size) (acc ++ [e])

/-- Record `k`, counted from 0, holds an entry that clashes with none of `acc` and of the records before it. -/
def RecordFits (size : Nat) (parse : List Byte → Option α) (clash : α → α → Bool) (acc : List α) (bs : List Byte)
    (k : Nat) : Prop :=
  ∃ e, parse (slice bs (size * k) size) = some e ∧ (∀ x ∈ acc, clash x e = false)
    ∧ ∀ j < k, ∀ x, parse (slice bs (size * j) size) = some x → clash x e = false

theorem slice_next (bs : List Byte) (size j : Nat) :
    slice (bs.drop size) (size * j) size = slice bs (size * (j + 1)) size := by
  rw [slice_drop, Nat.mul_succ, Nat.add_comm]

theorem RecordFits_zero : RecordFits size parse clash acc bs 0
    ↔ ∃ e, parse (bs.take size) = some e ∧ (acc.any fun x => clash x e) = false := by
  simp [RecordFits, slice]

/-- The records after one that fits. -/
theorem RecordFits_succ (first : parse (bs.take size) = some e) : RecordFits size parse clash acc bs (k + 1)
    ↔ RecordFits size parse clash (acc ++ [e]) (bs.drop size) k := by
  unfold RecordFits
  simp only [slice_next, List.mem_append, List.mem_singleton]
  refine exists_congr fun x => and_congr_right fun _ => ⟨fun ⟨old, before⟩ => ⟨?_, fun j hj => before (j + 1) (by omega)⟩,
    fun ⟨old, before⟩ => ⟨fun y hy => old y (.inl hy), fun j hj => ?_⟩⟩
  · rintro y (hy | rfl)
    · exact old y hy
    · exact before 0 (Nat.succ_pos k) y first
  · cases j with
    | zero =>
      intro y hy
      obtain rfl : e = y := Option.some.inj (first.symm.trans hy)
      exact old e (.inr rfl)
    | succ j => exact before j (by omega)

/-- The error is the detail of the first record that does not fit. -/
theorem records_error : records size parse clash detail n pos bs acc = .error d ↔
    ∃ k < n, d = detail (pos + k) (bs.drop (size * k)) ∧ ¬ RecordFits size parse clash acc bs k
      ∧ ∀ j < k, RecordFits size parse clash acc bs j := by
  induction n generalizing pos bs acc with
  | zero => simp [records]
  | succ n ih =>
    have stops : ¬ RecordFits size parse clash acc bs 0 → (Except.error (detail pos bs) = (.error d : Except Nat (List α)) ↔
        ∃ k < n + 1, d = detail (pos + k) (bs.drop (size * k)) ∧ ¬ RecordFits size parse clash acc bs k
          ∧ ∀ j < k, RecordFits size parse clash acc bs j) := fun bad => by
      constructor
      · intro named
        cases named
        exact ⟨0, Nat.succ_pos n, rfl, bad, nofun⟩
      · rintro ⟨k, -, rfl, -, before⟩
        cases k with
        | zero => rfl
        | succ k => exact absurd (before 0 (Nat.succ_pos k)) bad
    rw [records]
    split
    · next none => exact stops fun fits => by simpa [none] using RecordFits_zero.mp fits
    · next e first =>
      split
      · next clashes =>
        refine stops fun fits => ?_
        obtain ⟨e', first', free⟩ := RecordFits_zero.mp fits
        obtain rfl : e = e' := Option.some.inj (first.symm.trans first')
        exact Bool.noConfusion (clashes.symm.trans free)
      · next free =>
        have fits : RecordFits size parse clash acc bs 0 := RecordFits_zero.mpr ⟨e, first, by simpa using free⟩
        have next : ∀ k, detail (pos + 1 + k) ((bs.drop size).drop (size * k))
            = detail (pos + (k + 1)) (bs.drop (size * (k + 1))) :=
          fun k => by rw [List.drop_drop, Nat.mul_succ, Nat.add_comm size, Nat.add_assoc, Nat.add_comm 1]
        rw [ih]
        constructor
        · rintro ⟨k, lt, rfl, bad, before⟩
          refine ⟨k + 1, Nat.succ_lt_succ lt, next k, (RecordFits_succ first).not.mpr bad, fun j hj => ?_⟩
          cases j with
          | zero => exact fits
          | succ j => exact (RecordFits_succ first).mpr (before j (by omega))
        · rintro ⟨k, lt, rfl, bad, before⟩
          cases k with
          | zero => exact absurd fits bad
          | succ k =>
            exact ⟨k, Nat.lt_of_succ_lt_succ lt, (next k).symm, (RecordFits_succ first).not.mp bad,
              fun j hj => (RecordFits_succ first).mp (before (j + 1) (by omega))⟩

/-- Where every record fits, the records are taken. -/
theorem records_ok_of_fits (fits : ∀ k < n, RecordFits size parse clash acc bs k) :
    ∃ es, records size parse clash detail n pos bs acc = .ok es := by
  cases h : records size parse clash detail n pos bs acc with
  | ok es => exact ⟨es, rfl⟩
  | error d =>
    obtain ⟨k, lt, -, bad, -⟩ := records_error.mp h
    exact absurd (fits k lt) bad

/-- What is taken: the records one after another, each of them one that `parse` gives, and no two of them clashing. -/
theorem records_ok {image : α → List Byte} {good : α → Prop}
    (reads : ∀ b e, b.length = size → parse b = some e → image e = b ∧ good e) (room : size * n ≤ bs.length)
    (h : records size parse clash detail n pos bs acc = .ok es) :
    ∃ new, es = acc ++ new ∧ new.length = n ∧ (∀ k < n, parse (slice bs (size * k) size) = new[k]?)
      ∧ (new.map image).flatten = bs.take (size * n) ∧ (∀ e ∈ new, good e)
      ∧ (acc.Pairwise (fun x e => clash x e = false) → es.Pairwise fun x e => clash x e = false) := by
  induction n generalizing pos bs acc with
  | zero =>
    cases h
    exact ⟨[], by simp, rfl, nofun, by simp, by simp, id⟩
  | succ n ih =>
    rw [Nat.mul_succ] at room ⊢
    rw [records] at h
    split at h
    · cases h
    · next e first =>
      split at h
      · cases h
      · next free =>
        obtain ⟨here, fits⟩ := reads _ e (by rw [List.length_take]; omega) first
        obtain ⟨new, rfl, rfl, entries, bytes, all, apart⟩ := ih (by rw [List.length_drop]; omega) h
        refine ⟨e :: new, by simp, rfl, fun k hk => ?_, ?_, ?_, fun old => apart ?_⟩
        · cases k with
          | zero => exact first
          | succ k => exact slice_next bs size k ▸ entries k (by omega)
        · rw [List.map_cons, List.flatten_cons, here, bytes, Nat.add_comm, List.take_add]
        · rintro x (_ | ⟨_, hx⟩)
          · exact fits
          · exact all x hx
        · rw [List.pairwise_append]
          refine ⟨old, List.pairwise_singleton _ _, fun x hx y hy => ?_⟩
          obtain rfl := List.mem_singleton.mp hy
          simpa using fun k => free (List.any_eq_true.mpr ⟨x, hx, k⟩)

end

/-- Two readings of a record that agree once all earlier records are good. -/
theorem forall_lt_congr {P Q : Nat → Prop} {n : Nat} (h : ∀ k < n, (∀ j < k, P j) → (P k ↔ Q k)) :
    ∀ k ≤ n, (∀ j < k, P j) ↔ ∀ j < k, Q j := by
  intro k
  induction k with
  | zero => exact fun _ => ⟨nofun, nofun⟩
  | succ k ih =>
    intro le
    have before := ih (by omega)
    have here := h k le
    constructor <;> intro good j hj <;> rcases Nat.lt_succ_iff_lt_or_eq.mp hj with lt | rfl
    · exact before.mp (fun j hj => good j (by omega)) j lt
    · exact (here fun i hi => good i (by omega)).mp (good j hj)
    · exact before.mpr (fun j hj => good j (by omega)) j lt
    · exact (here (before.mpr fun i hi => good i (by omega))).mpr (good j hj)

/-! ## Address Table (R163) -/

section
variable {b img : List Byte} {e x : AddressEntry} {n k d : Nat}

/-- The ranges of an entry record. -/
def AddressBytesFit (b : List Byte) : Prop :=
  (byteAt b 0 = 1 ∧ 1 ≤ beNat (slice b 1 2) ∧ beNat (slice b 1 2) ≤ 65534 ∨ byteAt b 0 = 2)
    ∧ 1 ≤ byteAt b 3 ∧ byteAt b 3 < 32

/-- The entry of a record whose fields are in range. -/
def addressEntryOf (b : List Byte) : AddressEntry :=
  { fleet := decide (byteAt b 0 = 2), value := beNat (slice b 1 2), classes := BitVec.ofNat 8 (byteAt b 3) }

theorem addressRecord_eq_some : addressRecord b = some e ↔ AddressBytesFit b ∧ addressEntryOf b = e := by
  rw [addressRecord, Option.ite_none_right_eq_some, Option.some.injEq]
  rfl

/-- The bounds that a valid entry keeps (R163). -/
def AddressEntry.InRange (e : AddressEntry) : Prop :=
  (e.fleet = false → 1 ≤ e.value ∧ e.value ≤ 65534) ∧ e.value ≤ 65535 ∧ e.classes ≠ 0#8 ∧ e.classes.toNat < 32

theorem addressRecord_reads (len : b.length = 4) (h : addressRecord b = some e) : e.image = b ∧ e.InRange := by
  obtain ⟨⟨mode, low, high⟩, rfl⟩ := addressRecord_eq_some.mp h
  have word := beNat_word_lt (bs := slice b 1 2) (by rw [slice_length (by omega)])
  have value : (addressEntryOf b).value = beNat (slice b 1 2) := rfl
  have classes : (addressEntryOf b).classes.toNat = byteAt b 3 := Nat.mod_eq_of_lt (byteAt_lt b 3)
  have modeByte : u8 (if (addressEntryOf b).fleet = true then 2 else 1) = slice b 0 1 := by
    rw [← u8_byteAt (by omega)]
    congr 1
    simp only [addressEntryOf, decide_eq_true_eq]
    split <;> omega
  refine ⟨?_, fun group => ?_, word, fun none => ?_, ?_⟩
  · unfold AddressEntry.image
    rw [modeByte, value, u16_slice (by omega), slice_append b 0 1 2]
    exact (congrArg (slice b 0 3 ++ ·) (u8_byteAt (i := 3) (by omega))).trans
      ((slice_append b 0 3 1).trans (slice_all len))
  · have other : byteAt b 0 ≠ 2 := of_decide_eq_false group
    exact (mode.resolve_right other).2
  · rw [none, BitVec.toNat_ofNat] at classes
    omega
  · exact classes.trans_lt high

/-- Two entries of the same mode and value. -/
def AddressEntry.clash (x e : AddressEntry) : Bool := x.fleet == e.fleet && x.value == e.value

theorem addressRecords_eq (n pos : Nat) (bs : List Byte) (acc : List AddressEntry) :
    addressRecords n pos bs acc = records 4 addressRecord AddressEntry.clash (fun pos _ => pos) n pos bs acc := by
  induction n generalizing pos bs acc with
  | zero => rfl
  | succ n ih =>
    rw [addressRecords, records]
    simp only [ih]
    cases addressRecord (bs.take 4) <;> rfl

theorem addressImage_whole (le : byteAt img 0 ≤ 15) (len : img.length = 1 + 4 * byteAt img 0) : addressImage img
    = records 4 addressRecord AddressEntry.clash (fun pos _ => pos) (byteAt img 0) 1 (img.drop 1) [] := by
  rw [← addressRecords_eq]
  exact if_neg (by omega)

theorem addressImage_unfit (h : 15 < byteAt img 0 ∨ img.length ≠ 1 + 4 * byteAt img 0) : addressImage img = .error 0 :=
  if_pos h

theorem addressImage_ok {es : List AddressEntry} (h : addressImage img = .ok es) :
    img = u8 es.length ++ (es.map AddressEntry.image).flatten ∧ es.length ≤ 15
      ∧ (es.map fun e => (e.fleet, e.value)).Nodup ∧ ∀ e ∈ es, e.InRange := by
  by_cases fits : byteAt img 0 ≤ 15 ∧ img.length = 1 + 4 * byteAt img 0
  · obtain ⟨le, len⟩ := fits
    rw [addressImage_whole le len] at h
    obtain ⟨_, rfl, length, -, bytes, all, apart⟩ := records_ok (image := AddressEntry.image) (good := AddressEntry.InRange)
      (fun b e => addressRecord_reads) (by rw [List.length_drop]; omega) h
    refine ⟨?_, by omega, ?_, all⟩
    · rw [bytes, length, u8_byteAt (by omega), ← slice_zero, slice_drop, Nat.add_zero, slice_append img 0 1, slice_all len]
    · rw [List.Nodup, List.pairwise_map]
      refine (apart .nil).imp fun distinct same => ?_
      simp only [Prod.mk.injEq] at same
      simp [AddressEntry.clash, same] at distinct
  · rw [addressImage_unfit (by omega)] at h
    cases h

/-- Entries differ in mode or value where the bytes of their records do. -/
theorem addressEntryOf_clash {b b' : List Byte} (h : AddressBytesFit b) (h' : AddressBytesFit b') :
    (addressEntryOf b).clash (addressEntryOf b') = false
      ↔ byteAt b 0 ≠ byteAt b' 0 ∨ beNat (slice b 1 2) ≠ beNat (slice b' 1 2) := by
  obtain ⟨mode, -⟩ := h
  obtain ⟨mode', -⟩ := h'
  have modes : decide (byteAt b 0 = 2) = decide (byteAt b' 0 = 2) ↔ byteAt b 0 = byteAt b' 0 := by
    rw [decide_eq_decide]
    omega
  simp only [AddressEntry.clash, addressEntryOf, Bool.and_eq_false_iff, beq_eq_false_iff_ne, ne_eq, modes]

theorem AddressRecordGood_succ : AddressRecordGood img (k + 1) ↔ AddressBytesFit (slice img (1 + 4 * k) 4)
    ∧ ∀ j < k, byteAt (slice img (1 + 4 * j) 4) 0 ≠ byteAt (slice img (1 + 4 * k) 4) 0
        ∨ beNat (slice (slice img (1 + 4 * j) 4) 1 2) ≠ beNat (slice (slice img (1 + 4 * k) 4) 1 2) := by
  simp only [AddressRecordGood, AddressBytesFit, Nat.add_sub_cancel, and_assoc]
  refine and_congr_right fun _ => and_congr_right fun _ => and_congr_right fun _ =>
    ⟨fun apart j hj => ?_, fun apart j pos hj => ?_⟩
  · exact apart (j + 1) (by omega) (by omega)
  · obtain ⟨j, rfl⟩ := Nat.exists_eq_add_of_le' pos
    exact apart j (by omega)

/-- Good records: as the parser has them, and as their bytes have them. -/
theorem AddressRecordGood_iff (before : ∀ j < k, RecordFits 4 addressRecord AddressEntry.clash [] (img.drop 1) j) :
    RecordFits 4 addressRecord AddressEntry.clash [] (img.drop 1) k ↔ AddressRecordGood img (k + 1) := by
  have fits : ∀ j < k, AddressBytesFit (slice img (1 + 4 * j) 4) := fun j hj => by
    obtain ⟨e, read, -⟩ := before j hj
    rw [slice_drop] at read
    exact (addressRecord_eq_some.mp read).1
  rw [AddressRecordGood_succ]
  simp only [RecordFits, slice_drop, addressRecord_eq_some]
  constructor
  · rintro ⟨e, ⟨here, rfl⟩, -, apart⟩
    exact ⟨here, fun j hj => (addressEntryOf_clash (fits j hj) here).mp (apart j hj _ ⟨fits j hj, rfl⟩)⟩
  · rintro ⟨here, apart⟩
    refine ⟨_, ⟨here, rfl⟩, nofun, ?_⟩
    rintro j hj x ⟨-, rfl⟩
    exact (addressEntryOf_clash (fits j hj) here).mpr (apart j hj)

theorem addressImage_error : addressImage img = .error d ↔
    (15 < byteAt img 0 ∨ img.length ≠ 1 + 4 * byteAt img 0) ∧ d = 0
      ∨ byteAt img 0 ≤ 15 ∧ img.length = 1 + 4 * byteAt img 0 ∧ 1 ≤ d ∧ d ≤ byteAt img 0
        ∧ ¬ AddressRecordGood img d ∧ ∀ j, 1 ≤ j → j < d → AddressRecordGood img j := by
  by_cases fits : byteAt img 0 ≤ 15 ∧ img.length = 1 + 4 * byteAt img 0
  · obtain ⟨le, len⟩ := fits
    rw [addressImage_whole le len, records_error]
    have same := forall_lt_congr (n := byteAt img 0) fun k _ => AddressRecordGood_iff (img := img) (k := k)
    constructor
    · rintro ⟨k, lt, rfl, bad, before⟩
      rw [Nat.add_comm 1 k]
      refine .inr ⟨le, len, by omega, by omega, (AddressRecordGood_iff before).not.mp bad, fun j pos hj => ?_⟩
      obtain ⟨j, rfl⟩ := Nat.exists_eq_add_of_le' pos
      exact (same k lt.le).mp before j (by omega)
    · rintro (⟨unfit, -⟩ | ⟨-, -, pos, high, bad, before⟩)
      · omega
      · obtain ⟨k, rfl⟩ := Nat.exists_eq_add_of_le' pos
        have before' := (same k (by omega)).mpr fun j hj => before (j + 1) (by omega) (by omega)
        exact ⟨k, by omega, Nat.add_comm k 1, (AddressRecordGood_iff before').not.mpr bad, before'⟩
  · rw [addressImage_unfit (by omega), Except.error.injEq]
    constructor
    · rintro rfl
      exact .inl ⟨by omega, rfl⟩
    · rintro (⟨-, rfl⟩ | ⟨le, len, -⟩)
      · rfl
      · exact absurd ⟨le, len⟩ fits

end

end Sys2Proof.Machine
end

section
/-! PROOFS. Zone Table images: the records as bytes, and the steps in their order (R164). -/

namespace Sys2Proof.Machine

variable {bs img : List Byte} {zs before : List Zone} {z : Zone} {m n d : Nat}

/-! ## The bytes of a zone record (R198) -/

/-- A zone record as its image has it. -/
def Zone.image (z : Zone) : List Byte :=
  u16 z.number ++ u8 z.neighbours.length ++ (z.neighbours.map u16).flatten

/-- A zone that a record can hold. -/
def Zone.Fits (z : Zone) : Prop := z.number ≤ 65535 ∧ z.neighbours.length ≤ 6 ∧ ∀ n ∈ z.neighbours, n ≤ 65535

theorem zoneTableBytes_eq (zs : List Zone) : zoneTableBytes zs = u8 zs.length ++ (zs.map Zone.image).flatten := rfl

theorem ZonesFit_iff : ZonesFit zs ↔ zs.length ≤ 32 ∧ ∀ z ∈ zs, z.Fits := Iff.rfl

theorem words_length (m : Nat) (bs : List Byte) : (words m bs).length = m := by
  induction m generalizing bs with
  | zero => rfl
  | succ m ih => rw [words, List.length_cons, ih]

theorem words_le (m : Nat) (bs : List Byte) : ∀ n ∈ words m bs, n ≤ 65535 := by
  induction m generalizing bs with
  | zero => exact nofun
  | succ m ih =>
    rintro n (_ | ⟨_, hn⟩)
    · exact beNat_word_lt (List.length_take_le 2 bs)
    · exact ih _ n hn

theorem words_bytes (h : 2 * m ≤ bs.length) : ((words m bs).map u16).flatten = bs.take (2 * m) := by
  induction m generalizing bs with
  | zero => rfl
  | succ m ih =>
    rw [words, List.map_cons, List.flatten_cons, ih (by rw [List.length_drop]; omega),
      u16_beNat (by rw [List.length_take]; omega), Nat.mul_succ, Nat.add_comm, List.take_add]

theorem words_of_bytes {ns : List Nat} (small : ∀ n ∈ ns, n ≤ 65535) (rest : List Byte) :
    words ns.length ((ns.map u16).flatten ++ rest) = ns := by
  induction ns with
  | nil => rfl
  | cons n ns ih =>
    have head : beNat (u16 n) = n := beNat_u16 (small n List.mem_cons_self)
    rw [List.length_cons, words, List.map_cons, List.flatten_cons, List.append_assoc]
    rw [List.take_left' (u16_length n), List.drop_left' (u16_length n), head,
      ih fun x hx => small x (List.mem_cons_of_mem _ hx)]

theorem words_flatten_length (ns : List Nat) : ((ns.map u16).flatten).length = 2 * ns.length := by
  induction ns with
  | nil => rfl
  | cons n ns ih =>
    rw [List.map_cons, List.flatten_cons, List.length_append, ih, u16_length, List.length_cons]
    omega

/-- A zone record of `m` neighbours at the front of some bytes. -/
def zoneAt (m : Nat) (bs : List Byte) : Zone := { number := beNat (bs.take 2), neighbours := words m (bs.drop 3) }

theorem zoneAt_fits (small : m ≤ 6) : (zoneAt m bs).Fits :=
  ⟨beNat_word_lt (List.length_take_le 2 bs), (words_length m _).trans_le small, words_le m _⟩

theorem zoneAt_image (h : 3 + 2 * byteAt bs 2 ≤ bs.length) :
    (zoneAt (byteAt bs 2) bs).image = bs.take (3 + 2 * byteAt bs 2) := by
  have number : u16 (beNat (bs.take 2)) = slice bs 0 2 := u16_slice (i := 0) (by omega)
  have neighbours : ((words (byteAt bs 2) (bs.drop 3)).map u16).flatten = slice bs 3 (2 * byteAt bs 2) :=
    words_bytes (by rw [List.length_drop]; omega)
  change u16 (beNat (bs.take 2)) ++ u8 (words (byteAt bs 2) (bs.drop 3)).length
    ++ ((words (byteAt bs 2) (bs.drop 3)).map u16).flatten = _
  rw [number, words_length, u8_byteAt (by omega), neighbours, slice_append bs 0 2 1, slice_append bs 0 3, slice_zero]

theorem Zone.image_length (z : Zone) : z.image.length = 3 + 2 * z.neighbours.length := by
  rw [Zone.image, List.length_append, words_flatten_length]
  rfl

/-- A record of a zone that fits is read back. -/
theorem zoneAt_of_image (fits : z.Fits) (rest : List Byte) : byteAt (z.image ++ rest) 2 = z.neighbours.length
    ∧ (z.image ++ rest).drop (3 + 2 * z.neighbours.length) = rest
    ∧ zoneAt z.neighbours.length (z.image ++ rest) = z := by
  obtain ⟨number, count, neighbours⟩ := fits
  have head : z.image ++ rest = u16 z.number ++ (u8 z.neighbours.length ++ ((z.neighbours.map u16).flatten ++ rest)) := by
    simp [Zone.image]
  refine ⟨?_, List.drop_left' z.image_length, ?_⟩
  · rw [head]
    change (BitVec.ofNat 8 z.neighbours.length).toNat = _
    rw [BitVec.toNat_ofNat]
    omega
  · rw [head]
    change Zone.mk (beNat (u16 z.number)) (words z.neighbours.length ((z.neighbours.map u16).flatten ++ rest)) = z
    rw [beNat_u16 number, words_of_bytes neighbours]

theorem zoneRecords_succ : zoneRecords (n + 1) bs =
    if bs.length < 3 ∨ 6 < byteAt bs 2 ∨ bs.length < 3 + 2 * byteAt bs 2 then none
    else (zoneRecords n (bs.drop (3 + 2 * byteAt bs 2))).map (zoneAt (byteAt bs 2) bs :: ·) := rfl

/-- Step 1: the records are the bytes of zones that fit, whatever their numbers. -/
theorem zoneRecords_eq_some : zoneRecords n bs = some zs ↔
    bs = (zs.map Zone.image).flatten ∧ zs.length = n ∧ ∀ z ∈ zs, z.Fits := by
  induction n generalizing bs zs with
  | zero =>
    rw [zoneRecords, Option.ite_none_right_eq_some, List.isEmpty_iff, Option.some.injEq]
    constructor
    · rintro ⟨rfl, rfl⟩
      exact ⟨rfl, rfl, nofun⟩
    · rintro ⟨rfl, none, -⟩
      obtain rfl := List.length_eq_zero_iff.mp none
      exact ⟨rfl, rfl⟩
  | succ n ih =>
    rw [zoneRecords_succ, Option.ite_none_left_eq_some, Option.map_eq_some_iff]
    constructor
    · rintro ⟨room, rest, read, rfl⟩
      obtain ⟨bytes, rfl, fits⟩ := ih.mp read
      refine ⟨?_, rfl, ?_⟩
      · rw [List.map_cons, List.flatten_cons, ← bytes, zoneAt_image (by omega), List.take_append_drop]
      · rintro z (_ | ⟨_, hz⟩)
        · exact zoneAt_fits (by omega)
        · exact fits z hz
    · rintro ⟨rfl, length, fits⟩
      obtain ⟨z, zs, rfl⟩ := List.exists_cons_of_length_eq_add_one length
      have here := fits z List.mem_cons_self
      obtain ⟨count, rest, zone⟩ := zoneAt_of_image here (zs.map Zone.image).flatten
      have few := here.2.1
      have long := z.image_length
      rw [List.map_cons, List.flatten_cons, count, rest, zone, List.length_append]
      exact ⟨by omega, zs, ih.mpr ⟨rfl, Nat.succ.inj length, fun x hx => fits x (List.mem_cons_of_mem _ hx)⟩, rfl⟩

/-! ## The steps (R164) -/

theorem zoneNumber_iff : zoneNumber n = true ↔ 1 ≤ n ∧ n ≤ 999 := by simp [zoneNumber]

theorem zoneRecordGood_iff : zoneRecordGood before z = true ↔ ZoneGood before z := by
  simp only [zoneRecordGood, ZoneGood, zoneNumber_iff, Bool.and_eq_true, List.all_eq_true, bne_iff_ne, decide_eq_true_eq,
    and_assoc]

/-- Step 2 fails at the first record that is not good. -/
theorem zoneFault2_first {as bs : List Zone} (parts : zs = as ++ z :: bs)
    (earlier : ∀ cs x ds, as = cs ++ x :: ds → ZoneGood (before ++ cs) x) (bad : ¬ ZoneGood (before ++ as) z) :
    zoneFault2 before zs = some z.number := by
  subst parts
  induction as generalizing before with
  | nil =>
    rw [List.append_nil] at bad
    exact if_neg fun k => bad (zoneRecordGood_iff.mp k)
  | cons a as ih =>
    have good : ZoneGood before a := by simpa using earlier [] a as rfl
    rw [List.cons_append, zoneFault2, if_pos (zoneRecordGood_iff.mpr good)]
    refine ih (fun cs x ds same => ?_) (by simpa using bad)
    have := earlier (a :: cs) x ds (by rw [same, List.cons_append])
    simpa using this

theorem zoneFault2_none : zoneFault2 before zs = none ↔ ∀ as z bs, zs = as ++ z :: bs → ZoneGood (before ++ as) z := by
  induction zs generalizing before with
  | nil => simp [zoneFault2]
  | cons a zs ih =>
    rw [zoneFault2]
    split
    · next good =>
      rw [ih]
      constructor
      · intro later as z bs parts
        cases as with
        | nil =>
          obtain ⟨rfl, -⟩ := List.cons.inj parts
          rw [List.append_nil]
          exact zoneRecordGood_iff.mp good
        | cons b as =>
          obtain ⟨rfl, tail⟩ := List.cons.inj parts
          simpa using later as z bs tail
      · intro all as z bs parts
        simpa using all (a :: as) z bs (by rw [parts, List.cons_append])
    · next bad =>
      refine ⟨nofun, fun all => absurd (zoneRecordGood_iff.mpr ?_) bad⟩
      simpa using all [] a zs rfl

/-- The numbers of records that are all good are distinct. -/
theorem zones_distinct (h : ∀ as z bs, zs = as ++ z :: bs → ZoneGood (before ++ as) z)
    (old : (before.map Zone.number).Nodup) : ((before ++ zs).map Zone.number).Nodup := by
  induction zs generalizing before with
  | nil => simpa using old
  | cons a zs ih =>
    obtain ⟨-, -, fresh, -⟩ : ZoneGood before a := by simpa using h [] a zs rfl
    have grown : ((before ++ [a]).map Zone.number).Nodup := by
      rw [List.map_append, List.nodup_append]
      refine ⟨old, List.nodup_singleton _, ?_⟩
      simpa using fresh
    have rest := ih (before := before ++ [a])
      (fun as z bs parts => by simpa using h (a :: as) z bs (by rw [parts, List.cons_append])) grown
    simpa using rest

/-- A zone names a neighbour that the table does not hold. -/
theorem missing_iff : (z.neighbours.any fun n => zs.all fun x => x.number != n) = true ↔
    ∃ n ∈ z.neighbours, ∀ y ∈ zs, y.number ≠ n := by
  simp

/-- Step 3 fails at the first zone that names a missing neighbour. -/
theorem zoneFault3_first {as bs : List Zone} (parts : zs = as ++ z :: bs)
    (earlier : ∀ x ∈ as, ∀ n ∈ x.neighbours, ∃ y ∈ zs, y.number = n) (missing : ∃ n ∈ z.neighbours, ∀ y ∈ zs, y.number ≠ n) :
    zoneFault3 zs = some z.number := by
  refine congrArg (Option.map Zone.number) (List.find?_eq_some_iff_append.mpr ⟨missing_iff.mpr missing, as, bs, parts, ?_⟩)
  intro x hx
  rw [Bool.not_eq_true', ← Bool.not_eq_true, missing_iff]
  rintro ⟨n, hn, none⟩
  obtain ⟨y, hy, same⟩ := earlier x hx n hn
  exact none y hy same

theorem zoneFault3_none : zoneFault3 zs = none ↔ ∀ z ∈ zs, ∀ n ∈ z.neighbours, ∃ y ∈ zs, y.number = n := by
  simp only [zoneFault3, Option.map_eq_none_iff, List.find?_eq_none, missing_iff, not_exists, not_and, not_forall, ne_eq,
    not_not, exists_prop]

/-! ## Zone Table images -/

theorem zoneRecords_table (fits : ZonesFit zs) : byteAt (zoneTableBytes zs) 0 = zs.length
    ∧ zoneRecords zs.length ((zoneTableBytes zs).drop 1) = some zs := by
  obtain ⟨few, all⟩ := ZonesFit_iff.mp fits
  refine ⟨?_, zoneRecords_eq_some.mpr ⟨rfl, rfl, all⟩⟩
  change (BitVec.ofNat 8 zs.length).toNat = _
  rw [BitVec.toNat_ofNat]
  omega

section
variable (fits : ZonesFit zs)
include fits

/-- The bytes of zones that fit pass the first step. -/
theorem zoneImage_table : zoneImage (zoneTableBytes zs)
    = (zoneFault2 [] zs).elim ((zoneFault3 zs).elim (.ok zs) .error) .error := by
  obtain ⟨count, read⟩ := zoneRecords_table fits
  obtain ⟨few, -⟩ := fits
  rw [zoneImage, count, if_neg (by simp [zoneTableBytes, u8, few]), read]
  cases h2 : zoneFault2 [] zs with
  | some d => simp only [h2, Option.elim]
  | none => cases h3 : zoneFault3 zs <;> simp only [h2, h3, Option.elim]

theorem zoneImage_fault2 (h : zoneFault2 [] zs = some d) : zoneImage (zoneTableBytes zs) = .error d := by
  rw [zoneImage_table fits, h]
  rfl

theorem zoneImage_fault3 (h : zoneFault2 [] zs = none) (h' : zoneFault3 zs = some d) :
    zoneImage (zoneTableBytes zs) = .error d := by
  rw [zoneImage_table fits, h, h']
  rfl

theorem zoneImage_taken (h : zoneFault2 [] zs = none) (h' : zoneFault3 zs = none) :
    zoneImage (zoneTableBytes zs) = .ok zs := by
  rw [zoneImage_table fits, h, h']
  rfl

end

/-- An image is the bytes of zones that fit, or fails the first step. -/
theorem zoneImage_cases (img : List Byte) : zoneImage img = .error 0 ∨ ∃ zs, ZonesFit zs ∧ img = zoneTableBytes zs := by
  by_cases unfit : img.isEmpty ∨ 32 < byteAt img 0
  · exact .inl (if_pos unfit)
  cases read : zoneRecords (byteAt img 0) (img.drop 1) with
  | none => exact .inl (by rw [zoneImage, if_neg unfit, read])
  | some zs =>
    obtain ⟨bytes, length, fits⟩ := zoneRecords_eq_some.mp read
    obtain ⟨full, few⟩ := not_or.mp unfit
    have pos : 0 < img.length := List.length_pos_iff.mpr (by simpa using full)
    refine .inr ⟨zs, ZonesFit_iff.mpr ⟨by omega, fits⟩, ?_⟩
    rw [zoneTableBytes_eq, ← bytes, length, u8_byteAt pos]
    exact (List.take_append_drop 1 img).symm

theorem zoneImage_unfit (h : ∀ zs, ZonesFit zs → img ≠ zoneTableBytes zs) : zoneImage img = .error 0 :=
  (zoneImage_cases img).resolve_right fun ⟨zs, fits, same⟩ => h zs fits same

theorem zoneImage_ok (h : zoneImage img = .ok zs) :
    img = zoneTableBytes zs ∧ ZonesFit zs ∧ zoneFault2 [] zs = none ∧ zoneFault3 zs = none := by
  rcases zoneImage_cases img with unfit | ⟨zs', fits, rfl⟩
  · rw [unfit] at h
    cases h
  · cases h2 : zoneFault2 [] zs' with
    | some d => exact nomatch (zoneImage_fault2 fits h2).symm.trans h
    | none =>
      cases h3 : zoneFault3 zs' with
      | some d => exact nomatch (zoneImage_fault3 fits h2 h3).symm.trans h
      | none =>
        obtain rfl : zs' = zs := Except.ok.inj ((zoneImage_taken fits h2 h3).symm.trans h)
        exact ⟨rfl, fits, h2, h3⟩

theorem zoneImage_holds (h : zoneImage img = .ok zs) : img = zoneTableBytes zs ∧ zs.length ≤ 32
    ∧ (zs.map Zone.number).Nodup ∧ ∀ z ∈ zs, 1 ≤ z.number ∧ z.number ≤ 999 ∧ z.neighbours.length ≤ 6 ∧ z.neighbours.Nodup
      ∧ z.number ∉ z.neighbours ∧ ∀ n ∈ z.neighbours, ∃ x ∈ zs, x.number = n := by
  obtain ⟨bytes, fits, h2, h3⟩ := zoneImage_ok h
  obtain ⟨few, all⟩ := ZonesFit_iff.mp fits
  have good := zoneFault2_none.mp h2
  refine ⟨bytes, few, by simpa using zones_distinct good List.nodup_nil, fun z hz => ?_⟩
  obtain ⟨as, bs, parts⟩ := List.append_of_mem hz
  obtain ⟨low, high, -, others, distinct⟩ := good as z bs parts
  exact ⟨low, high, (all z hz).2.1, distinct, fun own => (others _ own).2.2 rfl, zoneFault3_none.mp h3 z hz⟩

theorem zoneImage_steps (fits : ZonesFit zs) :
    (∀ as z bs, zs = as ++ z :: bs → (∀ bs' z' cs, as = bs' ++ z' :: cs → ZoneGood bs' z') → ¬ ZoneGood as z →
        zoneImage (zoneTableBytes zs) = .error z.number)
      ∧ ((∀ as z bs, zs = as ++ z :: bs → ZoneGood as z) →
          (∀ as z bs, zs = as ++ z :: bs → (∀ x ∈ as, ∀ n ∈ x.neighbours, ∃ y ∈ zs, y.number = n) →
            (∃ n ∈ z.neighbours, ∀ y ∈ zs, y.number ≠ n) → zoneImage (zoneTableBytes zs) = .error z.number)
          ∧ ((∀ z ∈ zs, ∀ n ∈ z.neighbours, ∃ y ∈ zs, y.number = n) → zoneImage (zoneTableBytes zs) = .ok zs)) := by
  refine ⟨fun as z bs parts earlier bad => zoneImage_fault2 fits (zoneFault2_first parts earlier bad), fun good => ?_⟩
  have step2 : zoneFault2 [] zs = none := zoneFault2_none.mpr good
  exact ⟨fun as z bs parts earlier missing => zoneImage_fault3 fits step2 (zoneFault3_first parts earlier missing),
    fun whole => zoneImage_taken fits step2 (zoneFault3_none.mpr whole)⟩

end Sys2Proof.Machine
end

section
/-! PROOFS. Tariff images: band records, extras, and the steps in their order (R27, R198); and with them what a valid image
of each table holds. -/

namespace Sys2Proof.Machine

variable {b img bs : List Byte} {lo hi v n k d : Nat}

/-! ## A band record (R25, R27) -/

section
variable {x : Band} {w : Option Window}

theorem amountIn_eq_some : amountIn bs lo hi = some v ↔ bcdNat bs = some v ∧ lo ≤ v ∧ v ≤ hi := by
  simp [amountIn, Option.filter_eq_some_iff]

theorem AmountIn_iff : AmountIn bs lo hi ↔ ∃ v, amountIn bs lo hi = some v := by simp [AmountIn, amountIn_eq_some]

/-- The window bytes of a band record that are in range. -/
def WindowBytesFit (b : List Byte) : Prop :=
  byteAt b 1 = 0 ∧ beNat (slice b 2 3) = 0 ∧ beNat (slice b 5 3) = 0 ∧ byteAt b 8 = 0
    ∨ byteAt b 1 = 1 ∧ beNat (slice b 2 3) ≤ 86399 ∧ beNat (slice b 5 3) ≤ 86399 ∧ 1 ≤ byteAt b 8 ∧ byteAt b 8 < 128
      ∧ byteAt b 0 ≠ 1

/-- The window of a band record whose window bytes are in range. -/
def windowOf (b : List Byte) : Option Window :=
  if byteAt b 1 = 0 then none
  else some { start := beNat (slice b 2 3), stop := beNat (slice b 5 3), days := BitVec.ofNat 8 (byteAt b 8) }

theorem bandWindow_eq_some : bandWindow b = some w ↔ WindowBytesFit b ∧ windowOf b = w := by
  unfold bandWindow WindowBytesFit windowOf
  dsimp only
  split
  · next absent => simp [absent]
  · next given => simp [given]
  · next neither given => simp [show byteAt b 1 ≠ 0 from neither, show byteAt b 1 ≠ 1 from given]

theorem windowOf_none (fits : WindowBytesFit b) (one : byteAt b 0 = 1) : windowOf b = none := by
  rcases fits with ⟨absent, -⟩ | ⟨-, -, -, -, -, other⟩
  · exact if_pos absent
  · exact absurd one other

theorem windowOf_range (fits : WindowBytesFit b) : ∀ w, windowOf b = some w →
    w.start ≤ 86399 ∧ w.stop ≤ 86399 ∧ w.days ≠ 0#8 ∧ w.days.toNat < 128 := by
  intro w given
  unfold windowOf at given
  split at given
  · cases given
  · next present =>
    obtain rfl := Option.some.inj given
    rcases fits with ⟨absent, -⟩ | ⟨-, start, stop, low, high, -⟩
    · exact absurd absent present
    · have days : (BitVec.ofNat 8 (byteAt b 8)).toNat = byteAt b 8 := Nat.mod_eq_of_lt (byteAt_lt b 8)
      refine ⟨start, stop, fun none => ?_, days.trans_lt high⟩
      rw [show BitVec.ofNat 8 (byteAt b 8) = 0#8 from none, BitVec.toNat_ofNat] at days
      omega

/-- The window's eight bytes as a band's image has them. -/
def windowImage : Option Window → List Byte
  | none => [0#8, 0#8, 0#8, 0#8, 0#8, 0#8, 0#8, 0#8]
  | some w => u8 1 ++ u24 w.start ++ u24 w.stop ++ [w.days]

theorem Band.image_eq (x : Band) : x.image = u8 x.number ++ windowImage x.window ++ amount x.flagFall ++ u8 x.coverage
    ++ amount x.value1 ++ u16 x.length1 ++ amount x.value2 ++ u16 x.metres ++ u16 x.seconds
    ++ flagByte [x.gateClears, x.selectable] := by
  obtain ⟨number, window, flagFall, coverage, value1, length1, value2, metres, seconds, gateClears, selectable⟩ := x
  cases window <;> rfl

theorem windowImage_of (len : b.length = 26) (fits : WindowBytesFit b) : windowImage (windowOf b) = slice b 1 8 := by
  have parts : u8 (byteAt b 1) ++ u24 (beNat (slice b 2 3)) ++ u24 (beNat (slice b 5 3)) ++ u8 (byteAt b 8)
      = slice b 1 8 := by
    rw [u8_byteAt (by omega), u24_slice (by omega), u24_slice (by omega), u8_byteAt (by omega), slice_append b 1 1 3,
      slice_append b 1 4 3, slice_append b 1 7 1]
  rw [← parts]
  rcases fits with ⟨absent, start, stop, days⟩ | ⟨given, -⟩
  · rw [windowOf, if_pos absent, absent, start, stop, days]
    rfl
  · rw [windowOf, if_neg (by omega), given]
    rfl

/-- The second segment's value: any number of a trip amount where the first has no length. -/
def secondValue (b : List Byte) : Option Nat :=
  if beNat (slice b 16 2) = 0 then bcdNat (slice b 18 3) else amountIn (slice b 18 3) 1 9999

/-- The binary fields of a band record that are in range. -/
abbrev BandNumbersFit (b : List Byte) : Prop :=
  1 ≤ byteAt b 0 ∧ byteAt b 0 ≤ 8 ∧ byteAt b 12 ≤ 15 ∧ 10 ≤ beNat (slice b 21 2) ∧ beNat (slice b 21 2) ≤ 10000
    ∧ 1 ≤ beNat (slice b 23 2) ∧ beNat (slice b 23 2) ≤ 3600 ∧ byteAt b 25 < 4

/-- The band of a record, its amounts given. -/
def bandOf (b : List Byte) (flagFall value1 value2 : Nat) : Band :=
  { number := byteAt b 0, window := windowOf b, flagFall, coverage := byteAt b 12, value1, length1 := beNat (slice b 16 2)
    value2, metres := beNat (slice b 21 2), seconds := beNat (slice b 23 2)
    gateClears := byteAt b 25 % 2 = 1, selectable := byteAt b 25 / 2 = 1 }

theorem bandRecord_bind : bandRecord b = (bandWindow b).bind fun window => (amountIn (slice b 9 3) 0 99999).bind fun fall =>
    (amountIn (slice b 13 3) 1 9999).bind fun v1 => (secondValue b).bind fun v2 =>
      if BandNumbersFit b then some { bandOf b fall v1 v2 with window } else none := by
  unfold bandRecord secondValue BandNumbersFit bandOf
  by_cases zero : beNat (slice b 16 2) = 0 <;> simp [zero]

theorem bandRecord_eq_some : bandRecord b = some x ↔ WindowBytesFit b ∧ BandNumbersFit b
    ∧ ∃ fall v1 v2, amountIn (slice b 9 3) 0 99999 = some fall ∧ amountIn (slice b 13 3) 1 9999 = some v1
      ∧ secondValue b = some v2 ∧ bandOf b fall v1 v2 = x := by
  simp only [bandRecord_bind, Option.bind_eq_some_iff, Option.ite_none_right_eq_some, Option.some.injEq, bandWindow_eq_some]
  constructor
  · rintro ⟨w, ⟨window, rfl⟩, fall, hfall, v1, hv1, v2, hv2, numbers, rfl⟩
    exact ⟨window, numbers, fall, v1, v2, hfall, hv1, hv2, rfl⟩
  · rintro ⟨window, numbers, fall, v1, v2, hfall, hv1, hv2, rfl⟩
    exact ⟨_, ⟨window, rfl⟩, fall, hfall, v1, hv1, v2, hv2, numbers, rfl⟩

theorem bandRecord_number (h : bandRecord b = some x) : x.number = byteAt b 0 := by
  obtain ⟨-, -, fall, v1, v2, -, -, -, rfl⟩ := bandRecord_eq_some.mp h
  rfl

/-- The bounds that a band of a valid tariff keeps (R25, R27). -/
def Band.InRange (b : Band) : Prop :=
  1 ≤ b.number ∧ b.number ≤ 8 ∧ b.flagFall ≤ 99999 ∧ b.coverage ≤ 15
    ∧ 1 ≤ b.value1 ∧ b.value1 ≤ 9999 ∧ b.length1 ≤ 65535 ∧ b.value2 ≤ 999999
    ∧ (b.length1 ≠ 0 → 1 ≤ b.value2 ∧ b.value2 ≤ 9999)
    ∧ 10 ≤ b.metres ∧ b.metres ≤ 10000 ∧ 1 ≤ b.seconds ∧ b.seconds ≤ 3600
    ∧ ∀ w, b.window = some w → w.start ≤ 86399 ∧ w.stop ≤ 86399 ∧ w.days ≠ 0#8 ∧ w.days.toNat < 128

/-- Band 1 has no window (R25). -/
def Band.FirstOpen (b : Band) : Prop := b.number = 1 → b.window = none

theorem secondValue_eq_some (len : b.length = 26) (h : secondValue b = some v) : bcdNat (slice b 18 3) = some v ∧ v ≤ 999999
    ∧ (beNat (slice b 16 2) ≠ 0 → 1 ≤ v ∧ v ≤ 9999) := by
  have three : (slice b 18 3).length = 3 := slice_length (by omega)
  unfold secondValue at h
  split at h
  · next zero => exact ⟨h, (amount_of_bcdNat three h).2, fun k => absurd zero k⟩
  · obtain ⟨digits, low, high⟩ := amountIn_eq_some.mp h
    exact ⟨digits, by omega, fun _ => ⟨low, high⟩⟩

/-- The last byte of a band record: bit 0 and bit 1 (R198). -/
theorem flagByte_bits {m : Nat} (h : m < 4) : flagByte [decide (m % 2 = 1), decide (m / 2 = 1)] = u8 m := by
  have four : m = 0 ∨ m = 1 ∨ m = 2 ∨ m = 3 := by omega
  rcases four with rfl | rfl | rfl | rfl <;> rfl

theorem bandRecord_reads (len : b.length = 26) (h : bandRecord b = some x) : x.image = b ∧ x.InRange ∧ x.FirstOpen := by
  obtain ⟨window, numbers, fall, v1, v2, hfall, hv1, hv2, rfl⟩ := bandRecord_eq_some.mp h
  obtain ⟨number, number', coverage, metres, metres', seconds, seconds', bits⟩ := numbers
  obtain ⟨fallDigits, -, fallHigh⟩ := amountIn_eq_some.mp hfall
  obtain ⟨v1Digits, v1Low, v1High⟩ := amountIn_eq_some.mp hv1
  obtain ⟨v2Digits, v2High, v2Range⟩ := secondValue_eq_some len hv2
  have word := beNat_word_lt (bs := slice b 16 2) (by rw [slice_length (by omega)])
  have fallBytes := (amount_of_bcdNat (slice_length (i := 9) (by omega)) fallDigits).1
  have v1Bytes := (amount_of_bcdNat (slice_length (i := 13) (by omega)) v1Digits).1
  have v2Bytes := (amount_of_bcdNat (slice_length (i := 18) (by omega)) v2Digits).1
  refine ⟨?_, ⟨number, number', fallHigh, coverage, v1Low, v1High, word, v2High, v2Range, metres, metres', seconds, seconds',
    windowOf_range window⟩, windowOf_none window⟩
  have fields : (bandOf b fall v1 v2).image = u8 (byteAt b 0) ++ windowImage (windowOf b) ++ amount fall ++ u8 (byteAt b 12)
      ++ amount v1 ++ u16 (beNat (slice b 16 2)) ++ amount v2 ++ u16 (beNat (slice b 21 2)) ++ u16 (beNat (slice b 23 2))
      ++ flagByte [decide (byteAt b 25 % 2 = 1), decide (byteAt b 25 / 2 = 1)] := by
    rw [Band.image_eq]
    rfl
  rw [fields, windowImage_of len window, fallBytes, v1Bytes, v2Bytes, flagByte_bits bits, u8_byteAt (by omega),
    u8_byteAt (by omega), u8_byteAt (by omega), u16_slice (by omega), u16_slice (by omega), u16_slice (by omega),
    slice_append b 0 1 8, slice_append b 0 9 3, slice_append b 0 12 1, slice_append b 0 13 3, slice_append b 0 16 2,
    slice_append b 0 18 3, slice_append b 0 21 2, slice_append b 0 23 2, slice_append b 0 25 1, slice_all len]

/-- The parser takes a record where its bytes are in range. -/
theorem bandRecord_reads_iff : (∃ x, bandRecord b = some x) ↔ WindowBytesFit b ∧ BandNumbersFit b
    ∧ AmountIn (slice b 9 3) 0 99999 ∧ AmountIn (slice b 13 3) 1 9999
    ∧ (beNat (slice b 16 2) = 0 → ∃ v, bcdNat (slice b 18 3) = some v)
    ∧ (beNat (slice b 16 2) ≠ 0 → AmountIn (slice b 18 3) 1 9999) := by
  have second : (∃ v, secondValue b = some v) ↔ (beNat (slice b 16 2) = 0 → ∃ v, bcdNat (slice b 18 3) = some v)
      ∧ (beNat (slice b 16 2) ≠ 0 → AmountIn (slice b 18 3) 1 9999) := by
    unfold secondValue
    split
    · next zero => simp [zero]
    · next long => simp [long, AmountIn_iff]
  rw [← second, AmountIn_iff, AmountIn_iff]
  constructor
  · rintro ⟨x, h⟩
    obtain ⟨window, numbers, fall, v1, v2, hfall, hv1, hv2, -⟩ := bandRecord_eq_some.mp h
    exact ⟨window, numbers, ⟨fall, hfall⟩, ⟨v1, hv1⟩, v2, hv2⟩
  · rintro ⟨window, numbers, ⟨fall, hfall⟩, ⟨v1, hv1⟩, v2, hv2⟩
    exact ⟨_, bandRecord_eq_some.mpr ⟨window, numbers, fall, v1, v2, hfall, hv1, hv2, rfl⟩⟩

end

/-! ## Band records in a row -/

/-- Two bands of one number. -/
def Band.clash (x b : Band) : Bool := x.number == b.number

theorem bandRecords_eq (n pos : Nat) (bs : List Byte) (acc : List Band) :
    bandRecords n bs acc = records 26 bandRecord Band.clash (fun _ bs => byteAt bs 0) n pos bs acc := by
  induction n generalizing pos bs acc with
  | zero => rfl
  | succ n ih =>
    rw [bandRecords, records]
    simp only [← ih (pos + 1)]
    cases first : bandRecord (bs.take 26) with
    | none => rfl
    | some x =>
      have number : x.number = byteAt bs 0 := (bandRecord_number first).trans (byteAt_take (by omega))
      exact if_congr Iff.rfl (congrArg Except.error number) rfl

theorem BandRecordGood_eq : BandRecordGood img k ↔ (∃ x, bandRecord (slice img (4 + 26 * k) 26) = some x)
    ∧ ∀ j < k, byteAt img (4 + 26 * j) ≠ byteAt (slice img (4 + 26 * k) 26) 0 := by
  rw [bandRecord_reads_iff]
  constructor
  · intro good
    obtain ⟨number, number', window, fall, coverage, v1, zero, long, metres, metres', seconds, seconds', bits, apart⟩ :=
      good _ rfl
    exact ⟨⟨window, ⟨number, number', coverage, metres, metres', seconds, seconds', bits⟩, fall, v1, zero, long⟩, apart⟩
  · rintro ⟨⟨window, numbers, fall, v1, zero, long⟩, apart⟩ b rfl
    obtain ⟨number, number', coverage, metres, metres', seconds, seconds', bits⟩ := numbers
    exact ⟨number, number', window, fall, coverage, v1, zero, long, metres, metres', seconds, seconds', bits, apart⟩

/-- Good records: as the parser has them, and as their bytes have them. -/
theorem BandRecordGood_iff (before : ∀ j < k, RecordFits 26 bandRecord Band.clash [] (img.drop 4) j) :
    RecordFits 26 bandRecord Band.clash [] (img.drop 4) k ↔ BandRecordGood img k := by
  have apart : ∀ {x y : Band} {j : Nat}, bandRecord (slice img (4 + 26 * j) 26) = some x →
      bandRecord (slice img (4 + 26 * k) 26) = some y →
      (x.clash y = false ↔ byteAt img (4 + 26 * j) ≠ byteAt (slice img (4 + 26 * k) 26) 0) := fun hx hy => by
    rw [Band.clash, beq_eq_false_iff_ne, bandRecord_number hx, bandRecord_number hy,
      byteAt_slice (i := 4 + 26 * _) (by omega), Nat.add_zero]
  rw [BandRecordGood_eq]
  simp only [RecordFits, slice_drop] at before ⊢
  constructor
  · rintro ⟨x, here, -, free⟩
    refine ⟨⟨x, here⟩, fun j hj => ?_⟩
    obtain ⟨y, read, -⟩ := before j hj
    exact (apart read here).mp (free j hj y read)
  · rintro ⟨⟨x, here⟩, free⟩
    exact ⟨x, here, nofun, fun j hj y read => (apart read here).mpr (free j hj)⟩

/-! ## Extras (R26, R27) -/

section
variable {xs : List Extra}

/-- The bounds that an extra of a valid tariff keeps (R26). -/
def Extra.InRange (e : Extra) : Prop := 1 ≤ e.amount ∧ e.amount ≤ 99999 ∧ 1 ≤ e.max ∧ e.max ≤ 9

theorem extraRecords_succ : extraRecords (n + 1) bs = some xs ↔ ∃ price, amountIn (bs.take 3) 1 99999 = some price
    ∧ (1 ≤ byteAt bs 3 ∧ byteAt bs 3 ≤ 9)
    ∧ ∃ rest, extraRecords n (bs.drop 4) = some rest ∧ { amount := price, max := byteAt bs 3 } :: rest = xs := by
  rw [extraRecords]
  simp only [Option.bind_eq_bind, Option.bind_eq_some_iff, Option.ite_none_right_eq_some, Option.map_eq_some_iff]

theorem extraRecords_reads (room : 4 * n ≤ bs.length) (h : extraRecords n bs = some xs) :
    (xs.map Extra.image).flatten = bs.take (4 * n) ∧ xs.length = n ∧ ∀ e ∈ xs, e.InRange := by
  induction n generalizing bs xs with
  | zero =>
    obtain rfl : [] = xs := Option.some.inj h
    exact ⟨rfl, rfl, nofun⟩
  | succ n ih =>
    obtain ⟨price, hprice, ⟨low, high⟩, rest, read, rfl⟩ := extraRecords_succ.mp h
    obtain ⟨bytes, rfl, fits⟩ := ih (by rw [List.length_drop]; omega) read
    obtain ⟨digits, priceLow, priceHigh⟩ := amountIn_eq_some.mp hprice
    have priceBytes := (amount_of_bcdNat (by rw [List.length_take]; omega) digits).1
    refine ⟨?_, rfl, ?_⟩
    · rw [List.map_cons, List.flatten_cons, bytes, Extra.image, priceBytes, u8_byteAt (by omega), ← slice_zero,
        slice_append bs 0 3 1, ← slice_zero (bs.drop 4), slice_drop, slice_append bs 0 4, Nat.mul_succ, Nat.add_comm]
      rfl
    · rintro e (_ | ⟨_, he⟩)
      · exact ⟨priceLow, priceHigh, low, high⟩
      · exact fits e he

theorem ExtraRecordGood_drop (k i : Nat) : ExtraRecordGood (bs.drop k) i ↔ ExtraRecordGood bs (k + i) := by
  simp only [ExtraRecordGood, slice_drop, byteAt_drop, Nat.add_assoc]

/-- The extras are read where each record is good. -/
theorem extraRecords_iff : (∃ xs, extraRecords n bs = some xs) ↔ ∀ j < n, ExtraRecordGood bs (4 * j) := by
  induction n generalizing bs with
  | zero => exact ⟨fun _ => nofun, fun _ => ⟨_, rfl⟩⟩
  | succ n ih =>
    have first : ExtraRecordGood bs 0
        ↔ (∃ price, amountIn (bs.take 3) 1 99999 = some price) ∧ 1 ≤ byteAt bs 3 ∧ byteAt bs 3 ≤ 9 := by
      rw [ExtraRecordGood, AmountIn_iff]
      rfl
    have later : ∀ j, ExtraRecordGood (bs.drop 4) (4 * j) ↔ ExtraRecordGood bs (4 * (j + 1)) := fun j => by
      rw [ExtraRecordGood_drop, Nat.mul_succ, Nat.add_comm]
    constructor
    · rintro ⟨xs, h⟩ j hj
      obtain ⟨price, hprice, range, rest, read, -⟩ := extraRecords_succ.mp h
      cases j with
      | zero => exact first.mpr ⟨⟨price, hprice⟩, range⟩
      | succ j => exact (later j).mp (ih.mp ⟨rest, read⟩ j (by omega))
    · intro good
      obtain ⟨⟨price, hprice⟩, range⟩ := first.mp (good 0 (Nat.succ_pos n))
      obtain ⟨rest, read⟩ := ih.mpr fun j hj => (later j).mpr (good (j + 1) (by omega))
      exact ⟨_, extraRecords_succ.mpr ⟨price, hprice, range, rest, read, rfl⟩⟩

end

/-! ## Tariff images -/

/-- The version, the counts and the length that the counts give: the first step (R27, R198). -/
def TariffFits (img : List Byte) : Prop :=
  beNat (slice img 0 2) ≠ 0 ∧ 1 ≤ byteAt img 2 ∧ byteAt img 2 ≤ 8 ∧ byteAt img 3 ≤ 8
    ∧ img.length = 4 + 26 * byteAt img 2 + 4 * byteAt img 3

theorem tariffImage_unfit (h : ¬ TariffFits img) : tariffImage img = .error 0 := by
  unfold TariffFits at h
  exact if_pos (by omega)

/-- The band records of an image. -/
def tariffBands (img : List Byte) : Except Nat (List Band) :=
  records 26 bandRecord Band.clash (fun _ bs => byteAt bs 0) (byteAt img 2) 0 (img.drop 4) []

section
variable (fits : TariffFits img)
include fits

/-- The steps after the first: the bands, a band 1 among them, and the extras. -/
theorem tariffImage_fits : tariffImage img = (tariffBands img).bind fun bands =>
    if bands.all fun b => b.number != 1 then .error 1
    else (extraRecords (byteAt img 3) (img.drop (4 + 26 * byteAt img 2))).elim (.error 0) fun xs =>
      .ok { version := beNat (slice img 0 2), bands, extras := xs } := by
  obtain ⟨version, low, high, few, len⟩ := fits
  rw [tariffImage, if_neg (by omega), bandRecords_eq _ 0, ← tariffBands]
  cases tariffBands img with
  | error d => rfl
  | ok bands => cases extraRecords (byteAt img 3) (img.drop (4 + 26 * byteAt img 2)) <;> rfl

theorem tariffImage_badBand (h : tariffBands img = .error d) : tariffImage img = .error d := by
  rw [tariffImage_fits fits, h]
  rfl

section
variable {bands : List Band} (read : tariffBands img = .ok bands)
include read

theorem tariffImage_noFirst (h : ∀ b ∈ bands, b.number ≠ 1) : tariffImage img = .error 1 := by
  rw [tariffImage_fits fits, read]
  exact if_pos (by simpa using h)

theorem tariffImage_extras (h : ∃ b ∈ bands, b.number = 1) : tariffImage img =
    (extraRecords (byteAt img 3) (img.drop (4 + 26 * byteAt img 2))).elim (.error 0) fun xs =>
      .ok { version := beNat (slice img 0 2), bands, extras := xs } := by
  rw [tariffImage_fits fits, read]
  exact if_neg (by simpa using h)

end

/-- What the band records of an image are, where they are all taken. -/
theorem tariffBands_ok {bands : List Band} (read : tariffBands img = .ok bands) : bands.length = byteAt img 2
    ∧ (bands.map Band.image).flatten = slice img 4 (26 * byteAt img 2) ∧ (∀ b ∈ bands, b.InRange ∧ b.FirstOpen)
    ∧ (bands.map Band.number).Nodup
    ∧ ((∃ b ∈ bands, b.number = 1) ↔ ∃ j, j < byteAt img 2 ∧ byteAt img (4 + 26 * j) = 1) := by
  obtain ⟨-, low, high, few, len⟩ := fits
  obtain ⟨_, rfl, length, entries, bytes, all, apart⟩ := records_ok (image := Band.image)
    (good := fun x => x.InRange ∧ x.FirstOpen) (fun b e => bandRecord_reads) (by rw [List.length_drop]; omega) read
  refine ⟨length, bytes, all, ?_, ?_⟩
  · rw [List.Nodup, List.pairwise_map]
    exact (apart .nil).imp fun distinct => by simpa [Band.clash] using distinct
  have number : ∀ (j : Nat) (x : Band), j < byteAt img 2 → bands[j]? = some x →
      x.number = byteAt img (4 + 26 * j) := fun j x hj hx => by
    rw [bandRecord_number ((entries j hj).trans hx), slice_drop, byteAt_slice (by omega), Nat.add_zero]
  constructor
  · rintro ⟨b, hb, one⟩
    obtain ⟨j, hj, rfl⟩ := List.mem_iff_getElem.mp hb
    have lt : j < byteAt img 2 := length ▸ hj
    exact ⟨j, lt, (number j _ lt (List.getElem?_eq_getElem hj)).symm.trans one⟩
  · rintro ⟨j, lt, one⟩
    have hj : j < bands.length := length.symm ▸ lt
    exact ⟨bands[j], List.getElem_mem hj, (number j _ lt (List.getElem?_eq_getElem hj)).trans one⟩

end

theorem tariffImage_ok {t : Tariff} (h : tariffImage img = .ok t) : TariffFits img ∧ ∃ bands xs,
    tariffBands img = .ok bands ∧ (∃ b ∈ bands, b.number = 1)
      ∧ extraRecords (byteAt img 3) (img.drop (4 + 26 * byteAt img 2)) = some xs
      ∧ t = { version := beNat (slice img 0 2), bands, extras := xs } := by
  by_cases fits : TariffFits img
  · refine ⟨fits, ?_⟩
    cases read : tariffBands img with
    | error d => exact nomatch (tariffImage_badBand fits read).symm.trans h
    | ok bands =>
      by_cases first : ∃ b ∈ bands, b.number = 1
      · rw [tariffImage_extras fits read first] at h
        cases extras : extraRecords (byteAt img 3) (img.drop (4 + 26 * byteAt img 2)) with
        | none =>
          rw [extras] at h
          cases h
        | some xs =>
          rw [extras] at h
          exact ⟨bands, xs, rfl, first, rfl, (Except.ok.inj h).symm⟩
      · exact nomatch (tariffImage_noFirst fits read (by simpa using first)).symm.trans h
  · exact nomatch (tariffImage_unfit fits).symm.trans h

theorem tariffImage_holds {t : Tariff} (h : tariffImage img = .ok t) :
    img = u16 t.version ++ u8 t.bands.length ++ u8 t.extras.length ++ (t.bands.map Band.image).flatten
        ++ (t.extras.map Extra.image).flatten
      ∧ 1 ≤ t.version ∧ t.version ≤ 65535 ∧ 1 ≤ t.bands.length ∧ t.bands.length ≤ 8 ∧ t.extras.length ≤ 8
      ∧ (t.bands.map Band.number).Nodup ∧ (∃ b ∈ t.bands, b.number = 1 ∧ b.window = none)
      ∧ (∀ b ∈ t.bands, b.InRange) ∧ ∀ e ∈ t.extras, e.InRange := by
  obtain ⟨fits, bands, xs, read, ⟨b, hb, first⟩, extras, rfl⟩ := tariffImage_ok h
  obtain ⟨length, bytes, all, distinct, -⟩ := tariffBands_ok fits read
  obtain ⟨version, low, high, few, len⟩ := fits
  obtain ⟨bytes', length', all'⟩ := extraRecords_reads (by rw [List.length_drop]; omega) extras
  have word := beNat_word_lt (bs := slice img 0 2) (by rw [slice_length (by omega)])
  refine ⟨?_, by dsimp only; omega, word, by dsimp only; omega, by dsimp only; omega, by dsimp only; omega, distinct,
    ⟨b, hb, first, (all b hb).2 first⟩, fun b hb => (all b hb).1, all'⟩
  dsimp only
  rw [bytes, bytes', length, length', u16_slice (by omega), u8_byteAt (by omega), u8_byteAt (by omega), ← slice_zero,
    slice_drop, slice_append img 0 2 1, slice_append img 0 3 1, slice_append img 0 4, Nat.add_zero, slice_zero_append,
    slice_all len]

/-- The steps of a tariff image that passes the first. -/
theorem tariffImage_steps (fits : TariffFits img) :
    (∀ n, n < byteAt img 2 → (∀ j, j < n → BandRecordGood img j) → ¬ BandRecordGood img n →
        tariffImage img = .error (byteAt img (4 + 26 * n)))
      ∧ ((∀ j, j < byteAt img 2 → BandRecordGood img j) →
          ((∀ j, j < byteAt img 2 → byteAt img (4 + 26 * j) ≠ 1) → tariffImage img = .error 1)
          ∧ ((∃ j, j < byteAt img 2 ∧ byteAt img (4 + 26 * j) = 1) →
              ((∃ j, j < byteAt img 3 ∧ ¬ ExtraRecordGood img (4 + 26 * byteAt img 2 + 4 * j)) → tariffImage img = .error 0)
              ∧ ((∀ j, j < byteAt img 3 → ExtraRecordGood img (4 + 26 * byteAt img 2 + 4 * j)) →
                  ∃ x, tariffImage img = .ok x ∧ x.version = beNat (slice img 0 2) ∧ x.bands.length = byteAt img 2
                    ∧ x.extras.length = byteAt img 3))) := by
  have same := forall_lt_congr (n := byteAt img 2) fun k _ => BandRecordGood_iff (img := img) (k := k)
  refine ⟨fun n lt before bad => ?_, fun good => ?_⟩
  · have before' := (same n lt.le).mpr before
    refine tariffImage_badBand fits (records_error.mpr ⟨n, lt, ?_, (BandRecordGood_iff before').not.mpr bad, before'⟩)
    rw [List.drop_drop, byteAt_drop, Nat.add_zero]
  obtain ⟨bands, read⟩ : ∃ bands, tariffBands img = .ok bands := records_ok_of_fits ((same _ le_rfl).mpr good)
  obtain ⟨length, -, -, -, numbers⟩ := tariffBands_ok fits read
  refine ⟨fun none => tariffImage_noFirst fits read ?_, fun first => ?_⟩
  · by_contra some
    obtain ⟨j, lt, one⟩ := numbers.mp (by simpa using some)
    exact none j lt one
  have extras := tariffImage_extras fits read (numbers.mpr first)
  have good : (∃ xs, extraRecords (byteAt img 3) (img.drop (4 + 26 * byteAt img 2)) = some xs)
      ↔ ∀ j < byteAt img 3, ExtraRecordGood img (4 + 26 * byteAt img 2 + 4 * j) := by
    simp only [extraRecords_iff, ExtraRecordGood_drop]
  refine ⟨fun ⟨j, lt, bad⟩ => ?_, fun every => ?_⟩
  · cases h : extraRecords (byteAt img 3) (img.drop (4 + 26 * byteAt img 2)) with
    | none => rw [extras, h]; rfl
    | some xs => exact absurd (good.mp ⟨xs, h⟩ j lt) bad
  · obtain ⟨xs, h⟩ := good.mpr every
    obtain ⟨-, -, -, -, len⟩ := fits
    obtain ⟨-, length', -⟩ := extraRecords_reads (by rw [List.length_drop]; omega) h
    rw [h] at extras
    exact ⟨_, extras, rfl, length, length'⟩

/-- Settles O49: what each valid image holds and which bytes it is, then each table's rejections in the order of its
steps. -/
theorem appliedTablesValid : Obligations.AppliedTablesValid := by
  refine ⟨fun img zs => zoneImage_holds, fun img es => addressImage_ok, fun img t => tariffImage_holds,
    fun img i => identityImage_ok, fun img x h => ?settings, ?settingsRejected, ?identity, fun img d => addressImage_error,
    fun img => zoneImage_unfit, fun zs => zoneImage_steps, ?tariffRejected⟩
  case settings =>
    obtain ⟨len, rfl, good⟩ := settingsImage_ok h
    obtain ⟨reach, ⟨award, award'⟩, ⟨loss, loss'⟩, ⟨ack, ack'⟩, ⟨hold, hold'⟩, ⟨active, active'⟩, ⟨acked, acked'⟩,
      visible, roof, ⟨seat, seat'⟩, air, offers⟩ := settings_in_range good
    exact ⟨reach, award, award', loss, loss', ack, ack', hold, hold', active, active', acked, acked', seat, seat',
      settingsOf_bytes len visible roof air offers _ rfl⟩
  case settingsRejected =>
    rintro img d range rfl
    exact settingsImage_error
  case identity =>
    rintro img cab fleet k rfl rfl rfl
    rfl
  case tariffRejected =>
    rintro img nb nx rfl rfl
    refine ⟨fun unfit => tariffImage_unfit ?_,
      fun version low high few len => tariffImage_steps ⟨version, low, high, few, len⟩⟩
    unfold TariffFits
    omega

end Sys2Proof.Machine
end

section
/-! PROOFS. What a settings commit does at once (R21, R81, R114, R129, R167, R179). -/

namespace Sys2Proof.Machine

variable {s t u : State} {new : Settings} {k : EventKind}

/-! ## Events raised or not -/

theorem State.raise_raises (e : EventKind) : Raised (if s.mainRuns then [e] else []) s (s.raise e) := by
  rw [Raised, State.raise_events]
  split <;> rfl

theorem State.lapseShown_raises :
    Raised (if s.mainRuns && s.anyEntry .shown then [.offerClosed] else []) s s.lapseShown := by
  cases shown : s.anyEntry .shown with
  | false =>
    rw [State.lapseShown_none shown, Bool.and_false]
    exact .of_events rfl
  | true =>
    rw [State.lapseShown, if_pos shown, Bool.and_true]
    exact State.raise_raises (s := s.withEntries _) .offerClosed

/-- SHOWN entries are what lapsing changes. -/
theorem lapse_entries_ne {es : List OfferEntry} :
    es.map OfferEntry.lapse ≠ es ↔ (es.any fun e => e.state = .shown) = true := by
  rw [List.any_eq_true, ← not_iff_not, not_not]
  constructor
  · rintro same ⟨e, he, shown⟩
    rw [← same] at he
    obtain ⟨x, -, rfl⟩ := List.mem_map.mp he
    exact x.lapse_not_shown (of_decide_eq_true shown)
  · intro none
    refine (List.map_congr_left fun e he => OfferEntry.lapse_of_ne fun shown => ?_).trans (List.map_id es)
    exact none ⟨e, he, decide_eq_true shown⟩

/-! ## The Offer Unit is told to stop (R81) -/

/-- A stop raises OFFER_CLOSED where it changes an entry. -/
theorem State.stopOffers_raises : Raised
    (if s.mainRuns ∧ s.stopOffers.offers.entries ≠ s.offers.entries then [.offerClosed] else []) s s.stopOffers := by
  by_cases run : s.offers.run = .running
  · by_cases bid : ∃ e ∈ s.offers.entries, e.state = .bid
    · rw [State.stopOffers_bid run bid, if_neg fun k => k.2 rfl]
      exact .of_events rfl
    · have free : ∀ e ∈ s.offers.entries, e.state ≠ .bid := by simpa using bid
      rw [State.stopOffers_free run free, State.lapseShown_offers]
      have raised := State.lapseShown_raises (s := s.offersHalted)
      have shown : (s.mainRuns = true ∧ s.offersHalted.offers.entries.map OfferEntry.lapse ≠ s.offers.entries)
          ↔ (s.offersHalted.mainRuns && s.offersHalted.anyEntry .shown) = true := by
        rw [Bool.and_eq_true]
        exact and_congr_right fun _ => lapse_entries_ne
      rw [if_congr shown rfl rfl]
      exact raised.from_same rfl
  · rw [State.stopOffers_of_not_running run, if_neg fun k => k.2 rfl]
    exact .of_events rfl

/-! ## The stops of a settings commit (R81, R129, R187) -/

/-- The air link's part. -/
def State.airCommitted (s : State) : State := if s.settings.stopAir then s.stopAir else s.runAir

theorem State.only_airCommitted (s : State) : OnlyChanges [.link] s s.airCommitted := by
  unfold State.airCommitted
  split
  · exact s.only_stopAir
  · exact s.only_runAir

theorem State.airCommitted_link : s.airCommitted.link =
    if s.settings.stopAir = true then
      if s.link.run = .running then { s.link with run := if s.link.record = none then .stopped else .stopping } else s.link
    else { s.link with run := .running } := by
  unfold State.airCommitted
  split
  · exact State.stopAir_link
  · rfl

theorem State.commitStops_elsewhere (h : s.condition ≠ .parked) : s.commitStops = s := if_neg h

theorem State.commitStops_parked (h : s.condition = .parked) :
    s.commitStops = if s.settings.stopOffers then s.airCommitted.stopOffers else s.airCommitted.runOffers := by
  have settings : s.airCommitted.settings = s.settings := s.only_airCommitted.keep .settings (by decide)
  rw [← settings]
  exact if_pos h

theorem State.commitStops_link (h : s.condition = .parked) : s.commitStops.link = s.airCommitted.link := by
  rw [State.commitStops_parked h]
  split
  · exact (State.only_stopOffers _).keep .link (by decide)
  · rfl

theorem State.commitStops_stopOffers (h : s.condition = .parked) (stop : s.settings.stopOffers = true) :
    s.commitStops = s.airCommitted.stopOffers := (State.commitStops_parked h).trans (if_pos stop)

theorem State.commitStops_runOffers (h : s.condition = .parked) (stop : s.settings.stopOffers = false) :
    s.commitStops = s.airCommitted.runOffers := (State.commitStops_parked h).trans (if_neg (by simp [stop]))

/-- The Offer Unit's part. -/
theorem State.commitStops_offers (h : s.condition = .parked) :
    (s.settings.stopOffers = true → s.offers.run ≠ .running → s.commitStops.offers = s.offers)
      ∧ (s.settings.stopOffers = false → s.commitStops.offers = { s.offers with run := .running })
      ∧ (s.settings.stopOffers = true → s.offers.run = .running → (∃ e ∈ s.offers.entries, e.state = .bid) →
          s.commitStops.offers = { s.offers with run := .stopping })
      ∧ (s.settings.stopOffers = true → s.offers.run = .running → (∀ e ∈ s.offers.entries, e.state ≠ .bid) →
          s.commitStops.offers = { s.offers with run := .stopped, entries := s.offers.entries.map OfferEntry.lapse }) := by
  have offers : s.airCommitted.offers = s.offers := s.only_airCommitted.keep .offers (by decide)
  rw [← offers]
  refine ⟨fun stop run => ?_, fun goes => ?_, fun stop run bid => ?_, fun stop run free => ?_⟩
  · rw [State.commitStops_stopOffers h stop, State.stopOffers_of_not_running run]
  · rw [State.commitStops_runOffers h goes]
    rfl
  · rw [State.commitStops_stopOffers h stop, State.stopOffers_bid run bid]
    rfl
  · rw [State.commitStops_stopOffers h stop, State.stopOffers_free run free, State.lapseShown_offers]
    rfl

theorem State.commitStops_raises : Raised
    (if s.mainRuns ∧ s.commitStops.offers.entries ≠ s.offers.entries then [.offerClosed] else []) s s.commitStops := by
  have nothing : ∀ {t : State}, t.offers.entries = s.offers.entries → t.events = s.events →
      Raised (if s.mainRuns ∧ t.offers.entries ≠ s.offers.entries then [.offerClosed] else []) s t := by
    intro t entries events
    rw [if_neg fun k => k.2 entries]
    exact .of_events events
  have air := s.only_airCommitted
  have offers : s.airCommitted.offers = s.offers := air.keep .offers (by decide)
  have events : s.airCommitted.events = s.events := air.keep .events (by decide)
  by_cases h : s.condition = .parked
  · cases stop : s.settings.stopOffers with
    | true =>
      have raised := State.stopOffers_raises (s := s.airCommitted)
      rw [air.mainRuns_eq (by decide), offers] at raised
      rw [State.commitStops_stopOffers h stop]
      exact raised.from_same events
    | false =>
      rw [State.commitStops_runOffers h stop]
      exact nothing (Eq.trans (b := s.airCommitted.offers.entries) rfl (congrArg Offers.entries offers)) events
  · rw [State.commitStops_elsewhere h]
    exact nothing rfl rfl

/-! ## The settings, the EMERGENCY flag and the roof pattern (R21, R114, R167, R179) -/

/-- The state in which a settings commit looks at the stops. -/
def State.withNewSettings (s : State) (new : Settings) : State :=
  ((s.withSettings new).commitVisibility s.settings.visible).commitRoof

theorem State.applySettings_eq : s.applySettings new = (s.withNewSettings new).commitStops := rfl

theorem State.commitVisibility_events (was : Bool) : (s.commitVisibility was).events =
    if was = true ∧ s.settings.visible = false then s.events.clear .emergency else s.events := by
  unfold State.commitVisibility
  cases was <;> cases s.settings.visible <;> rfl

theorem State.commitVisibility_roofLevel (was : Bool) : (s.commitVisibility was).roofLevel = s.roofLevel := by
  unfold State.commitVisibility
  split <;> rfl

theorem State.only_withNewSettings (s : State) (new : Settings) :
    OnlyChanges [.settings, .roof, .events] s (s.withNewSettings new) :=
  .commitRoof (.commitVisibility _ (.withSettings (.refl s) (by decide)) (by decide)) (by decide)

theorem State.withNewSettings_settings : (s.withNewSettings new).settings = new :=
  ((State.only_commitRoof _).keep .settings (by decide)).trans ((State.only_commitVisibility _ _).keep .settings (by decide))

theorem State.withNewSettings_events : (s.withNewSettings new).events =
    if s.settings.visible = true ∧ new.visible = false then s.events.clear .emergency else s.events :=
  ((State.only_commitRoof _).keep .events (by decide)).trans (State.commitVisibility_events _)

theorem State.commitRoof_roof : s.commitRoof.roof =
    if s.settings.roofPattern = true then
      if (s.emergency.state = .active ∨ s.emergency.state = .acked) ∧ s.roof = .steady then .armed s.roofLevel else s.roof
    else .steady := by
  unfold State.commitRoof
  cases s.settings.roofPattern with
  | false => rfl
  | true =>
    simp only [Bool.not_true, Bool.false_eq_true, if_false, if_true, EmergencyState.raised_iff]
    split <;> rfl

theorem State.withNewSettings_roof : (s.withNewSettings new).roof =
    if new.roofPattern = true then
      if (s.emergency.state = .active ∨ s.emergency.state = .acked) ∧ s.roof = .steady then .armed s.roofLevel else s.roof
    else .steady := by
  have only := (s.withSettings new).only_commitVisibility s.settings.visible
  have settings : ((s.withSettings new).commitVisibility s.settings.visible).settings = new :=
    only.keep .settings (by decide)
  have emergency : ((s.withSettings new).commitVisibility s.settings.visible).emergency = s.emergency :=
    only.keep .emergency (by decide)
  have roof : ((s.withSettings new).commitVisibility s.settings.visible).roof = s.roof := only.keep .roof (by decide)
  have level : ((s.withSettings new).commitVisibility s.settings.visible).roofLevel = s.roofLevel :=
    State.commitVisibility_roofLevel _
  rw [State.withNewSettings, State.commitRoof_roof, settings, emergency, roof, level]

/-! ## A settings commit (R167) -/

theorem State.applySettings_settings : (s.applySettings new).settings = new :=
  ((State.only_commitStops _).keep .settings (by decide)).trans State.withNewSettings_settings

theorem State.applySettings_roof : (s.applySettings new).roof = (s.withNewSettings new).roof :=
  (State.only_commitStops _).keep .roof (by decide)

/-- The EMERGENCY flag is cleared where SILENT begins, and OFFER_CLOSED is raised where an entry lapses. -/
theorem State.applySettings_raises : ∃ es, Raised es (s.withNewSettings new) (s.applySettings new)
    ∧ ∀ k, k ∈ es ↔ k = .offerClosed ∧ s.mainRuns = true ∧ (s.applySettings new).offers.entries ≠ s.offers.entries := by
  have only := s.only_withNewSettings new
  have offers : (s.withNewSettings new).offers = s.offers := only.keep .offers (by decide)
  have raised := State.commitStops_raises (s := s.withNewSettings new)
  rw [only.mainRuns_eq (by decide), offers, ← State.applySettings_eq] at raised
  refine ⟨_, raised, fun k => ?_⟩
  split
  · next h => simp [h]
  · next h => simp [h]

theorem State.applySettings_flagged : (s.applySettings new).flagged k =
    (s.flagged k && !(decide (k = .emergency) && s.settings.visible && !new.visible)
      || (decide (k = .offerClosed) && s.mainRuns
          && decide ((s.applySettings new).offers.entries ≠ s.offers.entries))) := by
  obtain ⟨es, raised, only⟩ := State.applySettings_raises (s := s) (new := new)
  have cleared : (s.withNewSettings new).flagged k =
      (s.flagged k && !(decide (k = .emergency) && s.settings.visible && !new.visible)) := by
    rw [State.flagged, State.withNewSettings_events]
    split
    · next h =>
      rw [Events.clear_bit]
      simp [h, State.flagged, EventKind.index_inj]
    · next h =>
      have visible : (s.settings.visible && !new.visible) = false := by simpa using h
      simp [Bool.and_assoc, visible, State.flagged]
  rw [raised.flagged, cleared]
  simp only [only, Bool.decide_and, Bool.decide_eq_true, Bool.and_assoc]

theorem State.applySettings_setup : (s.applySettings new).events.enables = s.events.enables
    ∧ (s.applySettings new).events.lines = s.events.lines := by
  obtain ⟨es, raised, -⟩ := State.applySettings_raises (s := s) (new := new)
  obtain ⟨enables, lines⟩ := raised.setup
  rw [enables, lines, State.withNewSettings_events]
  split <;> exact ⟨rfl, rfl⟩

section
variable (h : s.condition = .parked)
include h

theorem State.withNewSettings_parked : (s.withNewSettings new).condition = .parked :=
  ((s.only_withNewSettings new).condition_eq (by decide)).trans h

theorem State.applySettings_link_parked : (s.applySettings new).link =
    if new.stopAir = true then
      if s.link.run = .running then { s.link with run := if s.link.record = none then .stopped else .stopping } else s.link
    else { s.link with run := .running } := by
  have link : (s.withNewSettings new).link = s.link := (s.only_withNewSettings new).keep .link (by decide)
  rw [State.applySettings_eq, State.commitStops_link (State.withNewSettings_parked h), State.airCommitted_link, link,
    State.withNewSettings_settings]

theorem State.applySettings_offers_parked :
    (new.stopOffers = true → s.offers.run ≠ .running → (s.applySettings new).offers = s.offers)
      ∧ (new.stopOffers = false → (s.applySettings new).offers = { s.offers with run := .running })
      ∧ (new.stopOffers = true → s.offers.run = .running → (∃ e ∈ s.offers.entries, e.state = .bid) →
          (s.applySettings new).offers = { s.offers with run := .stopping })
      ∧ (new.stopOffers = true → s.offers.run = .running → (∀ e ∈ s.offers.entries, e.state ≠ .bid) →
          (s.applySettings new).offers
            = { s.offers with run := .stopped, entries := s.offers.entries.map OfferEntry.lapse }) := by
  have offers : (s.withNewSettings new).offers = s.offers := (s.only_withNewSettings new).keep .offers (by decide)
  have stops := State.commitStops_offers (State.withNewSettings_parked (new := new) h)
  rw [State.withNewSettings_settings, offers, ← State.applySettings_eq] at stops
  exact stops

end

theorem State.applySettings_elsewhere (h : s.condition ≠ .parked) :
    (s.applySettings new).link = s.link ∧ (s.applySettings new).offers = s.offers := by
  have only := s.only_withNewSettings new
  rw [State.applySettings_eq, State.commitStops_elsewhere (by rwa [only.condition_eq (by decide)])]
  exact ⟨only.keep .link (by decide), only.keep .offers (by decide)⟩

/-- No frame in reception is opened or closed. -/
theorem State.applySettings_record : (s.applySettings new).link.record = s.link.record := by
  by_cases h : s.condition = .parked
  · rw [State.applySettings_link_parked h]
    split
    · split <;> rfl
    · rfl
  · rw [(State.applySettings_elsewhere h).1]

end Sys2Proof.Machine
end

section
/-! PROOFS. TABLE_COMMIT takes its steps in order (R160), and what it applies (R163 to R168). -/

namespace Sys2Proof.Machine

variable {s t u v : State} {i : Instr} {p : List Byte} {c : Load} {svc : Bool} {check d : Nat} {reason : Reason}
  {bs : List Block} {img : List Byte}

/-! ## The identity (R108, R168) -/

theorem State.fillSlot_arbiter (m : s.mainRuns = true) (cab : s.identity.cab ≠ 0) :
    s.fillSlot.arbiter = { s.arbiter with slot := s.arbiter.slot || s.emergency.owed } := by
  unfold State.fillSlot
  cases owed : s.emergency.owed <;> simp [m, cab]

/-- A report that is owed fills the slot, unless one is in flight for it. -/
theorem State.applyIdentity_arbiter {new : Identity} (m : s.mainRuns = true) (cab : new.cab ≠ 0) :
    (s.applyIdentity new).arbiter
      = { s.arbiter with slot := s.arbiter.slot || s.emergency.owed && !s.slotInFlight } := by
  have inFlight : (s.withIdentity new).slotInFlight = s.slotInFlight := rfl
  unfold State.applyIdentity
  dsimp only
  rw [inFlight]
  cases flies : s.slotInFlight with
  | true => simp
  | false => simpa using State.fillSlot_arbiter (s := s.withIdentity new) m cab

theorem State.applyIdentity_identity {new : Identity} : (s.applyIdentity new).identity = new := by
  unfold State.applyIdentity
  dsimp only
  split
  · rfl
  · exact (State.only_fillSlot _).keep .identity (by decide)

/-! ## The steps of a commit (R160) -/

section
variable (whole : c.length ≤ c.buffer.length)
include whole

theorem State.commitLoad_badCheck (h : (crc16 c.buffer).toNat ≠ check) : s.commitLoad c check svc
    = (s.endLoad c.port (c.ends .badCheck (crc16 c.buffer).toNat), (c.ends .badCheck (crc16 c.buffer).toNat).bytes) :=
  (if_neg (Nat.not_lt.mpr whole)).trans (if_pos h)

variable (good : (crc16 c.buffer).toNat = check)
include good

theorem State.commitLoad_authority (table : c.table = .identity) (low : svc = false) : s.commitLoad c check svc
    = (s.endLoad c.port (c.ends .authority 0), (c.ends .authority 0).bytes) :=
  (if_neg (Nat.not_lt.mpr whole)).trans ((if_neg (not_not.mpr good)).trans (if_pos ⟨table, low⟩))

variable (may : c.table = .identity → svc = true)
include may

theorem State.commitLoad_rejected (h : s.applyImage c.table c.buffer = .error (reason, d)) : s.commitLoad c check svc
    = (s.endLoad c.port (c.rejects reason d), (c.rejects reason d).bytes) := by
  refine (if_neg (Nat.not_lt.mpr whole)).trans ((if_neg (not_not.mpr good)).trans ((if_neg fun k => ?_).trans ?_))
  · exact Bool.noConfusion ((may k.1).symm.trans k.2)
  · rw [h]
    rfl

theorem State.commitLoad_applied (h : s.applyImage c.table c.buffer = .ok v) : s.commitLoad c check svc
    = (v.endLoad c.port (c.ends .ok 0), (c.ends .ok 0).bytes) := by
  refine (if_neg (Nat.not_lt.mpr whole)).trans ((if_neg (not_not.mpr good)).trans ((if_neg fun k => ?_).trans ?_))
  · exact Bool.noConfusion ((may k.1).symm.trans k.2)
  · rw [h]
    rfl

end

/-! ## The tables (R163 to R168) -/

theorem State.applyImage_address_rejected (h : addressImage img = .error d) :
    s.applyImage .address img = .error (.badAddress, d) := by rw [State.applyImage, h]

theorem State.applyImage_address {x : List AddressEntry} (h : addressImage img = .ok x) :
    s.applyImage .address img = .ok (s.withAddresses x) := by rw [State.applyImage, h]

theorem State.applyImage_zone_rejected (h : zoneImage img = .error d) :
    s.applyImage .zone img = .error (.badZone, d) := by rw [State.applyImage, h]

theorem State.applyImage_zone {x : List Zone} (h : zoneImage img = .ok x) :
    s.applyImage .zone img = .ok (s.withZones x) := by rw [State.applyImage, h]

theorem State.applyImage_tariff_rejected (h : tariffImage img = .error d) :
    s.applyImage .tariff img = .error (.badTariff, d) := by rw [State.applyImage, h]

theorem State.applyImage_tariff {x : Tariff} (h : tariffImage img = .ok x) :
    s.applyImage .tariff img = .ok (s.withTariff (some x)) := by rw [State.applyImage, h]

theorem State.applyImage_settings_rejected (h : settingsImage img = .error d) :
    s.applyImage .settings img = .error (.badSettings, d) := by rw [State.applyImage, h]

theorem State.applyImage_settings {x : Settings} (h : settingsImage img = .ok x) :
    s.applyImage .settings img = .ok (s.applySettings x) := by rw [State.applyImage, h]

theorem State.applyImage_identity_rejected (h : identityImage img = .error d) :
    s.applyImage .identity img = .error (.badIdentity, d) := by rw [State.applyImage, h]

theorem State.applyImage_identity_busy {x : Identity} (h : identityImage img = .ok x) (busy : s.meter.state ≠ .off) :
    s.applyImage .identity img = .error (.meterBusy, 0) := by
  rw [State.applyImage, h]
  exact if_neg busy

theorem State.applyImage_identity {x : Identity} (h : identityImage img = .ok x) (off : s.meter.state = .off) :
    s.applyImage .identity img = .ok (s.applyIdentity x) := by
  rw [State.applyImage, h]
  exact if_pos off

/-! ## A commit whose image is complete and passes the check -/

section
variable (h : CommitCarried i c check svc s t) (whole : c.length ≤ c.buffer.length)
include h whole

theorem CommitCarried.badCheck (m : s.mainRuns = true) (bad : (crc16 c.buffer).toNat ≠ check) :
    LoadEnded i c.port [] (c.ends .badCheck (crc16 c.buffer).toNat) s t := by
  rw [CommitCarried, State.commitLoad_badCheck whole bad] at h
  exact h.endedUnapplied m

variable (good : (crc16 c.buffer).toNat = check)
include good

theorem CommitCarried.authority (m : s.mainRuns = true) (table : c.table = .identity) (low : svc = false) :
    LoadEnded i c.port [] (c.ends .authority 0) s t := by
  rw [CommitCarried, State.commitLoad_authority whole good table low] at h
  exact h.endedUnapplied m

variable (may : c.table = .identity → svc = true)
include may

theorem CommitCarried.rejected (m : s.mainRuns = true)
    (image : (s.inHand c.port).applyImage c.table c.buffer = .error (reason, d)) :
    LoadEnded i c.port [] (c.rejects reason d) s t := by
  rw [CommitCarried, State.commitLoad_rejected whole good may image] at h
  exact h.endedUnapplied m

variable (image : (s.inHand c.port).applyImage c.table c.buffer = .ok v)
include image

theorem CommitCarried.toCarried : Carried i c.port s (v.endLoad c.port (c.ends .ok 0)) (c.ends .ok 0).bytes t := by
  rw [CommitCarried, State.commitLoad_applied whole good may image] at h
  exact h

theorem CommitCarried.applied (m : s.mainRuns = true) (only : OnlyChanges bs (s.inHand c.port) v) (closed : CheckKept bs)
    (apart : ∀ b ∈ [Block.link, .loader, .events, .terminal, .monitor], b ∉ bs) (queue : c.port = .air → .arbiter ∉ bs) :
    LoadEnded i c.port bs (c.ends .ok 0) s t :=
  (h.toCarried whole good may image).loadEnded m only closed apart queue

/-- The tables end as the image has them. -/
theorem CommitCarried.keep (b : Block)
    (k : b ∉ [.link, .terminal, .check, .pins] := by decide)
    (k' : b ∉ [.loader, .arbiter, .terminal, .events] := by decide) :
    b.same v t :=
  Block.same_trans ((State.only_endLoad c.port (c.ends .ok 0) v).keep b k')
    ((h.toCarried whole good may image).keep b k)

end

/-! ## A settings commit ends as its application has it -/

theorem State.receiveBoundary_received (h : s.link.record = none) : s.receiveBoundary.link = s.received := by
  unfold State.receiveBoundary State.received
  by_cases stops : s.link.run = .stopping
  · rw [if_pos ⟨stops, h⟩, if_pos stops, ← h]
    rfl
  · rw [if_neg fun k => stops k.1, if_neg stops, ← h]

theorem State.routedFrom_received (h : u.link.record = none) : (s.routedFrom u).link = u.received :=
  Eq.trans (b := u.receiveBoundary.link) rfl (State.receiveBoundary_received h)

theorem State.received_congr (h : t.link = s.link) : t.received = s.received := by rw [State.received, h]; rfl

section
variable {x : Settings} {r : LoadResult}

/-- The blocks that a settings commit writes. -/
theorem settingsCommit_only {port : LoadPort}
    (h : Carried i port s (((s.inHand port).applySettings x).endLoad port r) p t) :
    OnlyChanges [.settings, .roof, .offers, .link, .events, .loader, .arbiter, .terminal, .check, .pins] s t :=
  ((((s.only_inHand port).trans (State.only_applySettings x _)).trans (State.only_endLoad port r _)).trans h.only).mono
    (by decide)

theorem settingsCommit_terminal (h : Carried i .terminal s ((s.applySettings x).endLoad .terminal r) p t) :
    t.link = (s.applySettings x).link ∧ t.arbiter = s.arbiter := by
  have ended := State.only_endLoad_of .terminal r (s.applySettings x)
  have arbiter : (s.applySettings x).arbiter = s.arbiter := (State.only_applySettings x s).keep .arbiter (by decide)
  obtain ⟨k, tag, body, -, rfl⟩ := h
  have answered := s.only_answeredFrom ((s.applySettings x).endLoad .terminal r) (BitVec.ofNat 8 k) tag p
  exact ⟨Eq.trans (answered.keep .link (by decide)) (ended.keep .link (by decide)),
    (Eq.trans (answered.keep .arbiter (by decide)) (ended.keep .arbiter (by decide))).trans arbiter⟩

theorem settingsCommit_air (h : Carried i .air s (((s.withRecord none).applySettings x).endLoad .air r) p t) :
    t.link = ((s.withRecord none).applySettings x).received := by
  have ended : (((s.withRecord none).applySettings x).endLoad .air r).link = ((s.withRecord none).applySettings x).link :=
    (State.only_endLoad_of .air r _).keep .link (by decide)
  have closed : ((s.withRecord none).applySettings x).link.record = none := State.applySettings_record
  obtain ⟨-, rfl⟩ := h
  exact (State.routedFrom_received (by rw [ended, closed])).trans (State.received_congr ended)

end

/-- R21, R81, R114, R129, R167, R179: what a settings commit does, in whatever state. -/
theorem State.applySettings_takes (s : State) (x : Settings) :
    let t := s.applySettings x
    OnlyChanges [.settings, .roof, .offers, .link, .events] s t ∧ t.settings = x
      ∧ (s.settings.visible = true → x.visible = false → t.flagged .emergency = false)
      ∧ (s.settings.visible = false ∨ x.visible = true → t.flagged .emergency = s.flagged .emergency)
      ∧ (∀ k, k ≠ .emergency → k ≠ .offerClosed → t.flagged k = s.flagged k)
      ∧ (s.flagged .offerClosed = true → t.flagged .offerClosed = true)
      ∧ (s.mainRuns = true → s.flagged .offerClosed = false →
          (t.flagged .offerClosed = true ↔ t.offers.entries ≠ s.offers.entries)) := by
  have flagged := fun k => State.applySettings_flagged (s := s) (new := x) (k := k)
  refine ⟨s.only_applySettings x, State.applySettings_settings, fun shown silent => ?_, fun same => ?_,
    fun k emergency closed => ?_, fun stays => ?_, fun m clear => ?_⟩
  · simp [flagged, shown, silent]
  · rcases same with same | same <;> simp [flagged, same]
  · simp [flagged, emergency, closed]
  · simp [flagged, stays]
  · simp [flagged, m, clear]

section
variable (carries : CommitCarried i c check svc s t) (m : s.mainRuns = true) (whole : c.length ≤ c.buffer.length)
  (good : (crc16 c.buffer).toNat = check)
include carries m whole good

theorem CommitCarried.address (table : c.table = .address) :
    (∀ d, addressImage c.buffer = .error d → LoadEnded i c.port [] (c.rejects .badAddress d) s t)
      ∧ ∀ x, addressImage c.buffer = .ok x → LoadEnded i c.port [.addresses] (c.ends .ok 0) s t ∧ t.addresses = x := by
  have may : c.table = .identity → svc = true := by rw [table]; nofun
  refine ⟨fun d image => carries.rejected whole good may m ?_, fun x image => ?_⟩
  · rw [table]
    exact State.applyImage_address_rejected image
  · have applied := table ▸ State.applyImage_address (s := s.inHand c.port) image
    exact ⟨carries.applied whole good may applied m (.withAddresses (.refl _) (by decide)) (.inr (by decide)) (by decide)
      (fun _ => by decide), carries.keep whole good may applied .addresses⟩

theorem CommitCarried.zone (table : c.table = .zone) :
    (∀ d, zoneImage c.buffer = .error d → LoadEnded i c.port [] (c.rejects .badZone d) s t)
      ∧ ∀ x, zoneImage c.buffer = .ok x → LoadEnded i c.port [.zones] (c.ends .ok 0) s t ∧ t.zones = x := by
  have may : c.table = .identity → svc = true := by rw [table]; nofun
  refine ⟨fun d image => carries.rejected whole good may m ?_, fun x image => ?_⟩
  · rw [table]
    exact State.applyImage_zone_rejected image
  · have applied := table ▸ State.applyImage_zone (s := s.inHand c.port) image
    exact ⟨carries.applied whole good may applied m (.withZones (.refl _) (by decide)) (.inr (by decide)) (by decide)
      (fun _ => by decide), carries.keep whole good may applied .zones⟩

theorem CommitCarried.tariff (table : c.table = .tariff) :
    (∀ d, tariffImage c.buffer = .error d → LoadEnded i c.port [] (c.rejects .badTariff d) s t)
      ∧ ∀ x, tariffImage c.buffer = .ok x →
          LoadEnded i c.port [.tariff, .check] (c.ends .ok 0) s t ∧ t.tariff = some x := by
  have may : c.table = .identity → svc = true := by rw [table]; nofun
  refine ⟨fun d image => carries.rejected whole good may m ?_, fun x image => ?_⟩
  · rw [table]
    exact State.applyImage_tariff_rejected image
  · have applied := table ▸ State.applyImage_tariff (s := s.inHand c.port) image
    exact ⟨carries.applied whole good may applied m (.withTariff (.refl _) (by decide)) (.inl (by decide)) (by decide)
      (fun _ => by decide), carries.keep whole good may applied .tariff⟩

theorem CommitCarried.settings (table : c.table = .settings) :
    (∀ d, settingsImage c.buffer = .error d → LoadEnded i c.port [] (c.rejects .badSettings d) s t)
      ∧ ∀ x, settingsImage c.buffer = .ok x →
          OnlyChanges [.settings, .roof, .offers, .link, .events, .loader, .arbiter, .terminal, .check, .pins] s t
          ∧ RepliedOk i s t (c.ends .ok 0).bytes
          ∧ ∀ u, u = (s.inHand c.port).applySettings x →
            t.settings = x ∧ t.roof = u.roof ∧ t.offers = u.offers
            ∧ (c.port = .terminal → t.link = u.link ∧ t.arbiter = s.arbiter)
            ∧ (c.port = .air → t.link = u.received)
            ∧ Delivered c.port (c.ends .ok 0) u t := by
  have may : c.table = .identity → svc = true := by rw [table]; nofun
  refine ⟨fun d image => carries.rejected whole good may m ?_, fun x image => ?_⟩
  · rw [table]
    exact State.applyImage_settings_rejected image
  · have applied := table ▸ State.applyImage_settings (s := s.inHand c.port) image
    have ends := carries.toCarried whole good may applied
    have only := (s.only_inHand c.port).trans (State.only_applySettings x (s.inHand c.port))
    refine ⟨settingsCommit_only ends, ends.repliedOk fun own => ?_, ?_⟩
    · rw [own] at only ⊢
      exact ((State.only_endLoad_of .terminal _ _).keep .terminal (by decide)).trans (only.keep .terminal (by decide))
    rintro u rfl
    refine ⟨(carries.keep whole good may applied .settings).trans State.applySettings_settings,
      carries.keep whole good may applied .roof, carries.keep whole good may applied .offers, fun own => ?_, fun air => ?_,
      ends.delivered ((only.mainRuns_eq (by decide)).trans m)⟩
    · rw [own] at ends ⊢
      exact settingsCommit_terminal ends
    · rw [air] at ends ⊢
      exact settingsCommit_air ends

theorem CommitCarried.identity (own : svc = true → c.port = .terminal) (table : c.table = .identity) (high : svc = true) :
    (∀ d, identityImage c.buffer = .error d → LoadEnded i c.port [] (c.rejects .badIdentity d) s t)
      ∧ ∀ x, identityImage c.buffer = .ok x →
          (s.meter.state ≠ .off → LoadEnded i c.port [] (c.rejects .meterBusy 0) s t)
          ∧ (s.meter.state = .off →
              LoadEnded i c.port [.identity, .arbiter, .check] (c.ends .ok 0) s t ∧ t.identity = x
              ∧ t.arbiter = { s.arbiter with slot := s.arbiter.slot || s.emergency.owed && !s.slotInFlight }) := by
  have may : c.table = .identity → svc = true := fun _ => high
  have terminal : c.port = .terminal := own high
  have hand : s.inHand c.port = s := by rw [terminal]; rfl
  refine ⟨fun d image => carries.rejected whole good may m ?_, fun x image => ⟨fun busy =>
    carries.rejected whole good may m ?_, fun off => ?_⟩⟩
  · rw [table]
    exact State.applyImage_identity_rejected image
  · rw [table, hand]
    exact State.applyImage_identity_busy image busy
  · have applied : (s.inHand c.port).applyImage c.table c.buffer = .ok (s.applyIdentity x) := by
      rw [table, hand]
      exact State.applyImage_identity image off
    have ends := carries.toCarried whole good may applied
    have queue : t.arbiter = (s.applyIdentity x).arbiter := by
      rw [terminal] at ends
      exact Eq.trans (ends.keep .arbiter) ((State.only_endLoad_of .terminal _ _).keep .arbiter (by decide))
    refine ⟨carries.applied whole good may applied m ?_ (.inl (by decide)) (by decide) fun air => ?_,
      (carries.keep whole good may applied .identity).trans State.applyIdentity_identity,
      queue.trans (State.applyIdentity_arbiter m (Nat.ne_of_gt (identityImage_ok image).1))⟩
    · rw [hand]
      exact (s.only_applyIdentity x).mono (by decide)
    · exact nomatch air.symm.trans terminal

end

/-- Settles O47: the steps of a commit in their order, each table in turn, and what a settings commit does at once. -/
theorem commitTakesSteps : Obligations.CommitTakesSteps := by
  refine ⟨fun s c f svc i payload held ht hg parsed low brought => ?steps, fun s x => ?settings⟩
  case steps =>
    obtain ⟨t, ok, carries⟩ : ∃ t, exec i s = .next t ∧ CommitCarried i c f.check svc s t :=
      tableCommit_carried held ht hg parsed low brought
    have m := brought.mainRuns
    have own : svc = true → c.port = .terminal := fun high => by
      cases port : c.port with
      | terminal => rfl
      | air => exact Bool.noConfusion (high.symm.trans (low port))
    exact ⟨t, ok, carries.short m, fun whole => ⟨carries.badCheck whole m, fun good =>
      ⟨carries.address m whole good, carries.zone m whole good, carries.tariff m whole good, carries.settings m whole good,
        carries.authority whole good m, carries.identity m whole good own⟩⟩⟩
  case settings =>
    obtain ⟨only, settings, silent, shown, others, closed, entries⟩ := s.applySettings_takes x
    obtain ⟨enables, lines⟩ := State.applySettings_setup (s := s) (new := x)
    have roof : (s.applySettings x).roof = _ := State.applySettings_roof.trans State.withNewSettings_roof
    refine ⟨only, settings, silent, shown, others, closed, entries, enables, lines, fun off => ?_,
      fun on steady raised => ?_, fun on runs => ?_, fun quiet steady => ?_, State.applySettings_elsewhere, fun parked => ?_⟩
    · rw [roof, if_neg (by simp [off])]
    · rw [roof, if_pos on, if_pos ⟨raised, steady⟩]
    · rw [roof, if_pos on, if_neg fun k => runs k.2]
    · have unraised : ¬ ((s.emergency.state = .active ∨ s.emergency.state = .acked) ∧ s.roof = .steady) := by
        rcases quiet with state | state <;> simp [state]
      rw [roof, if_neg unraised, steady, ite_self]
    · have link := State.applySettings_link_parked (new := x) parked
      refine ⟨fun goes => ?_, fun stop runs => ?_, fun stop still => ?_, State.applySettings_offers_parked parked⟩
      · rw [link, if_neg (by simp [goes])]
      · rw [link, if_pos stop, if_pos runs]
      · rw [link, if_pos stop, if_neg still]

end Sys2Proof.Machine
end
